-- ==== Sys2Proof/Word.lean ====
section
/-! DEFINITION. The word types of the telegrams: the byte of the two serial lines and the 16-bit tag. -/

namespace Sys2Proof

/-- One byte of a serial line. -/
abbrev Byte := BitVec 8

/-- The 16-bit TAG of a telegram (R204). -/
abbrev Tag := BitVec 16

end Sys2Proof
end

