-- ==== Sys2Proof/Config.lean ====
section
/-! DEFINITION. The constants of the part that the spec fixes: capacities, identity, saturation value. The one free
value is the byte that stands for a value on the host line where the spec gives a field no codes. -/

namespace Sys2Proof.Config

/-- Entries the program queue holds at most (R23). -/
def programQueueCapacity : Nat := 32

/-- Replies the reply queue holds at most (R197). -/
def replyQueueCapacity : Nat := 8

/-- Reports the event report queue holds at most (R198). -/
def eventQueueCapacity : Nat := 16

/-- Flow units of the hydraulic unit (05, introduction; R89). -/
def flowUnits : Nat := 3

/-- The largest velocity the planner represents, nm per period (00 "Units and quantities", R54). -/
def maxVelocity : Nat := 1048575

/-- Vendor code of the Get Ident reply (R203). -/
def vendorCode : Nat := 0x0174

/-- Part code of the Get Ident reply (R203). -/
def partCode : Nat := 0x0046

/-- Revision number of the Get Ident reply (R203). -/
def revision : Nat := 1

/-! ## Bytes the spec does not state (log 38) -/

/-- The fields of replies and reports whose codes the spec does not give. -/
inductive CodedField where
  | entryKind | outcome | headState | faultAction | faultCode | qualifier | plannerState | estop
  | axisMode | motion | clampState | valveFunction | strokeAction | requestStatus
  | gearbox | gearStep | gearOwner | gearTarget | forkPosition | spindlePhase
  | flood | tsc | site | pendantLink | buttonJog | selector | increment | enabling
deriving DecidableEq, Repr

/-- Free value: the byte that stands for a value of such a field. The spec states none (DESIGN CHOICE, log 38);
`number` tells the values of one field apart. -/
opaque freeCode (field : CodedField) (number : Nat) : Byte

end Sys2Proof.Config
end

