-- ==== Sys2Proof/Syntax.lean ====
section
/-! DEFINITION. The commands of the ZB-46, one constructor per row of spec/opcode_table.json, and the
types of their operands. -/

namespace Sys2Proof

/-- The five axes, in the order the manual always lists them (00 "The machine"). -/
inductive Axis where
  | x | y | z | w | b
deriving DecidableEq, Repr

/-- An end of travel, a direction of motion, the ref_direction field (R1, R11). -/
inductive Sign where
  | plus | minus
deriving DecidableEq, Repr

/-- One value for each of the five axes. -/
structure PerAxis (α : Type) where
  x : α
  y : α
  z : α
  w : α
  b : α
deriving DecidableEq, Repr

/-- The value of one axis. -/
def PerAxis.get {α : Type} (p : PerAxis α) : Axis → α
  | .x => p.x
  | .y => p.y
  | .z => p.z
  | .w => p.w
  | .b => p.b

/-- The five values with one axis's replaced. -/
def PerAxis.set {α : Type} (p : PerAxis α) (a : Axis) (v : α) : PerAxis α :=
  match a with
  | .x => { p with x := v }
  | .y => { p with y := v }
  | .z => { p with z := v }
  | .w => { p with w := v }
  | .b => { p with b := v }

/-- The same function on each axis's value. -/
def PerAxis.map {α β : Type} (f : α → β) (p : PerAxis α) : PerAxis β :=
  ⟨f p.x, f p.y, f p.z, f p.w, f p.b⟩

/-- A value computed for each axis. -/
def PerAxis.of {α : Type} (f : Axis → α) : PerAxis α :=
  ⟨f .x, f .y, f .z, f .w, f .b⟩

/-- The same value on every axis. -/
def PerAxis.all {α : Type} (v : α) : PerAxis α := ⟨v, v, v, v, v⟩

/-- The five fork switches (R123). -/
inductive ForkSwitch where
  | aLow | aNeu | aHigh | b1 | b2
deriving DecidableEq, Repr

/-- Levels of the fork switches, true for closed (R123). -/
structure ForkSwitches where
  aLow : Bool
  aNeu : Bool
  aHigh : Bool
  b1 : Bool
  b2 : Bool
deriving DecidableEq, Repr

/-- The seven valve functions (00 glossary; section 5.1). -/
inductive ValveFunction where
  | clamp (a : Axis)
  | forkA
  | forkB
deriving DecidableEq, Repr

/-- Increment selector of the pendant, units per detent (9.2). -/
inductive Increment where
  | one | ten | hundred
deriving DecidableEq, Repr

/-- Enabling switch of the pendant (9.2). -/
inductive Enabling where
  | released | enable | panic
deriving DecidableEq, Repr

/-- The six buttons of the pendant, true for pressed (9.2). -/
structure Buttons where
  cycleStart : Bool
  feedHold : Bool
  spindleStop : Bool
  coolant : Bool
  jogPlus : Bool
  jogMinus : Bool
deriving DecidableEq, Repr

/-- The scan reply record (9.2); selector `none` is OFF, `mirror1` and `mirror2` are true for open. -/
structure ScanReply where
  counter : Byte
  selector : Option Axis
  increment : Increment
  feedKnob : Fin 16
  spindleKnob : Fin 8
  buttons : Buttons
  enabling : Enabling
  mirror1 : Bool
  mirror2 : Bool
deriving DecidableEq, Repr

/-- What the part reads at a power-on reset: the straps (R192) and the levels of its inputs (R93, R124,
R92, R154, R179, R11, R9, R117). Switch fields are true for closed, `…Open` fields for open. -/
structure ResetInputs where
  linkRate : Fin 4
  pendantFitted : Bool
  bFitted : Bool
  tscFitted : Bool
  channel1Open : Bool
  channel2Open : Bool
  clampClosed : PerAxis Bool
  forks : ForkSwitches
  pressureOk : Bool
  tankLow : Bool
  plusOpen : PerAxis Bool
  minusOpen : PerAxis Bool
  driveFault : PerAxis Bool
  inverterFault : Bool
deriving DecidableEq, Repr

/-- The commands. An order carries the tag and the payload bytes of its telegram (R196, R204; log 1);
an input command carries the new level of its input (log 4). -/
inductive Instr where
  | powerOnReset (inputs : ResetInputs)
  | byteReceived (byte : Byte) (stopBit : Bool)
  | gapTimerExpiry
  | unknownKindTelegram (kind : Byte) (tag : Tag) (payload : List Byte)
  | queueMove (tag : Tag) (payload : List Byte)
  | queueDwell (tag : Tag) (payload : List Byte)
  | queueSpindle (tag : Tag) (payload : List Byte)
  | queueCoolant (tag : Tag) (payload : List Byte)
  | queueMark (tag : Tag) (payload : List Byte)
  | queueEnd (tag : Tag) (payload : List Byte)
  | start (tag : Tag) (payload : List Byte)
  | hold (tag : Tag) (payload : List Byte)
  | abort (tag : Tag) (payload : List Byte)
  | spindleSet (tag : Tag) (payload : List Byte)
  | gearSet (tag : Tag) (payload : List Byte)
  | coolantSet (tag : Tag) (payload : List Byte)
  | reference (tag : Tag) (payload : List Byte)
  | park (tag : Tag) (payload : List Byte)
  | loop (tag : Tag) (payload : List Byte)
  | setAxis (tag : Tag) (payload : List Byte)
  | loadCompensation (tag : Tag) (payload : List Byte)
  | setValveParams (tag : Tag) (payload : List Byte)
  | setSpindleParams (tag : Tag) (payload : List Byte)
  | setGears (tag : Tag) (payload : List Byte)
  | setCoolantParams (tag : Tag) (payload : List Byte)
  | setOverrides (tag : Tag) (payload : List Byte)
  | setPendantText (tag : Tag) (payload : List Byte)
  | setReporting (tag : Tag) (payload : List Byte)
  | clearFaults (tag : Tag) (payload : List Byte)
  | getStatus (tag : Tag) (payload : List Byte)
  | getAxis (tag : Tag) (payload : List Byte)
  | getFaults (tag : Tag) (payload : List Byte)
  | getIdent (tag : Tag) (payload : List Byte)
  | telegramSent
  | positionTimerExpiry
  | interpolationPeriod
  | encoderEdge (axis : Axis) (aLeads : Bool)
  | referenceMark (axis : Axis)
  | driveFaultInput (axis : Axis) (active : Bool)
  | overtravelSwitchChange (axis : Axis) (side : Sign) (isOpen : Bool)
  | clampReleasedSwitchChange (axis : Axis) (closed : Bool)
  | strokeTimeout (function : ValveFunction)
  | lingerTimerExpiry (axis : Axis)
  | pressureOkChange (ok : Bool)
  | hydraulicWaitTimerExpiry
  | referenceUpdate
  | spindleEncoderEdge (clockwise : Bool)
  | speedWindowEnd
  | inverterFaultInput (active : Bool)
  | forkSwitchChange (switch : ForkSwitch) (closed : Bool)
  | creepAlternation
  | pauseTimerExpiry
  | pressureSample (code : BitVec 12)
  | buildTimerExpiry
  | purgeTimerExpiry
  | tankLowSwitchChange (low : Bool)
  | scanRequest
  | pendantReply (bytes : List Byte) (fields : Option ScanReply)
  | replyWindowClose
  | clipTimerExpiry
  | flashPhaseToggle
  | stopChannelChange (channel1Open channel2Open : Bool)
  | discrepancyTimerExpiry
deriving DecidableEq, Repr

end Sys2Proof
end

