-- ==== Sys2Proof/WellFormed.lean ====
section
/-! DEFINITION. Which commands can arise at the part's inputs. `exec` gives every command a meaning,
well formed or not; a statement that needs the limits of the frame cites this check. -/

namespace Sys2Proof

/-- The KIND codes of the orders (table of 11.6). -/
def isOrderKind (kind : Byte) : Bool :=
  kind.toNat ∈ [0x01, 0x02, 0x03, 0x04, 0x05, 0x06, 0x10, 0x11, 0x12, 0x18, 0x19, 0x1A, 0x1B, 0x1C, 0x1D,
    0x20, 0x21, 0x22, 0x23, 0x24, 0x25, 0x26, 0x27, 0x28, 0x2F, 0x30, 0x31, 0x32, 0x33]

/-- LEN is 0 to 240 (R193, R204). -/
def payloadFits (payload : List Byte) : Bool := payload.length ≤ 240

/-- A telegram fits its frame; an UNKNOWN_KIND telegram's KIND is no order kind (R196); a pendant reply
that shows a scan reply record has the fixed length of 12 bytes (R161). -/
def Instr.wellFormed : Instr → Bool
  | .unknownKindTelegram kind _ payload => !isOrderKind kind && payloadFits payload
  | .queueMove _ p => payloadFits p
  | .queueDwell _ p => payloadFits p
  | .queueSpindle _ p => payloadFits p
  | .queueCoolant _ p => payloadFits p
  | .queueMark _ p => payloadFits p
  | .queueEnd _ p => payloadFits p
  | .start _ p => payloadFits p
  | .hold _ p => payloadFits p
  | .abort _ p => payloadFits p
  | .spindleSet _ p => payloadFits p
  | .gearSet _ p => payloadFits p
  | .coolantSet _ p => payloadFits p
  | .reference _ p => payloadFits p
  | .park _ p => payloadFits p
  | .loop _ p => payloadFits p
  | .setAxis _ p => payloadFits p
  | .loadCompensation _ p => payloadFits p
  | .setValveParams _ p => payloadFits p
  | .setSpindleParams _ p => payloadFits p
  | .setGears _ p => payloadFits p
  | .setCoolantParams _ p => payloadFits p
  | .setOverrides _ p => payloadFits p
  | .setPendantText _ p => payloadFits p
  | .setReporting _ p => payloadFits p
  | .clearFaults _ p => payloadFits p
  | .getStatus _ p => payloadFits p
  | .getAxis _ p => payloadFits p
  | .getFaults _ p => payloadFits p
  | .getIdent _ p => payloadFits p
  | .pendantReply bytes (some _) => bytes.length == 12
  | .pendantReply _ none => true
  | .powerOnReset _ => true
  | .byteReceived _ _ => true
  | .gapTimerExpiry => true
  | .telegramSent => true
  | .positionTimerExpiry => true
  | .interpolationPeriod => true
  | .encoderEdge _ _ => true
  | .referenceMark _ => true
  | .driveFaultInput _ _ => true
  | .overtravelSwitchChange _ _ _ => true
  | .clampReleasedSwitchChange _ _ => true
  | .strokeTimeout _ => true
  | .lingerTimerExpiry _ => true
  | .pressureOkChange _ => true
  | .hydraulicWaitTimerExpiry => true
  | .referenceUpdate => true
  | .spindleEncoderEdge _ => true
  | .speedWindowEnd => true
  | .inverterFaultInput _ => true
  | .forkSwitchChange _ _ => true
  | .creepAlternation => true
  | .pauseTimerExpiry => true
  | .pressureSample _ => true
  | .buildTimerExpiry => true
  | .purgeTimerExpiry => true
  | .tankLowSwitchChange _ => true
  | .scanRequest => true
  | .replyWindowClose => true
  | .clipTimerExpiry => true
  | .flashPhaseToggle => true
  | .stopChannelChange _ _ => true
  | .discrepancyTimerExpiry => true

end Sys2Proof
end

