-- ==== Sys2Proof/Decode.lean ====
section
/-! DEFINITION. The command that a word of opcode_table.json spells. The table gives its rows no bits: the
part's commands come as telegrams, pin events and timer events, and no word stands for one. The bytes of a
telegram are read by the receive framer (R193, Machine/LinkLine.lean). -/

namespace Sys2Proof

/-- No row of the table has bits, so no word spells a command. -/
def decodeTableWord (_nbits _w : Nat) : Option Instr := none

end Sys2Proof
end

