-- ==== Sys2Proof/Machine/State.lean ====
section
/-! DEFINITION. The state of the ZB-46, block by block, and the state after a power-on reset.
Plain data throughout: the host compares states and writes them out. -/

namespace Sys2Proof.Machine

/-! ## Axis Units (Section 1) -/

/-- Axis mode (R16). -/
inductive Mode where
  | normal | parked | loop
deriving DecidableEq, Repr

/-- Phase of a jog or a reference run (R4). -/
inductive MotionPhase where
  | clampWait | moving | stopping
deriving DecidableEq, Repr

/-- Local motion of an axis (R4). -/
inductive LocalMotion where
  | idle
  | jog (phase : MotionPhase)
  | reference (phase : MotionPhase)
deriving DecidableEq, Repr

/-- The latest jog demand: a handwheel goal, a held button, or a stop or released button (1.9). -/
inductive JogDemand where
  | handwheel (goal : Int)
  | button (direction : Sign)
  | stop
deriving DecidableEq, Repr

/-- The axis parameter record (1.1) with its internal forms (R2). -/
structure AxisParams where
  softMin : Int
  softMax : Int
  vmax : Nat
  accel : Nat
  jogFeed : Nat
  refDirection : Sign
  refSearchFeed : Nat
  refValue : Int
  refSearchDistance : Nat
  feLimit : Nat
  backlash : Nat
  backlashRate : Nat
  clampFitted : Bool
  clampLinger : Nat
  vmaxN : Nat
  refN : Nat
  accelN : Nat
deriving DecidableEq, Repr

/-- What an axis showed at the last interpolation period (R70, R84, R200). -/
structure PeriodView where
  commanded : Int
  output : Int
  measured : Int
  pitch : Int
deriving DecidableEq, Repr

/-- The state record of an axis (1.2), its input levels and its step outputs. -/
structure AxisUnit where
  /-- The parameter record; present exactly when the axis is configured (R2, R3). -/
  params : Option AxisParams
  commanded : Int
  output : Int
  measured : Int
  encoder : Int
  referenced : Bool
  mode : Mode
  atRest : Bool
  latchPlus : Bool
  latchMinus : Bool
  claim : Bool
  motion : LocalMotion
  /-- Local velocity, nm per period. -/
  velocity : Nat
  /-- Search accumulator p, nm (R14, R19). -/
  p : Int
  /-- Direction of a jog or reference run (R22). -/
  heading : Sign
  /-- Goal of a reference run (R14). -/
  searchGoal : Int
  demand : JogDemand
  /-- Reference held for LOOP; present only in LOOP (R18). -/
  loopHeld : Option Bool
  plusOpen : Bool
  minusOpen : Bool
  driveFault : Bool
  directionOut : Sign
  /-- Step pulses formed at the last period, to be spread over the one that follows (R6, log 50). -/
  pulses : Nat
  seen : PeriodView
deriving DecidableEq, Repr

/-! ## Compensation Unit (Section 4) -/

/-- The compensation record of an axis (R71); `direction` is `plus` for POSITIVE. -/
structure CompRecord where
  k : Nat
  base : Int
  points : List Int
  b : Nat
  direction : Sign
deriving DecidableEq, Repr

/-! ## Spindle Controller and Gear Sequencer types (Sections 6 and 7) -/

/-- Direction of rotation (00 abbreviations). -/
inductive Rotation where
  | cw | ccw
deriving DecidableEq, Repr

/-- The four gear ranges. -/
inductive GearRange where
  | i | ii | iii | iv
deriving DecidableEq, Repr

/-- Gearbox state (R124). -/
inductive Gearbox where
  | range (r : GearRange)
  | neutral
  | shifting
  | unknown
deriving DecidableEq, Repr

/-- Target of a range change (R130). -/
inductive GearTarget where
  | range (r : GearRange)
  | neutral
deriving DecidableEq, Repr

/-- Positions of fork A. -/
inductive ForkAPos where
  | low | neutral | high
deriving DecidableEq, Repr

/-- Positions of fork B. -/
inductive ForkBPos where
  | one | two
deriving DecidableEq, Repr

/-- One of the two forks, as a fault qualifier (R184). -/
inductive Fork where
  | a | b
deriving DecidableEq, Repr

/-- A fork stroke: the fork and its target position (R91). -/
inductive ForkStroke where
  | a (p : ForkAPos)
  | b (p : ForkBPos)
deriving DecidableEq, Repr

/-- Limits and ratio of one range (R121). -/
structure RangeRow where
  min : Nat
  max : Nat
  num : Nat
  den : Nat
deriving DecidableEq, Repr

/-- The gear table (R121). -/
structure GearTable where
  i : RangeRow
  ii : RangeRow
  iii : RangeRow
  iv : RangeRow
deriving DecidableEq, Repr

/-- Phase of the spindle drive (R111, R112). -/
inductive SpindlePhase where
  | run | reversing | creep
deriving DecidableEq, Repr

/-- Step of the change context (R130). -/
inductive GearStep where
  | idle | stopping | stroke | pause | ending
deriving DecidableEq, Repr

/-- Owner of a change: an order, or the tag of a SPINDLE entry (R130). -/
inductive Owner where
  | order
  | entry (tag : Tag)
deriving DecidableEq, Repr

/-- A creep in progress: its direction and what is left of the alternation timer, ms (R133). -/
structure Creep where
  direction : Rotation
  timer : Nat
deriving DecidableEq, Repr

/-- The command kept in ENDING (R138). -/
structure Deferred where
  owner : Owner
  speed : Nat
  forced : Option GearRange
deriving DecidableEq, Repr

/-! ## Program queue (Sections 2 and 3) -/

/-- Feed mode of a MOVE (2.1). -/
inductive FeedMode where
  | perMinute | perRev | rapid
deriving DecidableEq, Repr

/-- Coolant mode of a COOLANT entry or a Coolant Set order. -/
inductive CoolantMode where
  | off | flood | tsc | floodTsc
deriving DecidableEq, Repr

/-- The fields of an entry, by kind (2.1). -/
inductive EntryBody where
  | move (targets : PerAxis (Option Int)) (mode : FeedMode) (feed : Nat)
  | dwell (time : Nat)
  | spindle (speed : Nat) (direction : Rotation) (forced : Option GearRange) (wait : Bool)
  | coolant (mode : CoolantMode) (wait : Bool)
  | mark
  | endProgram
deriving DecidableEq, Repr

/-- An entry of the program queue. -/
structure Entry where
  tag : Tag
  body : EntryBody
deriving DecidableEq, Repr

/-- Entry kinds as reports name them (R37). -/
inductive EntryKind where
  | move | dwell | spindle | coolant | mark | endProgram
deriving DecidableEq, Repr

/-- Planner state (R26). -/
inductive PlannerState where
  | idle | running | holding | held | aborting
deriving DecidableEq, Repr

/-- Sub-state of the head entry (R23). -/
inductive HeadState where
  | queued | starting | active
deriving DecidableEq, Repr

/-- The seven hold causes (R38). -/
inductive HoldCause where
  | operator | host | coolant | clamp | gear | spindle | pendantLost
deriving DecidableEq, Repr

/-- A set of hold causes (R38). -/
structure CauseSet where
  operator : Bool
  host : Bool
  coolant : Bool
  clamp : Bool
  gear : Bool
  spindle : Bool
  pendantLost : Bool
deriving DecidableEq, Repr

/-- Path kind of a move context (R49). -/
inductive PathKind where
  | linear | rotary | null
deriving DecidableEq, Repr

/-- Start position and target of a moving axis (R49). -/
structure Leg where
  start : Int
  target : Int
deriving DecidableEq, Repr

/-- What limits the path velocity (R61, R70). -/
inductive Limiter where
  | feed
  | axis (a : Axis)
  | absent
deriving DecidableEq, Repr

/-- The move context (R49). -/
structure MoveContext where
  kind : PathKind
  legs : PerAxis (Option Leg)
  /-- L, in µm or mdeg. -/
  length : Nat
  /-- L_n = L × 1,000. -/
  lengthN : Nat
  vLim : Nat
  limiting : Option Axis
  /-- Path acceleration a. -/
  accel : Nat
  /-- Travelled path s. -/
  travelled : Nat
  /-- Path velocity v of the last step. -/
  v : Nat
  limiter : Limiter
deriving DecidableEq, Repr

/-- The Motion Planner's record (2.3) and queue (R23). -/
structure Planner where
  state : PlannerState
  queue : List Entry
  /-- Sub-state of the head entry; absent when the queue is empty. -/
  head : Option HeadState
  causes : CauseSet
  /-- Condition causes added with no fault entry behind them (R40). -/
  startTime : CauseSet
  displaced : Bool
  coolantWait : Bool
  /-- AT_SPEED is a start condition of the head for this start (R30). -/
  speedWait : Bool
  /-- A spindle fault holds the ACTIVE PER_REV MOVE: the next Start takes its start conditions again (R67, log 41). -/
  retake : Bool
  dwellLeft : Option Int
  context : Option MoveContext
deriving DecidableEq, Repr

/-! ## Valve Bank (Section 5) -/

/-- A valve function with its action (5.1). -/
inductive Stroke where
  | release (a : Axis)
  | engage (a : Axis)
  | fork (f : ForkStroke)
deriving DecidableEq, Repr

/-- Status of a valve request (R87). -/
inductive RequestStatus where
  | waiting
  /-- ACTIVE, with what is left of the stroke's time limit, ms (R85). -/
  | active (timeLeft : Nat)
deriving DecidableEq, Repr

/-- A valve request (R87); its weight follows from the stroke. -/
structure Request where
  stroke : Stroke
  bypass : Nat
  status : RequestStatus
deriving DecidableEq, Repr

/-- Clamp state of an axis (5.4). -/
inductive ClampState where
  | engaged | releaseWait | releasing | released | engageWait | engaging | settling | fault
deriving DecidableEq, Repr

/-- A clamp: state, release pending, linger timer, released switch (R93). -/
structure Clamp where
  state : ClampState
  releasePending : Bool
  linger : Option Nat
  switchClosed : Bool
deriving DecidableEq, Repr

/-- The Valve Bank's own record. -/
structure ValveBank where
  bypassLimit : Nat
  clampLimit : Nat
  forkLimit : Nat
  requests : List Request
  pressureOk : Bool
  hydraulicWait : Option Nat
  /-- The hydraulic wait timer has expired in the present wait (R92). -/
  hydraulicExpired : Bool
deriving DecidableEq, Repr

/-! ## Spindle Controller (Section 6) -/

/-- The spindle command record, the drive record and the parameters (R104, R105). -/
structure Spindle where
  sProg : Nat
  commandedDir : Rotation
  stoppedByOperator : Bool
  sCmd : Nat
  speedClamped : Bool
  phase : SpindlePhase
  directionOut : Rotation
  dacTarget : Nat
  reference : Nat
  sMeas : Nat
  lowCount : Nat
  atSpeed : Bool
  stopped : Bool
  stallCount : Nat
  /-- Signed encoder count of the present window (R114). -/
  windowCount : Int
  inverterFault : Bool
  motorMax : Nat
  ramp : Nat
  tolerance : Nat
deriving DecidableEq, Repr

/-! ## Gear Sequencer (Section 7) -/

/-- The gear table, the switches, the gearbox state and the change context (R121 to R130). -/
structure GearSequencer where
  table : Option GearTable
  autoRange : Bool
  creepSpeed : Nat
  retryLimit : Nat
  switches : ForkSwitches
  gearbox : Gearbox
  held : Bool
  step : GearStep
  target : Option GearTarget
  owner : Option Owner
  stroke : Option ForkStroke
  /-- The stroke in hand engages (R133). -/
  engaging : Bool
  attempts : Nat
  pauseTimer : Option Nat
  creep : Option Creep
  deferred : Option Deferred
deriving DecidableEq, Repr

/-! ## Coolant Unit (Section 8) -/

/-- Flood state (R142). -/
inductive FloodState where
  | off | on | inhibited
deriving DecidableEq, Repr

/-- TSC state (R142). -/
inductive TscState where
  | off | building | ready | suspended | blocked | faulted | purging
deriving DecidableEq, Repr

/-- What the expiry of build_limit does (R143). -/
inductive BuildAction where
  | wait | fault
deriving DecidableEq, Repr

/-- The Coolant Unit's record and parameters (R142, R143). -/
structure Coolant where
  floodRequested : Bool
  tscRequested : Bool
  flood : FloodState
  tsc : TscState
  window : List Nat
  filtered : Nat
  buildRun : Nat
  lossCount : Nat
  buildTimer : Option Nat
  late : Bool
  purgeTimer : Option Nat
  lastSample : Nat
  tankLow : Bool
  tscMin : Nat
  buildLimit : Nat
  buildAction : BuildAction
  purgeTime : Nat
  unionLimit : Nat
deriving DecidableEq, Repr

/-! ## Pendant Unit (Section 9) -/

/-- Pendant link state (R159); `absent` is NONE. -/
inductive LinkState where
  | waiting | online | lost | absent
deriving DecidableEq, Repr

/-- Control site (R167). -/
inductive Site where
  | host | pendant
deriving DecidableEq, Repr

/-- Button jog (R169). -/
inductive ButtonJog where
  | idle | plus | minus
deriving DecidableEq, Repr

/-- Levels of the six lamps, true for lit (R176). -/
structure Lamps where
  hold : Bool
  spindle : Bool
  coolant : Bool
  fault : Bool
  clip : Bool
  site : Bool
deriving DecidableEq, Repr

/-- A scan request on the pendant line: the lamp levels, the chunk index and the chunk's ten characters (R160). -/
structure ScanRequest where
  lamps : Lamps
  chunk : Fin 4
  text : List Byte
deriving DecidableEq, Repr

/-- The Pendant Unit's link record, jog record, overrides, site and display. -/
structure Pendant where
  link : LinkState
  misses : Nat
  goodRun : Nat
  lastGood : Option ScanReply
  chunk : Fin 4
  flashLit : Bool
  /-- What is left of the open reply window, ms; closed when absent (R160). -/
  window : Option Nat
  feedOverride : Nat
  spindleOverride : Nat
  site : Site
  withdrawing : Bool
  /-- Axes jogged during this tenure of the site (R168). -/
  tenure : PerAxis Bool
  jogged : Option Axis
  goal : Option Int
  buttonJog : ButtonJog
  buttonBlocked : Bool
  hwLimit : Nat
  clipTimer : Option Nat
  line1 : List Byte
  line2 : List Byte
  lamps : Lamps
  /-- The last scan request put on the pendant line; absent before the first (R160). -/
  request : Option ScanRequest
deriving DecidableEq, Repr

/-! ## Stop and Fault Unit (Section 10) -/

/-- E-stop state (R179). -/
inductive EStop where
  | armed | tripped | released
deriving DecidableEq, Repr

/-- The sixteen fault codes (R184). -/
inductive FaultCode where
  | estop | estopDiscrepancy | overtravel | followingError | driveFault | refFailed | clampTimeout
  | clampSwitch | gearFault | gearSlip | spindleFault | spindleStall | hydraulicLow | coolantPressure
  | coolantLevel | pendantLost
deriving DecidableEq, Repr

/-- Fault qualifier (R184). -/
inductive Qualifier where
  | absent
  | axis (a : Axis)
  | axisEnd (a : Axis) (side : Sign)
  | fork (f : Fork)
deriving DecidableEq, Repr

/-- A fault list entry (R184). -/
structure FaultEntry where
  code : FaultCode
  qualifier : Qualifier
  firstRaised : BitVec 32
  condition : Bool
  repeats : Nat
deriving DecidableEq, Repr

/-- The stop chain record, the fault list and part time (R179, R184, R187). -/
structure StopUnit where
  channel1Open : Bool
  channel2Open : Bool
  estop : EStop
  discrepancy : Option Nat
  faults : List FaultEntry
  partTime : BitVec 32
deriving DecidableEq, Repr

/-! ## Link Unit (Section 11) -/

/-- The latched straps (R192). -/
structure Straps where
  linkRate : Fin 4
  pendantFitted : Bool
  bFitted : Bool
  tscFitted : Bool
deriving DecidableEq, Repr

/-- The receive framer with the bytes it holds (R193). -/
inductive Framer where
  | hunt
  /-- The bytes after SYNC so far: up to KIND and the two TAG bytes. -/
  | header (held : List Byte)
  | payload (kind tag0 tag1 len : Byte) (held : List Byte)
  /-- The payload is complete; `first` is the first CRC byte, once received. -/
  | check (kind tag0 tag1 len : Byte) (held : List Byte) (first : Option Byte)
deriving DecidableEq, Repr

/-- The seven counters (R195). -/
structure Counters where
  skipped : BitVec 16
  framing : BitVec 16
  length : BitVec 16
  gap : BitVec 16
  crc : BitVec 16
  overrun : BitVec 16
  dropped : BitVec 16
deriving DecidableEq, Repr

/-- Refusal codes (R196). -/
inductive RefuseCode where
  | unknownKind | badLength | notFitted | badField | notConfigured | estopActive | sitePendant | busy
  | axisParked | notReferenced | outOfLimits | queueFull | displaced
deriving DecidableEq, Repr

/-- Head entry as Get Status shows it (R48). -/
structure HeadReport where
  tag : Tag
  kind : EntryKind
  state : Option HeadState
deriving DecidableEq, Repr

/-- Get Status of the Motion Planner (R48). -/
structure PlannerStatus where
  state : PlannerState
  causes : CauseSet
  displaced : Bool
  coolantWait : Bool
  entries : Nat
  freeSlots : Nat
  head : Option HeadReport
deriving DecidableEq, Repr

/-- Get Status of the Valve Bank (R102). -/
structure ValveStatus where
  pressureOk : Bool
  flowInUse : Nat
  requests : List Request
  hydraulicWait : Option Nat
  bypassLimit : Nat
  clampLimit : Nat
  forkLimit : Nat
deriving DecidableEq, Repr

/-- Get Status of the Spindle Controller (R120). -/
structure SpindleStatus where
  sProg : Nat
  commandedDir : Rotation
  sCmd : Nat
  phase : SpindlePhase
  directionOut : Rotation
  dacTarget : Nat
  reference : Nat
  sMeas : Nat
  atSpeed : Bool
  stopped : Bool
  stoppedByOperator : Bool
  speedClamped : Bool
  enable : Bool
  ceiling : Option Nat
  motorMax : Nat
  ramp : Nat
  tolerance : Nat
deriving DecidableEq, Repr

/-- Get Status of the Gear Sequencer (R141). -/
structure GearStatus where
  gearbox : Gearbox
  held : Bool
  forkA : Option ForkAPos
  forkB : Option ForkBPos
  step : GearStep
  target : Option GearTarget
  owner : Option Owner
  stroke : Option ForkStroke
  attempts : Nat
  pauseTimer : Option Nat
  creeping : Bool
  table : Option GearTable
  autoRange : Bool
  creepSpeed : Nat
  retryLimit : Nat
deriving DecidableEq, Repr

/-- Get Status of the Coolant Unit (R158). -/
structure CoolantStatus where
  floodRequested : Bool
  tscRequested : Bool
  flood : FloodState
  tsc : TscState
  lastSample : Nat
  filtered : Nat
  buildRun : Nat
  lossCount : Nat
  buildTimer : Option Nat
  purgeTimer : Option Nat
  late : Bool
  levelInhibit : Bool
  tankLow : Bool
  ceiling : Option Nat
  tscMin : Nat
  buildLimit : Nat
  buildAction : BuildAction
  purgeTime : Nat
  unionLimit : Nat
deriving DecidableEq, Repr

/-- Get Status of the Pendant Unit (R178). -/
structure PendantStatus where
  link : LinkState
  misses : Nat
  goodRun : Nat
  lastGood : Option ScanReply
  site : Site
  withdrawing : Bool
  jogged : Option Axis
  goal : Option Int
  pendingDistance : Int
  buttonJog : ButtonJog
  buttonBlocked : Bool
  hwLimit : Nat
  clipTimer : Option Nat
  feedOverride : Nat
  spindleOverride : Nat
  lamps : Lamps
  line1 : List Byte
  line2 : List Byte
deriving DecidableEq, Repr

/-- Get Status of the Stop and Fault Unit (R190). -/
structure StopStatus where
  estop : EStop
  channel1Open : Bool
  channel2Open : Bool
  discrepancy : Option Nat
deriving DecidableEq, Repr

/-- Get Status of the Link Unit (R202). -/
structure LinkStatus where
  straps : Straps
  counters : Counters
  skipCount : BitVec 16
  period : Nat
  due : Bool
  replies : Nat
  events : Nat
  overflow : Bool
  statePending : Bool
  sequence : BitVec 16
deriving DecidableEq, Repr

/-- Get Axis (R203, R84, R102, section 1.2). -/
structure AxisStatus where
  axis : Axis
  configured : Bool
  commanded : Int
  output : Int
  measured : Int
  encoder : Int
  referenced : Bool
  mode : Mode
  atRest : Bool
  latchPlus : Bool
  latchMinus : Bool
  driveEnable : Bool
  claim : Bool
  motion : LocalMotion
  velocity : Nat
  loopHeld : Option Bool
  clamp : ClampState
  releasePending : Bool
  linger : Option Nat
  base : Int
  k : Nat
  b : Nat
  direction : Sign
  pitch : Int
  params : Option AxisParams
deriving DecidableEq, Repr

/-- Payload of an ACCEPT reply (catalogue of R196). -/
inductive AcceptPayload where
  | empty
  | freeSlots (n : Nat)
  | planner (st : PlannerState)
  | axisMode (a : Axis) (m : Mode)
  | compensation (a : Axis) (base : Int) (k : Nat) (highest : Nat)
  | spindle (sCmd : Nat) (gearbox : Gearbox)
  | gear (gearbox : Gearbox) (step : GearStep)
  | coolant (flood : FloodState) (tsc : TscState)
  | overrides (feed spindle : Nat)
  | cleared (removed remaining : Nat) (estop : EStop)
  | period (ms : Nat)
  | plannerStatus (r : PlannerStatus)
  | valveStatus (r : ValveStatus)
  | spindleStatus (r : SpindleStatus)
  | gearStatus (r : GearStatus)
  | coolantStatus (r : CoolantStatus)
  | pendantStatus (r : PendantStatus)
  | stopStatus (r : StopStatus)
  | linkStatus (r : LinkStatus)
  | axisStatus (r : AxisStatus)
  | faults (partTime : BitVec 32) (entries : Nat) (start : Nat) (shown : List FaultEntry)
  | ident (vendor part revision : Nat) (straps : Straps)
deriving DecidableEq, Repr

/-- A reply (R196): an ACCEPT with its payload, or a REFUSE with the code and the order's KIND. -/
inductive Reply where
  | accept (tag : Tag) (payload : AcceptPayload)
  | refuse (tag : Tag) (code : RefuseCode) (kind : Byte)
deriving DecidableEq, Repr

/-- Outcome an ENTRY_DONE names (R37, R46). -/
inductive EntryOutcome where
  | completed | aborted
deriving DecidableEq, Repr

/-- Action a FAULT report names (R190). -/
inductive FaultAction where
  | raised | repeated | removed
deriving DecidableEq, Repr

/-- An event report (R198). -/
inductive EventReport where
  | entryDone (tag : Tag) (kind : EntryKind) (outcome : EntryOutcome)
  | flushed (tags : List Tag)
  | fault (action : FaultAction) (entry : FaultEntry)
deriving DecidableEq, Repr

/-- The fields of the STATE report (R199); a clamp is `none` for NONE. -/
structure StateReport where
  planner : PlannerState
  causes : CauseSet
  displaced : Bool
  gearbox : Gearbox
  retries : Nat
  clamps : PerAxis (Option ClampState)
  flood : FloodState
  tsc : TscState
  late : Bool
  site : Site
  feedOverride : Nat
  spindleOverride : Nat
  estop : EStop
  speedClamped : Bool
deriving DecidableEq, Repr

/-- The fields of the POSITION report (R200, R204). -/
structure PositionReport where
  partTime : BitVec 32
  commanded : PerAxis Int
  measured : PerAxis Int
  v : Nat
  limiter : Limiter
  sMeas : Nat
  skipCount : BitVec 16
deriving DecidableEq, Repr

/-- The telegram the transmitter is sending, formed at its beginning (R201). A report carries its
sequence number and the overflow flag of its flags byte (R198). -/
inductive Outgoing where
  | reply (r : Reply)
  | event (sequence : BitVec 16) (overflow : Bool) (r : EventReport)
  | state (sequence : BitVec 16) (overflow : Bool) (r : StateReport)
  | position (sequence : BitVec 16) (overflow : Bool) (r : PositionReport)
deriving DecidableEq, Repr

/-- The Link Unit's record. -/
structure Link where
  straps : Straps
  framer : Framer
  gapTimer : Option Nat
  counters : Counters
  replies : List Reply
  events : List EventReport
  overflow : Bool
  sequence : BitVec 16
  statePending : Bool
  period : Nat
  positionTimer : Option Nat
  due : Bool
  skipCount : BitVec 16
  sending : Option Outgoing
deriving DecidableEq, Repr

/-- What is left, in ms, of the periods that run without pause (log 32). -/
structure Clocks where
  interpolation : Nat
  referenceUpdate : Nat
  speedWindow : Nat
  pressureSample : Nat
  scan : Nat
  flash : Nat
deriving DecidableEq, Repr

/-- The whole part, and the commands that wait for it. -/
structure State where
  link : Link
  planner : Planner
  axes : PerAxis AxisUnit
  comp : PerAxis CompRecord
  clamps : PerAxis Clamp
  valve : ValveBank
  spindle : Spindle
  gear : GearSequencer
  coolant : Coolant
  pendant : Pendant
  stop : StopUnit
  clocks : Clocks
  pending : List Instr
deriving DecidableEq, Repr

/-- Reasons for the machine to stop with a fault. The part has none: it never halts, and a machine fault
is an entry of its fault list (R184). Having no constructor is safe. -/
inductive Fault where
deriving DecidableEq, Repr

/-- Reasons to refuse a command. Raised by an arm of `exec` alone. -/
inductive Refusal where
  /-- The command has no meaning in the model yet. Raised by an arm of `exec`; safe, since nothing can be
  proved of a next state. -/
  | notModelled (mnemonic : String)
deriving DecidableEq, Repr

/-! ## After a power-on reset -/

/-- No hold cause. -/
def CauseSet.empty : CauseSet := ⟨false, false, false, false, false, false, false⟩

/-- The Axis Unit after reset (R3), with open switches and the drive-fault input as read. -/
def AxisUnit.afterReset (plusOpen minusOpen driveFault : Bool) : AxisUnit where
  params := none
  commanded := 0
  output := 0
  measured := 0
  encoder := 0
  referenced := false
  mode := .normal
  atRest := true
  latchPlus := false
  latchMinus := false
  claim := false
  motion := .idle
  velocity := 0
  p := 0
  heading := .plus
  searchGoal := 0
  demand := .stop
  loopHeld := none
  plusOpen := plusOpen
  minusOpen := minusOpen
  driveFault := driveFault
  directionOut := .plus
  pulses := 0
  seen := ⟨0, 0, 0, 0⟩

/-- The compensation record after reset (R71). -/
def CompRecord.afterReset : CompRecord where
  k := 22
  base := 0
  points := List.replicate 129 0
  b := 0
  direction := .minus

/-- The planner after reset (R23, R26). -/
def Planner.afterReset : Planner where
  state := .idle
  queue := []
  head := none
  causes := .empty
  startTime := .empty
  displaced := false
  coolantWait := false
  speedWait := false
  retake := false
  dwellLeft := none
  context := none

/-- The spindle records after reset (R104, R105). -/
def Spindle.afterReset (inverterFault : Bool) : Spindle where
  sProg := 0
  commandedDir := .cw
  stoppedByOperator := false
  sCmd := 0
  speedClamped := false
  phase := .run
  directionOut := .cw
  dacTarget := 0
  reference := 0
  sMeas := 0
  lowCount := 0
  atSpeed := false
  stopped := false
  stallCount := 0
  windowCount := 0
  inverterFault := inverterFault
  motorMax := 1500
  ramp := 20
  tolerance := 5

/-- The coolant record after reset (R142, R143). -/
def Coolant.afterReset (tankLow : Bool) : Coolant where
  floodRequested := false
  tscRequested := false
  flood := .off
  tsc := .off
  window := [0, 0, 0, 0, 0, 0, 0, 0]
  filtered := 0
  buildRun := 0
  lossCount := 0
  buildTimer := none
  late := false
  purgeTimer := none
  lastSample := 0
  tankLow := tankLow
  tscMin := 200
  buildLimit := 5000
  buildAction := .fault
  purgeTime := 3000
  unionLimit := 800

/-- The pendant's records after reset (R159, R165, R167, R169, R177). -/
def Pendant.afterReset (fitted : Bool) : Pendant where
  link := if fitted then .waiting else .absent
  misses := 0
  goodRun := 0
  lastGood := none
  chunk := 0
  flashLit := true
  window := none
  feedOverride := 100
  spindleOverride := 100
  site := .host
  withdrawing := false
  tenure := .all false
  jogged := none
  goal := none
  buttonJog := .idle
  buttonBlocked := false
  hwLimit := 10000
  clipTimer := none
  line1 := List.replicate 20 0x20#8
  line2 := List.replicate 20 0x20#8
  lamps := ⟨false, false, false, false, false, false⟩
  request := none

/-- The Link Unit after reset, before any report of the reset itself (R192 to R201). -/
def Link.afterReset (straps : Straps) : Link where
  straps := straps
  framer := .hunt
  gapTimer := none
  counters := ⟨0, 0, 0, 0, 0, 0, 0⟩
  replies := []
  events := []
  overflow := false
  sequence := 0
  statePending := true
  period := 0
  positionTimer := none
  due := false
  skipCount := 0
  sending := none

/-- The clocks after reset: a full period of each (log 32). -/
def Clocks.afterReset : Clocks := ⟨2, 10, 100, 10, 10, 250⟩

/-- The machine right after a power-on reset that reads the inputs of log 5: every option fitted, both
stop channels closed, every overtravel switch closed, no fault input active, every clamp switch open,
fork A at NEUTRAL and fork B at 1, pressure present, tank not low. -/
def State.reset : State where
  link := .afterReset ⟨0, true, true, true⟩
  planner := .afterReset
  axes := .all (.afterReset false false false)
  comp := .all .afterReset
  clamps := .all ⟨.engaged, false, none, false⟩
  valve := ⟨2, 2000, 2000, [], true, none, false⟩
  spindle := .afterReset false
  gear :=
    { table := none, autoRange := true, creepSpeed := 30, retryLimit := 3
      switches := ⟨false, true, false, true, false⟩
      gearbox := .neutral, held := false, step := .idle, target := none, owner := none, stroke := none
      engaging := false, attempts := 0, pauseTimer := none, creep := none, deferred := none }
  coolant := .afterReset false
  pendant := .afterReset true
  stop := ⟨false, false, .released, none, [], 0⟩
  clocks := .afterReset
  pending := []

end Sys2Proof.Machine
end

