-- ==== Sys2Proof/Machine/Arith.lean ====
section
/-! DEFINITION. The integer functions of 00 "Arithmetic", the byte-order helpers of R204 and the CRC of R194. -/

namespace Sys2Proof.Machine

/-- round(n / d), halves up, for non-negative n (00 "Arithmetic"). -/
def roundUp (n d : Nat) : Nat := (2 * n + d) / (2 * d)

/-- round(n / d), halves away from zero (00 "Arithmetic"). -/
def roundAway (n : Int) (d : Nat) : Int :=
  if 0 ≤ n then (roundUp n.natAbs d : Int) else -(roundUp n.natAbs d : Int)

/-- ceil(n / d) for non-negative n. -/
def ceilDiv (n d : Nat) : Nat := (n + d - 1) / d

/-- The `bits` binary digits still to choose of a floor square root, from the highest down. -/
def isqrtDigits (n : Nat) : Nat → Nat → Nat
  | 0, r => r
  | bits + 1, r =>
    if (r + 2 ^ bits) * (r + 2 ^ bits) ≤ n then isqrtDigits n bits (r + 2 ^ bits) else isqrtDigits n bits r

/-- isqrt(n), the floor square root (00 "Arithmetic"). -/
def isqrt (n : Nat) : Nat := isqrtDigits n (n.log2 / 2 + 1) 0

/-- A sign as a factor. -/
def signed (d : Sign) (n : Int) : Int :=
  match d with
  | .plus => n
  | .minus => -n

/-- The opposite direction. -/
def opposite : Sign → Sign
  | .plus => .minus
  | .minus => .plus

/-- The opposite rotation. -/
def otherRotation : Rotation → Rotation
  | .cw => .ccw
  | .ccw => .cw

/-- Byte `i` of a payload, 0 past its end. -/
def byteAt (p : List Byte) (i : Nat) : Nat := (p.getD i 0).toNat

/-- A two-byte little-endian field (R204). -/
def le16 (p : List Byte) (i : Nat) : Nat := byteAt p i + 256 * byteAt p (i + 1)

/-- A four-byte little-endian field (R204). -/
def le32 (p : List Byte) (i : Nat) : Nat := le16 p i + 65536 * le16 p (i + 2)

/-- A two-byte two's-complement field (R204). -/
def sle16 (p : List Byte) (i : Nat) : Int :=
  if le16 p i < 32768 then (le16 p i : Int) else (le16 p i : Int) - 65536

/-- A four-byte two's-complement field (R204). -/
def sle32 (p : List Byte) (i : Nat) : Int :=
  if le32 p i < 2147483648 then (le32 p i : Int) else (le32 p i : Int) - 4294967296

/-- One bit of the CRC's division by 0x1021 (R194). -/
def crcBit (r : BitVec 16) : BitVec 16 :=
  if r.msb then (r <<< 1) ^^^ 0x1021#16 else r <<< 1

/-- The CRC after one more byte (R194). -/
def crcByte (r : BitVec 16) (b : Byte) : BitVec 16 :=
  crcBit (crcBit (crcBit (crcBit (crcBit (crcBit (crcBit (crcBit (r ^^^ (b.zeroExtend 16 <<< 8)))))))))

/-- The 16-bit check: polynomial 0x1021, initial value 0xFFFF, not reflected, no final inversion (R194). -/
def crc16 (bytes : List Byte) : BitVec 16 := bytes.foldl crcByte 0xFFFF#16

/-- The bytes of a number, least significant first (R204). -/
def leBytes : Nat → Nat → List Byte
  | 0, _ => []
  | n + 1, v => BitVec.ofNat 8 v :: leBytes n (v / 256)

/-- The bytes of a signed number in two's complement, least significant first (R204). -/
def sleBytes (n : Nat) (v : Int) : List Byte := leBytes n (v % (256 ^ n : Nat)).toNat

end Sys2Proof.Machine
end

