-- ==== Sys2Proof/Machine/Flags.lean ====
section
/-! DEFINITION. The levels and flags that the spec defines as functions of other state (log 31): drive and
spindle enable, valve drives, pumps, level inhibit, union ceiling, whether a clamp counts as RELEASED,
whether an axis is moving or linger-idle, and the conditions other blocks read. -/

namespace Sys2Proof.Machine

/-! ## Access by axis -/

/-- The Axis Unit of an axis. -/
def State.axis (s : State) (a : Axis) : AxisUnit := s.axes.get a

/-- The compensation record of an axis. -/
def State.compOf (s : State) (a : Axis) : CompRecord := s.comp.get a

/-- The clamp of an axis. -/
def State.clamp (s : State) (a : Axis) : Clamp := s.clamps.get a

/-- The state with one Axis Unit replaced. -/
def State.setAxis (s : State) (a : Axis) (u : AxisUnit) : State := { s with axes := s.axes.set a u }

/-- The state with one compensation record replaced. -/
def State.setComp (s : State) (a : Axis) (c : CompRecord) : State := { s with comp := s.comp.set a c }

/-- The state with one clamp replaced. -/
def State.setClamp (s : State) (a : Axis) (c : Clamp) : State := { s with clamps := s.clamps.set a c }

/-- The axes in the manual's order. -/
def axesInOrder : List Axis := [.x, .y, .z, .w, .b]

/-- The axes one after the other, in the manual's order. -/
def eachAxis (f : Axis → State → State) (s : State) : State := f .b (f .w (f .z (f .y (f .x s))))

/-! ## Travel and fitting -/

/-- Top of an axis's travel, which starts at 0 (00 "The machine", R1); also its travel span. -/
def travelTop : Axis → Nat
  | .x => 4000000
  | .y => 2500000
  | .z => 1600000
  | .w => 700000
  | .b => 359999

/-- The axis is configured (R2). -/
def AxisUnit.configured (u : AxisUnit) : Bool := u.params.isSome

/-- The B axis with B_FITTED clear (R3, R192). -/
def notFitted (s : State) (a : Axis) : Bool := a == .b && !s.link.straps.bFitted

/-! ## Fault list -/

/-- An entry of this code and qualifier is in the list (R184). -/
def hasFault (s : State) (c : FaultCode) (q : Qualifier) : Bool :=
  s.stop.faults.any fun e => e.code == c && e.qualifier == q

/-- An entry of this code, with any qualifier, is in the list. -/
def hasCode (s : State) (c : FaultCode) : Bool := s.stop.faults.any fun e => e.code == c

/-- The codes whose entries keep a condition cause in the hold-cause set (R38). -/
def tiedCodes : HoldCause → List FaultCode
  | .operator => []
  | .host => []
  | .coolant => [.coolantPressure, .coolantLevel]
  | .clamp => [.clampTimeout]
  | .gear => [.gearFault, .gearSlip]
  | .spindle => [.spindleStall, .spindleFault]
  | .pendantLost => [.pendantLost]

/-- The list holds an entry of the cause's tied codes (R38). -/
def hasTied (s : State) (c : HoldCause) : Bool := (tiedCodes c).any (hasCode s)

/-- The list holds a SPINDLE_FAULT or SPINDLE_STALL entry. -/
def hasSpindleFault (s : State) : Bool := hasCode s .spindleFault || hasCode s .spindleStall

/-- The code has a lasting condition (the table of R184). -/
def lasting : FaultCode → Bool
  | .estop => true
  | .estopDiscrepancy => true
  | .overtravel => true
  | .followingError => true
  | .driveFault => true
  | .refFailed => false
  | .clampTimeout => false
  | .clampSwitch => false
  | .gearFault => false
  | .gearSlip => false
  | .spindleFault => true
  | .spindleStall => false
  | .hydraulicLow => true
  | .coolantPressure => false
  | .coolantLevel => true
  | .pendantLost => true

/-! ## Drive enable, step rule, clamps -/

/-- The drive enable output (R7). -/
def driveEnable (s : State) (a : Axis) : Bool :=
  s.stop.estop == .armed && (s.axis a).configured && (s.axis a).mode == .normal
    && !hasFault s .followingError (.axis a) && !hasFault s .driveFault (.axis a)

/-- The axis has a parameter record with clamp_fitted yes: its clamp takes part in the arbitration (R93). -/
def clampTakesPart (s : State) (a : Axis) : Bool :=
  match (s.axis a).params with
  | none => false
  | some p => p.clampFitted

/-- The clamp is one that motion must release: it takes part and the axis is not in LOOP (R94). -/
def clampNeeded (s : State) (a : Axis) : Bool := clampTakesPart s a && (s.axis a).mode != .loop

/-- The clamp counts as RELEASED (R94). -/
def clampReleased (s : State) (a : Axis) : Bool := !clampNeeded s a || (s.clamp a).state == .released

/-- The axis is moving: it has a planner claim or local motion (R4, R94). -/
def AxisUnit.moving (u : AxisUnit) : Bool := u.claim || u.motion != .idle

/-- The axis is linger-idle: at rest, no claim, no local motion (R97). -/
def AxisUnit.lingerIdle (u : AxisUnit) : Bool := u.atRest && !u.moving

/-- The latch of one end (R11). -/
def AxisUnit.latch (u : AxisUnit) : Sign → Bool
  | .plus => u.latchPlus
  | .minus => u.latchMinus

/-- Compensation applies: referenced and NORMAL (R72). -/
def AxisUnit.compensated (u : AxisUnit) : Bool := u.referenced && u.mode == .normal

/-- At a period the commanded and output positions follow the measured position (R3, R8, R17). -/
def positionsFollow (s : State) (a : Axis) : Bool :=
  !(s.axis a).configured || (s.axis a).mode == .parked
    || ((s.axis a).mode == .normal && !driveEnable s a && !(s.axis a).referenced)

/-- The backlash ramp may run (R78). -/
def rampMayRun (s : State) (a : Axis) : Bool :=
  (s.axis a).compensated && driveEnable s a && (!clampTakesPart s a || (s.clamp a).state == .released)

/-- The axis would take a jog demand (R19, R21). -/
def takesJog (s : State) (a : Axis) : Bool :=
  (s.axis a).configured
    && ((s.axis a).mode == .loop || ((s.axis a).mode == .normal && driveEnable s a))
    && (match (s.axis a).motion with
        | .idle => true
        | .jog _ => true
        | .reference _ => false)
    && (!(s.axis a).claim || s.planner.state == .held)

/-- The local motion is a jog. -/
def LocalMotion.isJog : LocalMotion → Bool
  | .idle => false
  | .jog _ => true
  | .reference _ => false

/-- The local motion is a reference run. -/
def LocalMotion.isReference : LocalMotion → Bool
  | .idle => false
  | .jog _ => false
  | .reference _ => true

/-- Some Axis Unit has local motion REFERENCE (R28, R167). -/
def anyReference (s : State) : Bool := axesInOrder.any fun a => (s.axis a).motion.isReference

/-! ## Valve Bank -/

/-- Flow weight of a stroke (5.1). -/
def Stroke.weight : Stroke → Nat
  | .release _ => 1
  | .engage _ => 1
  | .fork _ => 2

/-- The valve function of a stroke (5.1). -/
def Stroke.function : Stroke → ValveFunction
  | .release a => .clamp a
  | .engage a => .clamp a
  | .fork (.a _) => .forkA
  | .fork (.b _) => .forkB

/-- The request is ACTIVE (R87). -/
def Request.isActive (r : Request) : Bool :=
  match r.status with
  | .waiting => false
  | .active _ => true

/-- Flow in use: the weights of the ACTIVE requests (R87, R89). -/
def flowInUse (l : List Request) : Nat := ((l.filter Request.isActive).map fun r => r.stroke.weight).sum

/-- The valve drive of a function is energised: its request is ACTIVE (R85). -/
def valveDrive (s : State) (f : ValveFunction) : Bool :=
  s.valve.requests.any fun r => r.isActive && r.stroke.function == f

/-- The confirm switch shows the stroke's target (5.1). -/
def confirmed (s : State) : Stroke → Bool
  | .release a => (s.clamp a).switchClosed
  | .engage a => !(s.clamp a).switchClosed
  | .fork (.a .low) => s.gear.switches.aLow
  | .fork (.a .neutral) => s.gear.switches.aNeu
  | .fork (.a .high) => s.gear.switches.aHigh
  | .fork (.b .one) => s.gear.switches.b1
  | .fork (.b .two) => s.gear.switches.b2

/-- A fork request is ACTIVE (R140). -/
def forkActive (s : State) : Bool := valveDrive s .forkA || valveDrive s .forkB

/-! ## Gearbox -/

/-- Position read of fork A (R123). -/
def readForkA (w : ForkSwitches) : Option ForkAPos :=
  match w.aLow, w.aNeu, w.aHigh with
  | true, false, false => some .low
  | false, true, false => some .neutral
  | false, false, true => some .high
  | _, _, _ => none

/-- Position read of fork B (R123). -/
def readForkB (w : ForkSwitches) : Option ForkBPos :=
  match w.b1, w.b2 with
  | true, false => some .one
  | false, true => some .two
  | _, _ => none

/-- Derivation of the gearbox state from the switches (R124). -/
def deriveGearbox (w : ForkSwitches) : Gearbox :=
  match readForkA w, readForkB w with
  | some .neutral, _ => .neutral
  | some .low, some .one => .range .i
  | some .low, some .two => .range .ii
  | some .high, some .one => .range .iii
  | some .high, some .two => .range .iv
  | some .low, none => .unknown
  | some .high, none => .unknown
  | none, _ => .unknown

/-- The gearbox state is a range. -/
def Gearbox.inRange : Gearbox → Bool
  | .range _ => true
  | .neutral => false
  | .shifting => false
  | .unknown => false

/-- A row of the gear table (R121). -/
def GearTable.row (t : GearTable) : GearRange → RangeRow
  | .i => t.i
  | .ii => t.ii
  | .iii => t.iii
  | .iv => t.iv

/-- Limits and ratio of the current range, none outside a range or without a table (R122). -/
def currentRow (s : State) : Option RangeRow :=
  match s.gear.table, s.gear.gearbox with
  | some t, .range r => some (t.row r)
  | some _, .neutral => none
  | some _, .shifting => none
  | some _, .unknown => none
  | none, _ => none

/-! ## Spindle and coolant -/

/-- The spindle enable output (R113). -/
def spindleEnable (s : State) : Bool := s.stop.estop == .armed && !hasSpindleFault s

/-- The union ceiling (R142, R151). -/
def unionCeiling (s : State) : Option Nat :=
  if s.coolant.tsc == .building || s.coolant.tsc == .ready then some s.coolant.unionLimit else none

/-- The level inhibit (R142). -/
def levelInhibit (s : State) : Bool := s.coolant.tankLow || hasCode s .coolantLevel

/-- The flood pump output (R142). -/
def floodPump (s : State) : Bool := s.coolant.flood == .on

/-- The TSC pump output (R142). -/
def tscPump (s : State) : Bool := s.coolant.tsc == .building || s.coolant.tsc == .ready

/-- The purge valve output (R142). -/
def purgeValve (s : State) : Bool := s.coolant.tsc == .purging

/-- The reference update of R110 runs. -/
def referenceRuns (s : State) : Bool :=
  spindleEnable s && s.gear.gearbox.inRange && s.spindle.phase != .creep

/-- A ramp is in progress (R110). -/
def rampInProgress (s : State) : Bool := referenceRuns s && s.spindle.reference != s.spindle.dacTarget

/-- The AT_SPEED window around S_cmd (R115). -/
def speedTolerance (sCmd tolerance : Nat) : Nat := max 2 (sCmd * tolerance / 100)

/-- The conditions that set AT_SPEED at a window end (R115). -/
def atSpeedNow (p : Spindle) : Bool :=
  p.phase == .run && decide (0 < p.sCmd) && p.directionOut == p.commandedDir
    && decide (p.sMeas ≤ p.sCmd + speedTolerance p.sCmd p.tolerance)
    && decide (p.sCmd ≤ p.sMeas + speedTolerance p.sCmd p.tolerance)

/-! ## Planner -/

/-- A cause is in the set. -/
def CauseSet.has (s : CauseSet) : HoldCause → Bool
  | .operator => s.operator
  | .host => s.host
  | .coolant => s.coolant
  | .clamp => s.clamp
  | .gear => s.gear
  | .spindle => s.spindle
  | .pendantLost => s.pendantLost

/-- The set with a cause put in or taken out. -/
def CauseSet.put (s : CauseSet) (c : HoldCause) (v : Bool) : CauseSet :=
  match c with
  | .operator => { s with operator := v }
  | .host => { s with host := v }
  | .coolant => { s with coolant := v }
  | .clamp => { s with clamp := v }
  | .gear => { s with gear := v }
  | .spindle => { s with spindle := v }
  | .pendantLost => { s with pendantLost := v }

/-- OPERATOR and HOST are operator causes, the others condition causes (R38). -/
def HoldCause.isCondition : HoldCause → Bool
  | .operator => false
  | .host => false
  | .coolant => true
  | .clamp => true
  | .gear => true
  | .spindle => true
  | .pendantLost => true

/-- The set holds a condition cause (R28). -/
def CauseSet.hasCondition (s : CauseSet) : Bool :=
  s.coolant || s.clamp || s.gear || s.spindle || s.pendantLost

/-- Kind of an entry (R37). -/
def EntryBody.kind : EntryBody → EntryKind
  | .move _ _ _ => .move
  | .dwell _ => .dwell
  | .spindle _ _ _ _ => .spindle
  | .coolant _ _ => .coolant
  | .mark => .mark
  | .endProgram => .endProgram

/-- The entry is a MOVE. -/
def EntryBody.isMove : EntryBody → Bool
  | .move _ _ _ => true
  | .dwell _ => false
  | .spindle _ _ _ _ => false
  | .coolant _ _ => false
  | .mark => false
  | .endProgram => false

/-- The entry is a PER_REV MOVE. -/
def EntryBody.isPerRev : EntryBody → Bool
  | .move _ m _ => m == .perRev
  | .dwell _ => false
  | .spindle _ _ _ _ => false
  | .coolant _ _ => false
  | .mark => false
  | .endProgram => false

/-- The body of the head entry. -/
def headBody (s : State) : Option EntryBody := s.planner.queue.head?.map Entry.body

/-- The head entry is a PER_REV MOVE, in any sub-state (R129). -/
def headIsPerRev (s : State) : Bool := (headBody s).any EntryBody.isPerRev

/-- The head entry is STARTING or ACTIVE. -/
def headInProgress (s : State) : Bool :=
  s.planner.head == some .starting || s.planner.head == some .active

/-- The context has a moving axis. -/
def MoveContext.moves (c : MoveContext) : Bool := axesInOrder.any fun a => (c.legs.get a).isSome

/-- The head MOVE has a moving axis (R32, R40). -/
def headMoves (s : State) : Bool := s.planner.context.any MoveContext.moves

/-- The head entry is an ACTIVE MOVE. -/
def activeMove (s : State) : Bool := s.planner.head == some .active && (headBody s).any EntryBody.isMove

/-- Path velocity of the present context, 0 without one. -/
def pathVelocity (s : State) : Nat :=
  match s.planner.context with
  | none => 0
  | some c => c.v

/-! ## Stop chain -/

/-- Both channels open: a broken chain (R180). -/
def bothOpen (s : State) : Bool := s.stop.channel1Open && s.stop.channel2Open

/-- The channels disagree (R181). -/
def channelsDisagree (s : State) : Bool := s.stop.channel1Open != s.stop.channel2Open

/-! ## Pendant -/

/-- The handwheel's pending distance: the goal minus the jogged axis's commanded position (R169). -/
def pendingDistance (s : State) : Int :=
  match s.pendant.goal, s.pendant.jogged with
  | some g, some a => g - (s.axis a).commanded
  | some _, none => 0
  | none, _ => 0

/-- The lamp levels from their owners' states (R176). -/
def lampLevels (s : State) : Lamps where
  hold := if s.planner.state == .holding then s.pendant.flashLit else s.planner.state == .held
  spindle :=
    if s.spindle.phase == .creep || rampInProgress s then s.pendant.flashLit else s.spindle.atSpeed
  coolant :=
    if s.coolant.tsc == .building then s.pendant.flashLit
    else s.coolant.tsc == .ready || s.coolant.flood == .on
  fault := !s.stop.faults.isEmpty && s.pendant.flashLit
  clip := s.pendant.clipTimer.isSome
  site := s.pendant.site == .pendant

/-! ## Pitch correction -/

/-- Window size 2^k (R71). -/
def CompRecord.size (c : CompRecord) : Nat := 2 ^ c.k

/-- Spacing of the points, size / 128 (R71). -/
def CompRecord.width (c : CompRecord) : Nat := c.size / 128

/-- Pitch point c_j (R71). -/
def CompRecord.point (c : CompRecord) (j : Nat) : Int := c.points.getD j 0

/-- The pitch correction at a commanded position (R73, R74). -/
def pitchAt (c : CompRecord) (p : Int) : Int :=
  if p < c.base then c.point 0
  else if c.base + c.size ≤ p then c.point 128
  else
    roundAway
      (c.point ((p - c.base).toNat / c.width) * c.width
        + (c.point ((p - c.base).toNat / c.width + 1) - c.point ((p - c.base).toNat / c.width))
          * ((p - c.base).toNat % c.width : Nat))
      c.width

/-- The pitch correction an axis shows: 0 where compensation does not apply (R84). -/
def pitchShown (s : State) (a : Axis) : Int :=
  if (s.axis a).compensated then pitchAt (s.compOf a) (s.axis a).commanded else 0

end Sys2Proof.Machine
end

