-- ==== Sys2Proof/Machine/Ops.lean ====
section
/-! DEFINITION. The operations every block shares: reports and replies, the fault list, the hold-cause set,
losing the reference, joining the valve request list, and what ends every event (the return of the site,
the hydraulic wait, the STATE slot, the transmitter). -/

namespace Sys2Proof.Machine

/-! ## Event reports and replies -/

/-- Places an event report, or drops it into a full queue (R198). -/
def placeEvent (r : EventReport) (s : State) : State :=
  { s with
    link :=
      if s.link.events.length < Config.eventQueueCapacity then { s.link with events := s.link.events ++ [r] }
      else
        { s.link with
          overflow := true
          counters := { s.link.counters with dropped := s.link.counters.dropped + 1 } } }

/-- Places a reply at the tail of the reply queue (R196, R197). -/
def placeReply (r : Reply) (s : State) : State := { s with link := { s.link with replies := s.link.replies ++ [r] } }

/-! ## Fault list -/

/-- The entry is the one of this code and qualifier. -/
def FaultEntry.isPair (e : FaultEntry) (c : FaultCode) (q : Qualifier) : Bool := e.code == c && e.qualifier == q

/-- The entry after a repeat (R185). -/
def FaultEntry.repeated (e : FaultEntry) : FaultEntry :=
  { e with repeats := min 255 (e.repeats + 1), condition := lasting e.code }

/-- The entry a first raise makes (R185). -/
def newFault (s : State) (c : FaultCode) (q : Qualifier) : FaultEntry :=
  { code := c, qualifier := q, firstRaised := s.stop.partTime, condition := lasting c, repeats := 0 }

/-- A raise: a repeat of the pair's entry, or a new entry at the tail, with its FAULT report (R185). -/
def raiseFault (c : FaultCode) (q : Qualifier) (s : State) : State :=
  match s.stop.faults.find? (fun e => e.isPair c q) with
  | some e =>
    placeEvent (.fault .repeated e.repeated)
      { s with
        stop := { s.stop with faults := s.stop.faults.map fun f => if f.isPair c q then f.repeated else f } }
  | none =>
    placeEvent (.fault .raised (newFault s c q))
      { s with stop := { s.stop with faults := s.stop.faults ++ [newFault s c q] } }

/-- The condition flag of a pair's entry follows its condition, with no report (R186). -/
def setCondition (c : FaultCode) (q : Qualifier) (v : Bool) (s : State) : State :=
  { s with
    stop :=
      { s.stop with faults := s.stop.faults.map fun f => if f.isPair c q then { f with condition := v } else f } }

/-! ## Hold causes -/

/-- A cause raised by its owner acts according to the planner state (R39); a condition cause newly added with
no entry of its tied codes in the list is a start-time cause (R38, R40). -/
def raiseCause (c : HoldCause) (s : State) : State :=
  match s.planner.state with
  | .idle => s
  | .aborting => s
  | st =>
    { s with
      planner :=
        { s.planner with
          state :=
            (match st with
             | .running => if s.planner.head == some .active then .holding else .held
             | other => other)
          causes := s.planner.causes.put c true
          startTime :=
            if c.isCondition && !s.planner.causes.has c && !hasTied s c then s.planner.startTime.put c true
            else s.planner.startTime } }

/-- At a Clear Faults a condition cause that is no start-time cause leaves the set when no entry of its tied
codes is left (R38, R41). -/
def dropCause (c : HoldCause) (s : State) : State :=
  if hasTied s c || s.planner.startTime.has c then s
  else { s with planner := { s.planner with causes := s.planner.causes.put c false } }

/-! ## Seating -/

/-- Seats the compensation of an axis: backlash state 0, direction NEGATIVE (R82). -/
def seatComp (a : Axis) (s : State) : State := s.setComp a { s.compOf a with b := 0, direction := .minus }

/-- The referenced flag goes from yes to no: commanded to the output position, a seating event (R3, R82). -/
def loseReference (a : Axis) (s : State) : State :=
  if (s.axis a).referenced then
    seatComp a (s.setAxis a { s.axis a with referenced := false, commanded := (s.axis a).output })
  else s

/-! ## Valve request list -/

/-- A request joins the tail of the list, WAITING with bypass count 0 (R87). -/
def joinRequest (k : Stroke) (s : State) : State :=
  { s with valve := { s.valve with requests := s.valve.requests ++ [⟨k, 0, .waiting⟩] } }

/-- A function's request leaves the list (R87, R90). -/
def removeRequest (f : ValveFunction) (s : State) : State :=
  { s with valve := { s.valve with requests := s.valve.requests.filter fun r => r.stroke.function != f } }

/-! ## The pendant hears of a jog's end -/

/-- The Axis Unit tells the Pendant Unit that it ended the axis's jog otherwise than by completing it (R174, log 23). -/
def jogEndedByStop (a : Axis) (s : State) : State :=
  if s.pendant.jogged == some a then
    { s with
      pendant :=
        { s.pendant with
          goal := none
          buttonBlocked := s.pendant.buttonBlocked || s.pendant.buttonJog != .idle
          buttonJog := .idle } }
  else s

/-- Local motion ends at once where the axis stands (R10). -/
def endMotion (a : Axis) (s : State) : State := s.setAxis a { s.axis a with motion := .idle, velocity := 0 }

/-- What an immediate stop does at one Axis Unit (R10). -/
def axisStop (a : Axis) (s : State) : State :=
  if (s.axis a).motion.isJog then jogEndedByStop a (endMotion a s) else endMotion a s

/-- A jog or reference run in CLAMP_WAIT ends: a clamp timeout, or an ask that meets FAULT (R15, R19, R95). -/
def endClampWait (a : Axis) (s : State) : State :=
  match (s.axis a).motion with
  | .jog .clampWait => jogEndedByStop a (endMotion a s)
  | .reference .clampWait => endMotion a s
  | _ => s

/-! ## What ends every event -/

/-- The site returns to the host at the event at which the last axis jogged in a withdrawn tenure has local
motion NONE (R168). -/
def siteReturn (s : State) : State :=
  if s.pendant.withdrawing
      && axesInOrder.all (fun a => !s.pendant.tenure.get a || (s.axis a).motion == .idle) then
    { s with pendant := { s.pendant with site := .host, withdrawing := false, tenure := .all false, jogged := none } }
  else s

/-- The hydraulic wait timer starts when PRESSURE_OK is false with a request WAITING, and stops when either
fails; after an expiry it stays stopped until one has failed (R92). The conditions are judged once, at the event's end:
one WAITING request that leaves while another joins within an event is no failure (DEDUCED, log 43). -/
def hydraulicCheck (s : State) : State :=
  if !s.valve.pressureOk && s.valve.requests.any (fun r => !r.isActive) then
    if s.valve.hydraulicWait.isNone && !s.valve.hydraulicExpired then
      { s with valve := { s.valve with hydraulicWait := some 10000 } }
    else s
  else { s with valve := { s.valve with hydraulicWait := none, hydraulicExpired := false } }

/-- The contents of the STATE report (R199). -/
def stateReport (s : State) : StateReport where
  planner := s.planner.state
  causes := s.planner.causes
  displaced := s.planner.displaced
  gearbox := s.gear.gearbox
  retries := s.gear.attempts
  clamps := .of fun a => if clampTakesPart s a then some (s.clamp a).state else none
  flood := s.coolant.flood
  tsc := s.coolant.tsc
  late := s.coolant.late
  site := s.pendant.site
  feedOverride := s.pendant.feedOverride
  spindleOverride := s.pendant.spindleOverride
  estop := s.stop.estop
  speedClamped := s.spindle.speedClamped

/-- A state report change sets the STATE slot pending (R199, log 7). -/
def noteChange (before s : State) : State :=
  if stateReport before == stateReport s then s else { s with link := { s.link with statePending := true } }

/-- v and the limiter a POSITION report carries (the table of R70). -/
def positionMotion (s : State) : Nat × Limiter :=
  match s.planner.context with
  | none => (0, .absent)
  | some c =>
    if s.planner.head == some .active then
      match c.kind with
      | .null => (0, .absent)
      | _ => if s.planner.state == .held then (0, .feed) else (c.v, c.limiter)
    else (0, .absent)

/-- The contents of the POSITION report (R200). R200 gives the positions of each axis at the last interpolation period,
and of an unconfigured axis, or B with B_FITTED clear, those its state record holds; every axis reports the positions its
state record held at the last period here, those axes too (DEDUCED, log 48). -/
def positionReport (s : State) : PositionReport where
  partTime := s.stop.partTime
  commanded := s.axes.map fun u => u.seen.commanded
  measured := s.axes.map fun u => u.seen.measured
  v := (positionMotion s).1
  limiter := (positionMotion s).2
  sMeas := s.spindle.sMeas
  skipCount := s.link.skipCount

/-- A report begins transmission: it takes the sequence number and the overflow flag, which is cleared (R198). -/
def Link.beginReport (l : Link) (o : Outgoing) : Link :=
  { l with sending := some o, sequence := l.sequence + 1, overflow := false }

/-- An idle transmitter chooses what to begin: reply, event report, STATE, POSITION (R201). -/
def transmit (s : State) : State :=
  { s with
    link :=
      match s.link.sending with
      | some _ => s.link
      | none =>
        match s.link.replies with
        | r :: rest => { s.link with sending := some (.reply r), replies := rest }
        | [] =>
          match s.link.events with
          | e :: rest =>
            { s.link.beginReport (.event s.link.sequence s.link.overflow e) with events := rest }
          | [] =>
            if s.link.statePending then
              { s.link.beginReport (.state s.link.sequence s.link.overflow (stateReport s)) with
                statePending := false }
            else if s.link.due then
              { s.link.beginReport (.position s.link.sequence s.link.overflow (positionReport s)) with
                due := false }
            else s.link }

/-- What ends an event: the site's return, the hydraulic wait, the STATE slot, the transmitter (log 6, log 7). -/
def finish (before s : State) : State := transmit (noteChange before (hydraulicCheck (siteReturn s)))

/-- The meaning of a command whose effect is `f`: the effect and what ends every event. -/
def event (f : State → State) (s : State) : Host.Outcome State Fault Refusal := .next (finish s (f s))

/-! ## Orders -/

/-- What an order's owner answers: the state after an accepted order with the ACCEPT payload, or a refusal
code. A refused order changes no state in any block (R196). -/
inductive Verdict where
  | accept (s : State) (payload : AcceptPayload)
  | refuse (code : RefuseCode)

/-- The first check that fails, in the order of R196; a check is a pair of its failure and its code. -/
def firstRefusal : List (Bool × RefuseCode) → Option RefuseCode
  | [] => none
  | (failed, code) :: rest => if failed then some code else firstRefusal rest

/-- An order judged by its checks and, if none fails, taken. -/
def judge (checks : List (Bool × RefuseCode)) (taken : Verdict) : Verdict :=
  match firstRefusal checks with
  | some code => .refuse code
  | none => taken

/-- A well-framed telegram taken as an order: the overrun test (R197), then its owner's verdict and exactly one
reply (R196). -/
def takeOrder (kind : Byte) (tag : Tag) (owner : State → Verdict) (s : State) : State :=
  if Config.replyQueueCapacity ≤ s.link.replies.length then
    { s with
      link := { s.link with counters := { s.link.counters with overrun := s.link.counters.overrun + 1 } } }
  else
    match owner s with
    | .accept s' payload => placeReply (.accept tag payload) s'
    | .refuse code => placeReply (.refuse tag code kind) s

end Sys2Proof.Machine
end

