-- ==== Sys2Proof/Machine/SpindleOps.lean ====
section
/-! DEFINITION. The operations of the Spindle Controller (Section 6) that other blocks and several commands
use: forming S_cmd and dac_target, the direction, the creep, the gear stop and the fault actions. -/

namespace Sys2Proof.Machine

/-- Step 3 of R106: the range limits. -/
def clampToRange (r : RangeRow) (x : Nat) : Nat := min (max x r.min) r.max

/-- Step 4 of R106: the union ceiling, 0 where it lies below the range min. -/
def clampToCeiling (ceiling : Option Nat) (r : RangeRow) (x : Nat) : Nat :=
  match ceiling with
  | none => x
  | some c => if c < r.min then 0 else min x c

/-- Steps 3 and 4 of R106 on a speed: the result, and whether either step changed the speed it was given. -/
def limitSpeed (ceiling : Option Nat) (r : RangeRow) (x : Nat) : Nat × Bool :=
  (clampToCeiling ceiling r (clampToRange r x),
    clampToRange r x != x || clampToCeiling ceiling r (clampToRange r x) != clampToRange r x)

/-- S_cmd and whether step 3 or 4 changed it, with the spindle record `p` (R106). -/
def commandedSpeed (s : State) (p : Spindle) : Nat × Bool :=
  match currentRow s with
  | none => (0, false)
  | some r =>
    if p.sProg == 0 || p.stoppedByOperator || s.stop.estop != .armed then (0, false)
    else limitSpeed (unionCeiling s) r (p.sProg * s.pendant.spindleOverride / 100)

/-- The reference code of a motor speed, before the cap at 4,095 (R108, R112). -/
def motorCode (rpm motorMax : Nat) : Nat := roundUp (rpm * 4095) motorMax

/-- The creep code (R112). -/
def creepCode (s : State) : Nat := motorCode s.gear.creepSpeed s.spindle.motorMax

/-- dac_target before its cap, outside CREEP and REVERSING (R108, steps 1 and 2). -/
def uncappedTarget (s : State) (p : Spindle) : Nat :=
  match currentRow s with
  | none => 0
  | some r => if p.sCmd == 0 then 0 else motorCode (roundUp (p.sCmd * r.num) r.den) p.motorMax

/-- dac_target formed anew: the creep code in CREEP, 0 in REVERSING, and the capped code in RUN, where the cap
sets speed_clamped (R108, R112, log 16). -/
def withTarget (s : State) (p : Spindle) : Spindle :=
  match p.phase with
  | .creep => { p with dacTarget := motorCode s.gear.creepSpeed p.motorMax }
  | .reversing => { p with dacTarget := 0 }
  | .run =>
    { p with
      dacTarget := min (uncappedTarget s p) 4095
      speedClamped := p.speedClamped || decide (4095 < uncappedTarget s p) }

/-- The direction is settled by the table of R111; entering REVERSING clears AT_SPEED and the stall count
(R115, R116). -/
def settled (s : State) (p : Spindle) : Spindle :=
  match p.phase with
  | .creep => p
  | .run =>
    if decide (0 < p.sCmd) && p.directionOut != p.commandedDir then
      if p.stopped then { p with directionOut := p.commandedDir }
      else withTarget s { p with phase := .reversing, atSpeed := false, stallCount := 0 }
    else p
  | .reversing =>
    if p.sCmd == 0 || p.directionOut == p.commandedDir then withTarget s { p with phase := .run } else p

/-- The spindle record with S_cmd formed anew; a new value clears AT_SPEED, and 0 clears the stall count
(R106, R116). -/
def withSpeed (s : State) (p : Spindle) : Spindle :=
  settled s <|
    withTarget s
      { p with
        sCmd := (commandedSpeed s p).1
        speedClamped := (commandedSpeed s p).2
        atSpeed := p.atSpeed && (commandedSpeed s p).1 == p.sCmd
        stallCount := if (commandedSpeed s p).1 == 0 then 0 else p.stallCount }

/-- S_cmd is formed anew, with dac_target and the direction (R106, R108, R111). -/
def formSpeed (s : State) : State := { s with spindle := withSpeed s s.spindle }

/-- dac_target is formed anew (R108). -/
def formTarget (s : State) : State := { s with spindle := withTarget s s.spindle }

/-- The gear stop: S_prog is set to 0 (R127, R135, R139). -/
def gearStop (s : State) : State := formSpeed { s with spindle := { s.spindle with sProg := 0 } }

/-- The reference is set to 0 at once (R110). -/
def zeroReference (s : State) : State := { s with spindle := { s.spindle with reference := 0 } }

/-- A creep direction on the output, with the reference at the creep code while the spindle enable is on and at
0 while it is off (R112). -/
def creepDrive (d : Rotation) (s : State) : State :=
  { s with
    spindle :=
      { s.spindle with
        directionOut := d
        reference := if spindleEnable s then creepCode s else 0
        dacTarget := creepCode s } }

/-- Creep start: the phase becomes CREEP and the creep is driven (R112). -/
def creepStart (d : Rotation) (s : State) : State :=
  creepDrive d
    { s with spindle := { s.spindle with phase := .creep, atSpeed := false, stallCount := 0 } }

/-- Creep end: reference 0, phase RUN, direction settled (R112). -/
def creepEnd (s : State) : State :=
  { s with spindle := settled s (withTarget s { s.spindle with reference := 0, phase := .run }) }

/-- A spindle fault holds the head: an ACTIVE PER_REV MOVE of a program that runs or is held (R67). -/
def faultHoldsMove (s : State) : Bool :=
  s.planner.head == some .active && headIsPerRev s
    && (s.planner.state == .running || s.planner.state == .holding || s.planner.state == .held)

/-- The next Start takes the start conditions of the held move again (R67, log 41). -/
def noteFaultHold (s : State) : State :=
  if faultHoldsMove s then { s with planner := { s.planner with retake := true } } else s

/-- The fault actions of a spindle fault (R117), with the planner's note of a PER_REV MOVE they hold (R67). -/
def spindleFaultActions (s : State) : State :=
  raiseCause .spindle <| noteFaultHold <|
    zeroReference <|
      formSpeed { s with spindle := { s.spindle with sProg := 0, stoppedByOperator := false } }

/-- stopped-by-operator is cleared and S_cmd formed from the kept S_prog (R118, R29, R30). -/
def clearOperatorStop (s : State) : State :=
  if s.spindle.stoppedByOperator then
    formSpeed { s with spindle := { s.spindle with stoppedByOperator := false } }
  else s

/-- The pendant SPINDLE_STOP press, taken in IDLE and HELD (R118). -/
def operatorStop (s : State) : State :=
  match s.planner.state with
  | .idle => formSpeed { s with spindle := { s.spindle with stoppedByOperator := true } }
  | .held => formSpeed { s with spindle := { s.spindle with stoppedByOperator := true } }
  | .running => s
  | .holding => s
  | .aborting => s

/-- What an E-stop trip does at the Spindle Controller (R119). -/
def spindleTrip (s : State) : State :=
  zeroReference <|
    formSpeed
      { s with
        spindle :=
          { s.spindle with
            sProg := 0, stoppedByOperator := false, phase := .run, atSpeed := false, stallCount := 0 } }

end Sys2Proof.Machine
end

