-- ==== Sys2Proof/Machine/CoolantOps.lean ====
section
/-! DEFINITION. The operations of the Coolant Unit (Section 8) that several commands use: entering and
leaving TSC states, the start judgement, requests, and the notices of gear changes. -/

namespace Sys2Proof.Machine

/-- The list holds a COOLANT_PRESSURE or COOLANT_LEVEL entry. -/
def hasCoolantFault (s : State) : Bool := hasCode s .coolantPressure || hasCode s .coolantLevel

/-- S_cmd is formed where the union ceiling is other than it was in the state before, and only there (R106, R151). -/
def formIfCeiling (before t : State) : State := if unionCeiling t == unionCeiling before then t else formSpeed t

/-- TSC enters a state in which it neither builds nor runs: the build timer stops, late is cleared, and a ceiling that
stood is removed, with S_cmd formed at this event (R148, R150, R151, R152, R154). -/
def leaveTsc (new : TscState) (s : State) : State :=
  formIfCeiling s { s with coolant := { s.coolant with tsc := new, buildTimer := none, late := false } }

/-- TSC is put in BLOCKED or FAULTED; with the coolant wait armed and no COOLANT_PRESSURE or COOLANT_LEVEL entry in
the list, the event that does so raises COOLANT (R153). A TSC that stands in that state already and is placed there
again is not put there by the event and raises nothing (DEDUCED, log 35). -/
def stopTsc (new : TscState) (s : State) : State :=
  if s.coolant.tsc != new && s.planner.coolantWait && !hasCoolantFault s then raiseCause .coolant (leaveTsc new s)
  else leaveTsc new s

/-- Entry to BUILDING (R144, R146, R151). -/
def enterBuilding (s : State) : State :=
  formSpeed
    { s with
      coolant :=
        { s.coolant with
          tsc := .building
          window := List.replicate 8 0
          filtered := 0
          buildRun := 0
          lossCount := 0
          buildTimer := some s.coolant.buildLimit
          late := false } }

/-- The current range's min exceeds union_limit (R146). -/
def rangeTooFast (s : State) : Bool :=
  match currentRow s with
  | none => false
  | some r => decide (s.coolant.unionLimit < r.min)

/-- The start judgement (R146). -/
def startJudgement (s : State) : State :=
  if s.gear.gearbox == .shifting then leaveTsc .suspended s
  else if rangeTooFast s then stopTsc .blocked s
  else enterBuilding s

/-- TSC placed as from OFF, for a request with TSC requested yes (R145). -/
def placeTsc (s : State) : State := if levelInhibit s then stopTsc .faulted s else startJudgement s

/-- TSC enters PURGING; a purge_time of 0 gives OFF at once (R150). -/
def startPurge (s : State) : State :=
  if s.coolant.purgeTime == 0 then leaveTsc .off s
  else leaveTsc .purging { s with coolant := { s.coolant with purgeTimer := some s.coolant.purgeTime } }

/-- The flood state for flood requested and the level inhibit (the table of R145). -/
def floodFor (requested inhibit : Bool) : FloodState :=
  if requested then (if inhibit then .inhibited else .on) else .off

/-- The TSC table of R145. -/
def moveTsc (s : State) : State :=
  if s.coolant.tscRequested then
    match s.coolant.tsc with
    | .off => placeTsc s
    | .purging => placeTsc { s with coolant := { s.coolant with purgeTimer := none } }
    | .building => s
    | .ready => s
    | .suspended => s
    | .blocked => s
    | .faulted => s
  else
    match s.coolant.tsc with
    | .off => s
    | .purging => s
    | .building => startPurge s
    | .ready => startPurge s
    | .suspended => startPurge s
    | .blocked => leaveTsc .off s
    | .faulted => leaveTsc .off s

/-- The two requests set at an event, with the flood and TSC states that follow; not taken while the E-stop state
is not ARMED (R145). -/
def setRequests (flood tsc : Bool) (s : State) : State :=
  if s.stop.estop == .armed then
    moveTsc
      { s with
        coolant :=
          { s.coolant with
            floodRequested := flood, tscRequested := tsc, flood := floodFor flood (levelInhibit s) } }
  else s

/-- A mode asks for flood (R145). -/
def CoolantMode.asksFlood : CoolantMode → Bool
  | .off => false
  | .flood => true
  | .tsc => false
  | .floodTsc => true

/-- A mode asks for TSC (R145). -/
def CoolantMode.asksTsc : CoolantMode → Bool
  | .off => false
  | .flood => false
  | .tsc => true
  | .floodTsc => true

/-- A coolant request (R145). -/
def coolantRequest (m : CoolantMode) (s : State) : State := setRequests m.asksFlood m.asksTsc s

/-- A flood toggle (R145). -/
def floodToggle (s : State) : State := setRequests (!s.coolant.floodRequested) s.coolant.tscRequested s

/-- A change begins: BUILDING and READY become SUSPENDED (R152). -/
def coolantChangeBegins (s : State) : State :=
  match s.coolant.tsc with
  | .building => leaveTsc .suspended s
  | .ready => leaveTsc .suspended s
  | .off => s
  | .suspended => s
  | .blocked => s
  | .faulted => s
  | .purging => s

/-- A change ends: SUSPENDED and BLOCKED are placed again, or become FAULTED under the level inhibit (R152). -/
def coolantChangeEnds (s : State) : State :=
  match s.coolant.tsc with
  | .suspended => placeTsc s
  | .blocked => placeTsc s
  | .off => s
  | .building => s
  | .ready => s
  | .faulted => s
  | .purging => s

/-- The gearbox state or the current range's min changes outside a change, or union_limit changes: a BLOCKED TSC
is placed again by the start judgement (R143, R152). -/
def coolantRejudge (s : State) : State := if s.coolant.tsc == .blocked then startJudgement s else s

/-- COOLANT_PRESSURE with its actions (R148, R149). -/
def pressureFault (s : State) : State :=
  raiseCause .coolant (leaveTsc .faulted (raiseFault .coolantPressure .absent s))

/-- TSC becomes READY under the ceiling that stands, and the planner disarms the coolant wait (R147, R34). -/
def tscReady (s : State) : State :=
  { s with
    coolant := { s.coolant with tsc := .ready, buildTimer := none, late := false, lossCount := 0 }
    planner := { s.planner with coolantWait := false } }

/-- What an E-stop trip does at the Coolant Unit (R157). -/
def coolantTrip (s : State) : State :=
  leaveTsc .off
    { s with
      coolant :=
        { s.coolant with floodRequested := false, tscRequested := false, flood := .off, purgeTimer := none } }

/-- What Clear Faults does at the Coolant Unit (R155). -/
def coolantRelease (s : State) : State :=
  if s.stop.estop == .armed && !levelInhibit s then
    (fun t => if t.coolant.tsc == .faulted && !hasCode t .coolantPressure then startJudgement t else t)
      { s with
        coolant :=
          { s.coolant with flood := if s.coolant.flood == .inhibited then .on else s.coolant.flood } }
  else s

end Sys2Proof.Machine
end

