-- ==== Sys2Proof/Machine/GearOps.lean ====
section
/-! DEFINITION. The operations of the Gear Sequencer (Section 7): the gearbox state, range selection, the
change from its beginning to its end, and what aborts, trips and stroke ends do to it. A stroke joins
the valve request list here; the grant walk that follows is taken by the event (R88). -/

namespace Sys2Proof.Machine

/-- The gearbox takes a state; leaving a range sets the reference to 0 at once, and S_cmd is formed anew
(R106, R110). -/
def setGearbox (g : Gearbox) (s : State) : State :=
  formSpeed <|
    (if s.gear.gearbox.inRange && !g.inRange then zeroReference else id)
      { s with gear := { s.gear with gearbox := g } }

/-- The gearbox is held UNKNOWN (R125). -/
def holdGearbox (s : State) : State := setGearbox .unknown { s with gear := { s.gear with held := true } }

/-- The gearbox state is derived from the switches (R124). -/
def deriveState (s : State) : State := setGearbox (deriveGearbox s.gear.switches) s

/-! ## Range selection -/

/-- The ranges by number. -/
def rangesInOrder : List GearRange := [.i, .ii, .iii, .iv]

/-- The speed lies within a range's limits. -/
def RangeRow.contains (r : RangeRow) (speed : Nat) : Bool := decide (r.min ≤ speed) && decide (speed ≤ r.max)

/-- Distance of a speed from a range's nearer limit (R128). -/
def RangeRow.distance (r : RangeRow) (speed : Nat) : Nat := Nat.max (r.min - speed) (speed - r.max)

/-- The nearer of two ranges to a speed, the first on equal distances (R128). -/
def nearer (t : GearTable) (speed : Nat) (a b : GearRange) : GearRange :=
  if (t.row b).distance speed < (t.row a).distance speed then b else a

/-- The speed rule: the lowest-numbered range that contains the speed, else the nearest (R128). -/
def speedRule (t : GearTable) (speed : Nat) : GearRange :=
  match rangesInOrder.find? fun r => (t.row r).contains speed with
  | some r => r
  | none => nearer t speed (nearer t speed (nearer t speed .i .ii) .iii) .iv

/-- The range selected by a command with the current range `current`, none outside a range (R128). -/
def selectRange (s : State) (speed : Nat) (forced : Option GearRange) (current : Option GearRange) :
    Option GearRange :=
  match forced, s.gear.table with
  | some r, _ => some r
  | none, none => none
  | none, some t =>
    if speed == 0 then none
    else
      match current with
      | none => some (speedRule t speed)
      | some r => if (t.row r).contains speed || !s.gear.autoRange then none else some (speedRule t speed)

/-- The range of a gearbox state. -/
def Gearbox.range? : Gearbox → Option GearRange
  | .range r => some r
  | .neutral => none
  | .shifting => none
  | .unknown => none

/-- The range of a target. -/
def GearTarget.range? : GearTarget → Option GearRange
  | .range r => some r
  | .neutral => none

/-- A target as a gearbox state. -/
def GearTarget.state : GearTarget → Gearbox
  | .range r => .range r
  | .neutral => .neutral

/-! ## Planning -/

/-- Fork A's position in a target (table of Section 7). -/
def GearTarget.forkA : GearTarget → ForkAPos
  | .range .i => .low
  | .range .ii => .low
  | .range .iii => .high
  | .range .iv => .high
  | .neutral => .neutral

/-- Fork B's position in a range target; a NEUTRAL target has none (R132). -/
def GearTarget.forkB : GearTarget → Option ForkBPos
  | .range .i => some .one
  | .range .ii => some .two
  | .range .iii => some .one
  | .range .iv => some .two
  | .neutral => none

/-- The next stroke toward a target, none when both forks are at it (the table of R132). -/
def planStroke (w : ForkSwitches) (t : GearTarget) : Option ForkStroke :=
  match t.forkB with
  | none => if readForkA w == some t.forkA then none else some (.a t.forkA)
  | some bt =>
    if readForkA w == some t.forkA then (if readForkB w == some bt then none else some (.b bt))
    else if readForkB w == some bt then some (.a t.forkA)
    else if readForkA w == some .neutral then some (.b bt)
    else some (.a .neutral)

/-- A stroke engages (R133). -/
def strokeEngages (w : ForkSwitches) : ForkStroke → Bool
  | .a .low => true
  | .a .high => true
  | .a .neutral => false
  | .b _ => readForkA w != some .neutral

/-- The planned stroke is requested of the Valve Bank (R133). -/
def requestStroke (k : ForkStroke) (s : State) : State :=
  joinRequest (.fork k)
    { s with
      gear := { s.gear with step := .stroke, stroke := some k, engaging := strokeEngages s.gear.switches k } }

/-! ## The change -/

/-- The creep ends, if one runs (R133). -/
def endCreep (s : State) : State :=
  if s.gear.creep.isSome then creepEnd { s with gear := { s.gear with creep := none } } else s

/-- The head entry is a STARTING PER_REV MOVE with a moving axis (R136). -/
def perRevStarting (s : State) : Bool := headIsPerRev s && s.planner.head == some .starting && headMoves s

/-- The change settles (R136). -/
def settleChange (s : State) : State :=
  (fun t => if t.gear.gearbox == .neutral && perRevStarting t then raiseCause .gear t else t) <|
    coolantChangeEnds <|
      deriveState
        { s with
          gear :=
            { s.gear with step := .idle, target := none, owner := none, stroke := none, attempts := 0 } }

/-- The next stroke by the present target; without a target there is none. -/
def nextStroke (s : State) : Option ForkStroke :=
  match s.gear.target with
  | none => none
  | some t => planStroke s.gear.switches t

/-- Planning at the end of STOPPING and at a retarget in PAUSE (R132, R137). -/
def planFirst (s : State) : State :=
  match nextStroke s with
  | none => settleChange s
  | some k => requestStroke k s

/-- A change begins (R131). -/
def beginChange (t : GearTarget) (o : Owner) (s : State) : State :=
  (fun u => if u.spindle.stopped then planFirst u else u) <|
    coolantChangeBegins <|
      setGearbox .shifting
        { s with
          gear :=
            { s.gear with
              target := some t, owner := some o, attempts := 0, step := .stopping, stroke := none } }

/-- GEAR_FAULT (R135). -/
def gearFault (s : State) : State :=
  coolantChangeEnds <|
    raiseCause .gear <|
      gearStop <|
        (fun t =>
            holdGearbox
              { t with
                gear := { t.gear with step := .idle, target := none, owner := none, stroke := none } })
          (match s.gear.stroke with
           | some (.a _) => raiseFault .gearFault (.fork .a) s
           | some (.b _) => raiseFault .gearFault (.fork .b) s
           | none => s)

/-- A failed attempt: a timeout, or a stroke that must be repeated after its success (R135). -/
def failedAttempt (s : State) : State :=
  (fun t =>
      if t.gear.retryLimit == 0 || decide (t.gear.attempts < t.gear.retryLimit) then
        { t with gear := { t.gear with step := .pause, pauseTimer := some 500 } }
      else gearFault t) <|
    (fun t => { t with gear := { t.gear with attempts := min 255 (t.gear.attempts + 1) } }) (endCreep s)

/-- A stroke is requested with the attempt count set to 0 (R134, R135). -/
def requestFresh (k : ForkStroke) (s : State) : State :=
  requestStroke k { s with gear := { s.gear with attempts := 0 } }

/-- A stroke of the change succeeds (R134). -/
def strokeSucceeded (s : State) : State :=
  (fun t =>
      match nextStroke t with
      | none => settleChange t
      | some k => if t.gear.stroke == some k then failedAttempt t else requestFresh k t)
    (endCreep s)

/-- The retry pause expires (R135). -/
def pauseEnds (s : State) : State :=
  (fun t =>
      match nextStroke t with
      | none => settleChange t
      | some k => if t.gear.stroke == some k then requestStroke k t else requestFresh k t)
    { s with gear := { s.gear with pauseTimer := none } }

/-- The change is retargeted (R137). -/
def retarget (t : GearTarget) (o : Owner) (s : State) : State :=
  (fun u =>
      match u.gear.step with
      | .pause => planFirst { u with gear := { u.gear with pauseTimer := none } }
      | .stopping => u
      | .stroke => u
      | .idle => u
      | .ending => u)
    { s with gear := { s.gear with target := some t, owner := some o, attempts := 0 } }

/-- The preconditions of R129 that do not name the command's source. -/
def changeAllowed (s : State) : Bool :=
  s.gear.step == .idle && !s.gear.held && s.stop.estop == .armed && !headIsPerRev s

/-- The owner is a SPINDLE entry. -/
def Owner.isEntry : Owner → Bool
  | .order => false
  | .entry _ => true

/-- A spindle command with the step IDLE: the selection, and the change it may begin (R128, R129). -/
def commandAtIdle (o : Owner) (speed : Nat) (forced : Option GearRange) (s : State) : State :=
  match selectRange s speed forced s.gear.gearbox.range? with
  | none => s
  | some r =>
    if s.gear.gearbox == .range r then s
    else if changeAllowed s then beginChange (.range r) o s
    else if s.gear.held && o.isEntry && speed != 0 then raiseCause .gear s
    else s

/-- A spindle command in STOPPING, STROKE or PAUSE (R138, log 19). -/
def commandInChange (o : Owner) (speed : Nat) (forced : Option GearRange) (s : State) : State :=
  if speed == 0 then s
  else
    match selectRange s speed forced (s.gear.target.bind GearTarget.range?) with
    | none => { s with gear := { s.gear with owner := some o } }
    | some r =>
      if s.gear.target == some (.range r) then { s with gear := { s.gear with owner := some o } }
      else retarget (.range r) o s

/-- Step 3 of a spindle command: the Gear Sequencer takes the speed and the forced range (R107, R128, R138). -/
def gearCommand (o : Owner) (speed : Nat) (forced : Option GearRange) (s : State) : State :=
  match s.gear.step with
  | .idle => commandAtIdle o speed forced s
  | .ending => { s with gear := { s.gear with deferred := some ⟨o, speed, forced⟩ } }
  | .stopping => commandInChange o speed forced s
  | .stroke => commandInChange o speed forced s
  | .pause => commandInChange o speed forced s

/-- The deferred command is taken (R138, R139). -/
def takeDeferred (s : State) : State :=
  match s.gear.deferred with
  | none => s
  | some d => formSpeed (commandAtIdle d.owner d.speed d.forced { s with gear := { s.gear with deferred := none } })

/-- The end of an aborted change (R139). -/
def endAbortedChange (s : State) : State :=
  takeDeferred <|
    coolantChangeEnds <|
      deriveState
        { s with
          gear := { s.gear with step := .idle, target := none, owner := none, stroke := none, pauseTimer := none } }

/-- The planner's abort reaches the Gear Sequencer (R139). -/
def gearAbort (s : State) : State :=
  match s.gear.step with
  | .idle => s
  | _ =>
    (fun t =>
        match t.gear.step with
        | .stopping => endAbortedChange t
        | .pause => endAbortedChange t
        | .stroke => { t with gear := { t.gear with step := .ending } }
        | .ending => t
        | .idle => t) <|
      (fun t => { t with gear := { t.gear with owner := none, deferred := none } }) (gearStop (endCreep s))

/-- The E-stop trip reaches the Gear Sequencer; `wasActive` says whether a fork request was ACTIVE at the trip
(R140). -/
def gearTrip (wasActive : Bool) (s : State) : State :=
  match s.gear.step with
  | .idle => s
  | _ =>
    (fun t => coolantChangeEnds (if wasActive then holdGearbox t else deriveState t)) <|
      (fun t =>
          { t with
            gear :=
              { t.gear with
                step := .idle, target := none, owner := none, stroke := none, pauseTimer := none
                deferred := none } })
        (endCreep s)

/-- The Valve Bank tells of a fork stroke's end (R91, R134, R135, R139). -/
def forkOutcome (success : Bool) (s : State) : State :=
  match s.gear.step with
  | .ending => endAbortedChange s
  | .stroke => if success then strokeSucceeded s else failedAttempt s
  | .idle => s
  | .stopping => s
  | .pause => s

/-- A fork stroke is granted: an engaging stroke of a change that is not ending starts the creep (R133, R139). -/
def forkGranted (s : State) : State :=
  if s.gear.step == .stroke && s.gear.engaging then
    creepStart .cw { s with gear := { s.gear with creep := some ⟨.cw, 250⟩ } }
  else s

/-- The fork a switch belongs to. -/
def ForkSwitch.fork : ForkSwitch → Fork
  | .aLow => .a
  | .aNeu => .a
  | .aHigh => .a
  | .b1 => .b
  | .b2 => .b

/-- The level of a switch. -/
def ForkSwitches.level (w : ForkSwitches) : ForkSwitch → Bool
  | .aLow => w.aLow
  | .aNeu => w.aNeu
  | .aHigh => w.aHigh
  | .b1 => w.b1
  | .b2 => w.b2

/-- The switches with one level replaced. -/
def ForkSwitches.put (w : ForkSwitches) (k : ForkSwitch) (v : Bool) : ForkSwitches :=
  match k with
  | .aLow => { w with aLow := v }
  | .aNeu => { w with aNeu := v }
  | .aHigh => { w with aHigh := v }
  | .b1 => { w with b1 := v }
  | .b2 => { w with b2 := v }

/-- A slip (R127). -/
def gearSlip (f : Fork) (s : State) : State :=
  coolantRejudge <| raiseCause .gear <| gearStop <| holdGearbox <| raiseFault .gearSlip (.fork f) s

/-- The gearbox hold is released at a Clear Faults (R125). -/
def releaseGearbox (s : State) : State :=
  if s.gear.held && s.stop.estop == .armed && !hasCode s .gearFault && !hasCode s .gearSlip then
    coolantRejudge (deriveState { s with gear := { s.gear with held := false } })
  else s

end Sys2Proof.Machine
end

