-- ==== Sys2Proof/Machine/ValveOps.lean ====
section
/-! DEFINITION. The operations of the Valve Bank (Section 5): the clamp state machine, the grant walk, stroke
ends, and asking a clamp for release; and the spindle command, whose change may request a stroke. -/

namespace Sys2Proof.Machine

/-! ## Clamps -/

/-- A clamp takes a state. -/
def setClampState (a : Axis) (c : ClampState) (s : State) : State := s.setClamp a { s.clamp a with state := c }

/-- Release pending takes a value (R93). -/
def setReleasePending (a : Axis) (v : Bool) (s : State) : State :=
  s.setClamp a { s.clamp a with releasePending := v }

/-- The linger timer of an axis takes a value; none is stopped (R97). -/
def setLinger (a : Axis) (t : Option Nat) (s : State) : State := s.setClamp a { s.clamp a with linger := t }

/-- The linger timer of an axis expires: an ENGAGE request joins the list (R97). -/
def lingerExpires (a : Axis) (s : State) : State :=
  joinRequest (.engage a) (setClampState a .engageWait (setLinger a none s))

/-- The linger timer starts with clamp_linger, which expires at once when it is 0 (R97). -/
def startLinger (a : Axis) (s : State) : State :=
  match (s.axis a).params with
  | none => s
  | some p => if p.clampLinger == 0 then lingerExpires a s else setLinger a (some p.clampLinger) s

/-- A planner claim or local motion cancels the linger timer, except in LOOP (R97). -/
def cancelLinger (a : Axis) (s : State) : State := if (s.axis a).mode == .loop then s else setLinger a none s

/-- A jog or reference run that waits for the clamp goes on to MOVING (R14, R19). -/
def startMoving (a : Axis) (s : State) : State :=
  match (s.axis a).motion with
  | .jog .clampWait => s.setAxis a { s.axis a with motion := .jog .moving }
  | .reference .clampWait =>
    match (s.axis a).params with
    | none => s
    | some p =>
      s.setAxis a
        { s.axis a with
          motion := .reference .moving
          searchGoal := (s.axis a).commanded + signed p.refDirection p.refSearchDistance
          p := (s.axis a).commanded * 1000
          velocity := 0 }
  | _ => s

/-- Success of a RELEASE stroke (R96, log 28). -/
def releaseSucceeded (a : Axis) (s : State) : State :=
  (fun t => if (t.axis a).lingerIdle then startLinger a t else t) (startMoving a (setClampState a .released s))

/-- Success of an ENGAGE stroke (R98). -/
def engageSucceeded (a : Axis) (s : State) : State :=
  if (s.clamp a).releasePending then
    if (s.axis a).moving && (s.axis a).mode != .loop then
      joinRequest (.release a) (setClampState a .releaseWait (setReleasePending a false s))
    else setClampState a .engaged (setReleasePending a false s)
  else setClampState a .engaged s

/-- Timeout of a clamp stroke (R98). -/
def clampTimedOut (a : Axis) (s : State) : State :=
  endClampWait a <|
    raiseCause .clamp <|
      setLinger a none <| setReleasePending a false <| setClampState a .fault <| raiseFault .clampTimeout (.axis a) s

/-! ## Grant walk -/

/-- Status and bypass count of the first WAITING request decide the barrier of R89: something WAITING stands
ahead with its count at or above bypass_limit. -/
def barrier (limit : Nat) (ahead : List Request) : Bool :=
  match ahead.find? fun r => !r.isActive with
  | none => false
  | some r => decide (limit ≤ r.bypass)

/-- A grant past a WAITING request raises its bypass count (R89). -/
def Request.passed (r : Request) : Request := if r.isActive then r else { r with bypass := r.bypass + 1 }

/-- Time limit of a stroke (R85). -/
def strokeLimit (v : ValveBank) : Stroke → Nat
  | .release _ => v.clampLimit
  | .engage _ => v.clampLimit
  | .fork _ => v.forkLimit

/-- The walk through the requests still to come, with those already walked `ahead` and the free capacity; it
answers the new list and the strokes granted, in order (R89). -/
def walk (v : ValveBank) : List Request → Nat → List Request → List Stroke → List Request × List Stroke
  | ahead, _, [], granted => (ahead, granted)
  | ahead, free, r :: rest, granted =>
    if r.isActive then walk v (ahead ++ [r]) free rest granted
    else if barrier v.bypassLimit ahead then (ahead ++ r :: rest, granted)
    else if r.stroke.weight ≤ free then
      walk v (ahead.map Request.passed ++ [{ r with status := .active (strokeLimit v r.stroke) }])
        (free - r.stroke.weight) rest (granted ++ [r.stroke])
    else walk v (ahead ++ [r]) free rest granted

/-- What the grant of a stroke does beside energising its valve: the clamp strokes, or the creep starts (R96,
R98, R133). -/
def strokeGranted (k : Stroke) (s : State) : State :=
  match k with
  | .release a => setClampState a .releasing s
  | .engage a => setClampState a .engaging s
  | .fork _ => forkGranted s

/-- A grant walk; none while PRESSURE_OK is false or the E-stop state is not ARMED (R88, R89). -/
def grantWalk (s : State) : State :=
  if s.valve.pressureOk && s.stop.estop == .armed then
    (walk s.valve [] (Config.flowUnits - flowInUse s.valve.requests) s.valve.requests []).2.foldl
      (fun t k => strokeGranted k t)
      { s with
        valve :=
          { s.valve with
            requests :=
              (walk s.valve [] (Config.flowUnits - flowInUse s.valve.requests) s.valve.requests []).1 } }
  else s

/-- Steps 1 and 2 of a stroke's end: the request leaves and its owner hears the outcome (R90). -/
def strokeEnds (k : Stroke) (success : Bool) (s : State) : State :=
  match k with
  | .release a => if success then releaseSucceeded a (removeRequest (.clamp a) s) else clampTimedOut a (removeRequest (.clamp a) s)
  | .engage a => if success then engageSucceeded a (removeRequest (.clamp a) s) else clampTimedOut a (removeRequest (.clamp a) s)
  | .fork f => forkOutcome success (removeRequest (Stroke.fork f).function s)

/-- The first ACTIVE request whose confirm switch shows its target. Of two strokes confirmed at one walk the spec does
not say which ends first; the model ends them in list order, each with its own walk (DESIGN CHOICE, log 42). -/
def confirmedRequest (s : State) : Option Request := s.valve.requests.find? fun r => r.isActive && confirmed s r.stroke

/-- Strokes whose confirm switch shows the target end in success, each end followed by a walk, until none is
left; the bound is above the most that one event can end (R90, log 22). -/
def settleStrokes : Nat → State → State
  | 0, s => s
  | n + 1, s =>
    match confirmedRequest s with
    | none => s
    | some r => settleStrokes n (grantWalk (strokeEnds r.stroke true s))

/-- A grant opportunity: the walk, and the strokes that end at their grant (R88, R90). -/
def grantOpportunity (s : State) : State := settleStrokes 32 (grantWalk s)

/-- An operation with the grant opportunity it makes: one where a request joined the list or was withdrawn, and none
where the list stands as it did (R88). -/
def withOpportunity (f : State → State) (s : State) : State :=
  if (f s).valve.requests == s.valve.requests then f s else grantOpportunity (f s)

/-! ## Asking for release -/

/-- A release is asked of a clamp that motion needs, by the clamp state (the table of R95). -/
def askClamp (a : Axis) (s : State) : State :=
  match (s.clamp a).state with
  | .engaged => joinRequest (.release a) (setClampState a .releaseWait s)
  | .releaseWait => s
  | .releasing => s
  | .released => setLinger a none s
  | .engageWait =>
    if (s.clamp a).switchClosed && !(s.clamp a).releasePending then
      removeRequest (.clamp a) (setClampState a .released s)
    else setReleasePending a true s
  | .engaging => setReleasePending a true s
  | .settling => joinRequest (.engage a) (setReleasePending a true (setClampState a .engageWait s))
  | .fault => endClampWait a s

/-- A release is asked for an axis: nothing is asked where the clamp counts as RELEASED by R94; a grant walk
follows a request that joins or is withdrawn, and a jog or reference run goes on when the clamp counts as RELEASED (R88, R94, R95). -/
def askRelease (a : Axis) (s : State) : State :=
  (fun t => if clampReleased t a then startMoving a t else t) <|
    if clampNeeded s a then withOpportunity (askClamp a) s else s

/-! ## Spindle command -/

/-- Steps 3, 4 and 5 of a spindle command: the Gear Sequencer, then S_cmd and the direction (R107). -/
def handSpeed (o : Owner) (speed : Nat) (forced : Option GearRange) (s : State) : State :=
  formSpeed (gearCommand o speed forced s)

/-- A spindle command taken at its event; a fork stroke it requests is a grant opportunity (R107, R88). -/
def spindleCommand (o : Owner) (speed : Nat) (d : Rotation) (forced : Option GearRange) (s : State) : State :=
  if hasSpindleFault s && speed != 0 then raiseCause .spindle s
  else
    withOpportunity (handSpeed o speed forced)
      { s with spindle := { s.spindle with sProg := speed, commandedDir := d, stoppedByOperator := false } }

/-! ## Trip and release -/

/-- Clamp state after a trip (the table of R101). -/
def ClampState.afterTrip : ClampState → ClampState
  | .released => .settling
  | .releasing => .settling
  | .engaging => .settling
  | .engageWait => .settling
  | .releaseWait => .engaged
  | .engaged => .engaged
  | .settling => .settling
  | .fault => .fault

/-- A clamp after a trip; the state of one that takes no part is kept (R93, R101). -/
def Clamp.afterTrip (takesPart : Bool) (c : Clamp) : Clamp :=
  { c with
    state := if takesPart then c.state.afterTrip else c.state
    releasePending := false
    linger := none }

/-- What an E-stop trip does at the Valve Bank (R101). -/
def valveTrip (s : State) : State :=
  { s with
    valve := { s.valve with requests := [] }
    clamps := .of fun a => (s.clamp a).afterTrip (clampTakesPart s a) }

/-- The state a clamp is derived to from its switch (R93, R100). -/
def derivedClamp (closed : Bool) : ClampState := if closed then .settling else .engaged

/-- At a Clear Faults a clamp in FAULT with no CLAMP_TIMEOUT or CLAMP_SWITCH entry left is read again (R100). -/
def releaseClamp (a : Axis) (s : State) : State :=
  if (s.clamp a).state == .fault && !hasFault s .clampTimeout (.axis a) && !hasFault s .clampSwitch (.axis a) then
    setClampState a (derivedClamp (s.clamp a).switchClosed) s
  else s

end Sys2Proof.Machine
end

