-- ==== Sys2Proof/Machine/JogOps.lean ====
section
/-! DEFINITION. Jog demands as an Axis Unit takes them (R19) and the withdrawal of the control site (R168). -/

namespace Sys2Proof.Machine

/-- A jog demand reaches an Axis Unit: the first one asks for release, a later one replaces the goal, and one
the axis would not take is ignored (R19). -/
def giveDemand (a : Axis) (d : JogDemand) (s : State) : State :=
  if takesJog s a then
    match (s.axis a).motion with
    | .idle =>
      askRelease a <|
        cancelLinger a <|
          s.setAxis a
            { s.axis a with
              motion := .jog .clampWait, demand := d, p := (s.axis a).commanded * 1000, velocity := 0 }
    | .jog .clampWait => s.setAxis a { s.axis a with demand := d }
    | .jog .moving => s.setAxis a { s.axis a with demand := d }
    | .jog .stopping => s.setAxis a { s.axis a with demand := d, motion := .jog .moving }
    | .reference _ => s
  else s

/-- A stop or released-button demand: a running jog brakes; there is no effect on an axis with no jog (R19, R20). -/
def giveStop (a : Axis) (s : State) : State :=
  match (s.axis a).motion with
  | .idle => s
  | .jog .clampWait => s.setAxis a { s.axis a with demand := .stop }
  | .jog .moving => s.setAxis a { s.axis a with demand := .stop, motion := .jog .stopping }
  | .jog .stopping => s.setAxis a { s.axis a with demand := .stop }
  | .reference _ => s

/-- A stop demand to an axis jogged during this tenure (R168). -/
def stopIfJogged (a : Axis) (s : State) : State := if s.pendant.tenure.get a then giveStop a s else s

/-- The site is withdrawn from the pendant, and returns at this event when no axis jogged in this tenure still
moves; a withdrawal that runs is not taken again (R168, log 26). -/
def withdraw (s : State) : State :=
  if s.pendant.site == .pendant && !s.pendant.withdrawing then
    siteReturn <|
      (fun t =>
          { t with pendant := { t.pendant with withdrawing := true, goal := none, buttonJog := .idle } })
        (eachAxis stopIfJogged s)
  else s

end Sys2Proof.Machine
end

