-- ==== Sys2Proof/Machine/PathOps.lean ====
section
/-! DEFINITION. The path feed computation (Section 3): the move context, the target velocity, the velocity
step shared with jogs and reference runs (R22, R62), and the distribution. -/

namespace Sys2Proof.Machine

/-! ## Steps 1 and 2: the move context -/

/-- Signed displacement of a leg (R49). -/
def Leg.d (l : Leg) : Int := l.target - l.start

/-- Magnitude of the displacement of an axis, 0 where it does not move. -/
def legSize (legs : PerAxis (Option Leg)) (a : Axis) : Nat :=
  match legs.get a with
  | none => 0
  | some l => l.d.natAbs

/-- The leg of an axis named with a target: none when the target equals the commanded position (R31). -/
def legOf (commanded : Int) (target : Option Int) : Option Leg :=
  match target with
  | none => none
  | some t => if t == commanded then none else some ⟨commanded, t⟩

/-- The moving axes of a MOVE (R31). -/
def legsOf (s : State) (targets : PerAxis (Option Int)) : PerAxis (Option Leg) :=
  .of fun a => legOf (s.axis a).commanded (targets.get a)

/-- Q, the sum of squares of the linear displacements (R51). -/
def squareSum (legs : PerAxis (Option Leg)) : Nat :=
  legSize legs .x ^ 2 + legSize legs .y ^ 2 + legSize legs .z ^ 2 + legSize legs .w ^ 2

/-- √Q rounded to the nearest integer (R51). -/
def roundedRoot (q : Nat) : Nat := if isqrt q < q - isqrt q * isqrt q then isqrt q + 1 else isqrt q

/-- Path kind (R49). -/
def pathKind (legs : PerAxis (Option Leg)) : PathKind :=
  if legs.x.isSome || legs.y.isSome || legs.z.isSome || legs.w.isSome then .linear
  else if legs.b.isSome then .rotary
  else .null

/-- Path length L (R51, R52, R53). -/
def pathLength (legs : PerAxis (Option Leg)) : Nat :=
  match pathKind legs with
  | .linear => roundedRoot (squareSum legs)
  | .rotary => legSize legs .b
  | .null => 0

/-- Internal velocity limit of an axis, 0 without a parameter record. -/
def vmaxNOf (s : State) (a : Axis) : Nat :=
  match (s.axis a).params with
  | none => 0
  | some p => p.vmaxN

/-- Internal acceleration of an axis, 0 without a parameter record. -/
def accelNOf (s : State) (a : Axis) : Nat :=
  match (s.axis a).params with
  | none => 0
  | some p => p.accelN

/-- allowed_i, saturated (R54). -/
def allowedSpeed (s : State) (legs : PerAxis (Option Leg)) (a : Axis) : Nat :=
  min (vmaxNOf s a * pathLength legs / legSize legs a) Config.maxVelocity

/-- The term of an axis in the path acceleration (R55). -/
def accelTerm (s : State) (legs : PerAxis (Option Leg)) (a : Axis) : Nat :=
  accelNOf s a * pathLength legs / legSize legs a

/-- The moving axes in the manual's order. -/
def movingAxes (legs : PerAxis (Option Leg)) : List Axis := axesInOrder.filter fun a => (legs.get a).isSome

/-- The first of the axes at which `f` is least (R54). -/
def leastAxis (f : Axis → Nat) : List Axis → Option Axis
  | [] => none
  | a :: rest =>
    match leastAxis f rest with
    | none => some a
    | some best => if f best < f a then some best else some a

/-- The least value over the axes, raised to 1 (R54, R55); 1 where no axis moves. -/
def leastOf (f : Axis → Nat) (l : List Axis) : Nat :=
  match leastAxis f l with
  | none => 1
  | some a => max 1 (f a)

/-- The move context of a MOVE that becomes STARTING (R31, R49). -/
def newContext (s : State) (targets : PerAxis (Option Int)) : MoveContext where
  kind := pathKind (legsOf s targets)
  legs := legsOf s targets
  length := pathLength (legsOf s targets)
  lengthN := pathLength (legsOf s targets) * 1000
  vLim := leastOf (allowedSpeed s (legsOf s targets)) (movingAxes (legsOf s targets))
  limiting := leastAxis (allowedSpeed s (legsOf s targets)) (movingAxes (legsOf s targets))
  accel := leastOf (accelTerm s (legsOf s targets)) (movingAxes (legsOf s targets))
  travelled := 0
  v := 0
  limiter := .feed

/-! ## Step 3: target velocity -/

/-- The uncapped target (R57, R58, R59). -/
def uncappedVelocity (mode : FeedMode) (feed ovr sMeas : Nat) : Nat :=
  match mode with
  | .perMinute => roundUp (feed * ovr) 3
  | .perRev => roundUp (feed * sMeas * ovr) 3000
  | .rapid => Config.maxVelocity

/-- The target velocity while RUNNING (R59, R60). -/
def runningTarget (mode : FeedMode) (feed ovr sMeas vLim : Nat) : Nat :=
  match mode with
  | .perMinute => min (min (uncappedVelocity mode feed ovr sMeas) Config.maxVelocity) vLim
  | .perRev => min (min (uncappedVelocity mode feed ovr sMeas) Config.maxVelocity) vLim
  | .rapid => vLim * min ovr 100 / 100

/-- The limiter for an uncapped target (R61). -/
def limiterFor (c : MoveContext) (uncapped : Nat) : Limiter :=
  if c.vLim < uncapped then
    match c.limiting with
    | none => .feed
    | some a => .axis a
  else .feed

/-! ## Step 4: velocity -/

/-- The candidate of R62: the target within one period's acceleration, not below 0. -/
def candidate (v target a : Nat) : Nat := max (min target (v + a)) (v - a)

/-- The new velocity of R62 before the completion test, with `rem` the distance left. -/
def velocityStep (v target a rem : Nat) : Nat := min (candidate v target a) (isqrt (2 * a * rem))

/-! ## Steps 4 and 5 on a context -/

/-- A context after one step toward a target velocity; `limiter` is that of step 3 (R62, R63, R64). -/
def stepContext (c : MoveContext) (target : Nat) (limiter : Limiter) : MoveContext :=
  { c with
    v := min (velocityStep c.v target c.accel (c.lengthN - c.travelled)) (c.lengthN - c.travelled)
    travelled :=
      c.travelled + min (velocityStep c.v target c.accel (c.lengthN - c.travelled)) (c.lengthN - c.travelled)
    limiter := limiter }

/-- The commanded position of a leg at a travelled path (R64). -/
def legPosition (l : Leg) (travelled lengthN : Nat) : Int :=
  l.start + roundAway (l.d * travelled) lengthN

/-- The commanded position of an axis in a context, `else` the one it holds (R64, R56). -/
def distributed (c : MoveContext) (a : Axis) (held : Int) : Int :=
  match c.legs.get a with
  | none => held
  | some l => legPosition l c.travelled c.lengthN

/-- Every moving axis takes its commanded position from the context (R64). -/
def distribute (c : MoveContext) (s : State) : State :=
  { s with
    axes := .of fun a => { s.axis a with commanded := distributed c a (s.axis a).commanded }
    planner := { s.planner with context := some c } }

/-- The period work of an ACTIVE MOVE with a path: steps 3, 4 and 5 (R56 to R64). -/
def pathStep (mode : FeedMode) (feed : Nat) (c : MoveContext) (s : State) : State :=
  match s.planner.state with
  | .running =>
    distribute
      (stepContext c (runningTarget mode feed s.pendant.feedOverride s.spindle.sMeas c.vLim)
        (limiterFor c (uncappedVelocity mode feed s.pendant.feedOverride s.spindle.sMeas)))
      s
  | _ => distribute (stepContext c 0 .feed) s

end Sys2Proof.Machine
end

