-- ==== Sys2Proof/Machine/PlannerOps.lean ====
section
/-! DEFINITION. The Motion Planner (Section 2): completing and aborting entries, the immediate stop and the
trip, start actions and conditions, the period work of the head, Start and Abort. -/

namespace Sys2Proof.Machine

/-! ## Entries leave the queue -/

/-- Every planner claim is set to no (R37, R46); only the head entry has claims. -/
def releaseClaims (s : State) : State := { s with axes := s.axes.map fun u => { u with claim := false } }

/-- Sub-state of the head of a queue with nothing in progress (R23). -/
def idleHead (queue : List Entry) : Option HeadState := if queue.isEmpty then none else some .queued

/-- The head entry leaves the queue with its ENTRY_DONE report; its claims are set to no, its move context and
dwell remaining are discarded (R37, R46, R49). -/
def headLeaves (o : EntryOutcome) (s : State) : State :=
  match s.planner.queue with
  | [] => s
  | e :: rest =>
    placeEvent (.entryDone e.tag e.body.kind o) <|
      releaseClaims
        { s with
          planner :=
            { s.planner with
              queue := rest, head := idleHead rest, speedWait := false, retake := false, dwellLeft := none
              context := none } }

/-- The planner enters IDLE (R36, R46). -/
def enterIdle (s : State) : State :=
  { s with
    planner :=
      { s.planner with
        state := .idle, causes := .empty, startTime := .empty, displaced := false, coolantWait := false } }

/-- The ACTIVE entry completes; an END puts the planner in IDLE (R36, R37). -/
def completeEntry (s : State) : State :=
  if headBody s == some .endProgram then enterIdle (headLeaves .completed s) else headLeaves .completed s

/-- Every remaining entry leaves the queue, with one FLUSHED report (R46). -/
def flushQueue (s : State) : State :=
  placeEvent (.flushed (s.planner.queue.map Entry.tag))
    { s with
      planner :=
        { s.planner with
          queue := [], head := none, speedWait := false, retake := false, dwellLeft := none, context := none } }

/-- An abort completes; `headLeft` when it ends by the completion of its MOVE (R46). -/
def completeAbort (headLeft : Bool) (s : State) : State :=
  enterIdle (flushQueue (if headLeft then s else headLeaves .aborted s))

/-! ## Immediate stop and trip -/

/-- An immediate stop: every Axis Unit stops, the Gear Sequencer hears of the abort, and the abort completes
(R10, R47, log 40). -/
def immediateStop (s : State) : State := completeAbort false (gearAbort (eachAxis axisStop s))

/-- Every block takes the trip, the E-stop state being TRIPPED and its fault raised (R183, log 20). -/
def takeTrip (s : State) : State :=
  withdraw <|
    gearTrip (forkActive s) <|
      coolantTrip <| spindleTrip <| valveTrip <| completeAbort false <| eachAxis axisStop s

/-- A trip with its fault (R180, R181). -/
def trip (c : FaultCode) (s : State) : State :=
  takeTrip (raiseFault c .absent { s with stop := { s.stop with estop := .tripped } })

/-! ## Start actions and start checks -/

/-- A moving axis is claimed, its linger timer cancelled and its release asked (R31, R97). -/
def claimAxis (legs : PerAxis (Option Leg)) (a : Axis) (s : State) : State :=
  if (legs.get a).isSome then askRelease a (cancelLinger a (s.setAxis a { s.axis a with claim := true })) else s

/-- The coolant wait is armed where the flag takes effect (R34). -/
def armWait (m : CoolantMode) (wait : Bool) (s : State) : State :=
  if wait && m.asksTsc && s.coolant.tsc != .ready then
    { s with planner := { s.planner with coolantWait := true } }
  else s

/-- The move context is fixed unless the entry has one already (R31, R30, log 15). -/
def fixContext (targets : PerAxis (Option Int)) (s : State) : State :=
  match s.planner.context with
  | some _ => s
  | none => { s with planner := { s.planner with context := some (newContext s targets) } }

/-- The moving axes are claimed in axis order (R31). -/
def claimAxes (s : State) : State :=
  match s.planner.context with
  | none => s
  | some c => eachAxis (claimAxis c.legs) s

/-- The start actions of the head entry (2.5, R31, R33, R34, R35). -/
def startActions (s : State) : State :=
  match s.planner.queue with
  | [] => s
  | e :: _ =>
    match e.body with
    | .move targets _ _ => claimAxes (fixContext targets s)
    | .dwell _ => s
    | .spindle speed d forced _ => spindleCommand (.entry e.tag) speed d forced s
    | .coolant m wait => armWait m wait (coolantRequest m s)
    | .mark => s
    | .endProgram => s

/-- A cause raised where a condition holds. -/
def raiseIf (b : Bool) (c : HoldCause) (s : State) : State := if b then raiseCause c s else s

/-- The head is a MOVE, and the clamp of a moving axis is in FAULT (R40). -/
def clampFaulted (s : State) : Bool :=
  match s.planner.context with
  | none => false
  | some c =>
    (headBody s).any EntryBody.isMove
      && axesInOrder.any fun a => (c.legs.get a).isSome && clampNeeded s a && (s.clamp a).state == .fault

/-- The head is a PER_REV MOVE with a moving axis (R40). -/
def perRevMoves (s : State) : Bool := headIsPerRev s && headMoves s

/-- The conditions of R40, each adding its cause. -/
def startChecks (s : State) : State :=
  raiseIf (s.planner.coolantWait && (s.coolant.tsc == .faulted || s.coolant.tsc == .blocked)) .coolant <|
    raiseIf (perRevMoves s && (s.gear.gearbox == .neutral || s.gear.gearbox == .unknown)) .gear <|
      raiseIf (perRevMoves s && (s.spindle.sProg == 0 || hasSpindleFault s)) .spindle <|
        raiseIf (clampFaulted s) .clamp s

/-- The head entry becomes STARTING: its start actions and the checks of R40 (R27, R30). -/
def beginHead (s : State) : State :=
  startChecks (startActions { s with planner := { s.planner with head := some .starting } })

/-! ## Start conditions -/

/-- A range change begun for the entry is still in progress (R33, R130). -/
def changeFor (s : State) (tag : Tag) : Bool :=
  (s.gear.step != .idle && s.gear.owner == some (.entry tag))
    || s.gear.deferred.any fun d => d.owner == .entry tag

/-- Every moving axis's clamp counts as RELEASED (R31). -/
def clampsReady (s : State) (c : MoveContext) : Bool :=
  axesInOrder.all fun a => !(c.legs.get a).isSome || clampReleased s a

/-- The spindle runs in a range at AT_SPEED (R32). -/
def spindleReady (s : State) : Bool := s.gear.gearbox.inRange && s.spindle.sCmd != 0 && s.spindle.atSpeed

/-- The start conditions of an entry by its kind (2.5, R31 to R35). -/
def entryReady (s : State) (e : Entry) : Bool :=
  match e.body with
  | .move _ m _ =>
    match s.planner.context with
    | none => true
    | some c => clampsReady s c && (m != .perRev || !c.moves || spindleReady s)
  | .dwell _ => true
  | .spindle speed _ _ wait =>
    !changeFor s e.tag && (speed == 0 || s.gear.gearbox.inRange)
      && (!wait || (if speed == 0 then s.spindle.stopped else s.spindle.atSpeed))
  | .coolant _ _ => true
  | .mark => true
  | .endProgram => true

/-- Every start condition of the head holds: with the coolant wait, and AT_SPEED where a Start added it
(R27, R30, R34, log 34). -/
def startConditions (s : State) : Bool :=
  match s.planner.queue with
  | [] => false
  | e :: _ =>
    (!s.planner.coolantWait || s.coolant.tsc == .ready) && (!s.planner.speedWait || s.spindle.atSpeed)
      && entryReady s e

/-! ## The period event -/

/-- Step 1 of R27: a head that is not in progress becomes STARTING. -/
def startHead (s : State) : State :=
  if !headInProgress s && !s.planner.queue.isEmpty then beginHead s else s

/-- Step 2 of R27: a STARTING head whose conditions hold becomes ACTIVE. -/
def promoteHead (s : State) : State :=
  if s.planner.state == .running && s.planner.head == some .starting && startConditions s then
    { s with planner := { s.planner with head := some .active, speedWait := false } }
  else s

/-- The period work of an ACTIVE MOVE, and whether it completes; a NULL move completes with nothing taken
(R53, R63). -/
def moveWork (mode : FeedMode) (feed : Nat) (s : State) : State × Bool :=
  match s.planner.context with
  | none => (s, false)
  | some c =>
    match c.kind with
    | .null => (s, true)
    | _ =>
      (pathStep mode feed c s,
        (pathStep mode feed c s).planner.context.any fun d => decide (d.lengthN ≤ d.travelled))

/-- The period work of an ACTIVE DWELL: 2 ms off what remains (R36). -/
def dwellWork (time : Nat) (s : State) : State × Bool :=
  ({ s with planner := { s.planner with dwellLeft := some (s.planner.dwellLeft.getD time - 2) } },
    decide (s.planner.dwellLeft.getD time - 2 ≤ 0))

/-- Step 3 of R27 for an ACTIVE head, and whether it completes at this period. -/
def activeWork (s : State) : State × Bool :=
  match headBody s with
  | none => (s, false)
  | some (.move _ m f) => moveWork m f s
  | some (.dwell t) => dwellWork t s
  | some (.spindle _ _ _ _) => (s, true)
  | some (.coolant _ _) => (s, true)
  | some .mark => (s, true)
  | some .endProgram => (s, true)

/-- The planner's period event up to the commanded positions, and whether the ACTIVE entry completes (R27). -/
def plannerWork (s : State) : State × Bool :=
  match s.planner.state with
  | .running =>
    (fun t => if t.planner.state == .running && t.planner.head == some .active then activeWork t else (t, false))
      (promoteHead (startHead s))
  | .holding => if activeMove s then activeWork s else (s, false)
  | .aborting => if activeMove s then activeWork s else (s, false)
  | .idle => (s, false)
  | .held => (s, false)

/-- The planner becomes HELD (R42). -/
def becomeHeld (s : State) : State := { s with planner := { s.planner with state := .held } }

/-- The end of the period event: the completed entry leaves, HOLDING becomes HELD, an abort completes
(R27, R42, R45, R63). -/
def plannerFinish (completes : Bool) (s : State) : State :=
  match s.planner.state with
  | .idle => s
  | .running => if completes then completeEntry s else s
  | .holding =>
    if completes then becomeHeld (completeEntry s)
    else if !activeMove s || pathVelocity s == 0 then becomeHeld s
    else s
  | .held => s
  | .aborting =>
    if completes then completeAbort true (completeEntry s)
    else if pathVelocity s == 0 then completeAbort false s
    else s

/-! ## Start -/

/-- The checks of Start (R28). -/
def startRefusals (s : State) : List (Bool × RefuseCode) :=
  [(s.stop.estop != .armed, .estopActive),
    (s.pendant.site == .pendant, .sitePendant),
    (s.planner.state == .holding || s.planner.state == .aborting
        || (s.planner.state == .held && s.planner.causes.hasCondition)
        || (s.planner.state == .idle && anyReference s),
      .busy),
    (s.planner.state == .held && s.planner.displaced, .displaced)]

/-- Steps 1 and 2 of Start in HELD (R30). -/
def dropOperatorCauses (s : State) : State :=
  { s with
    planner :=
      { s.planner with
        state := .running
        causes := (s.planner.causes.put .operator false).put .host false
        speedWait := false
        retake := false } }

/-- AT_SPEED becomes a start condition of a head in progress, set back to STARTING where it was ACTIVE
(R30, log 14). -/
def awaitSpeed (s : State) : State :=
  if headInProgress s then
    (fun t => { t with planner := { t.planner with speedWait := true } })
      (if s.planner.head == some .active then beginHead s else s)
  else s

/-- The Start takes the head's start actions again: of a STARTING entry (R30), and of a PER_REV MOVE that a spindle
fault holds ACTIVE. DEDUCED, log 41: R30 alone leaves every ACTIVE entry ACTIVE, R67 takes the start conditions of
that move again, and R117 ends it by R40; the model follows R67 for that move and R30 for every other entry. -/
def takesStartAgain (s : State) : Bool :=
  s.planner.head == some .starting || (s.planner.head == some .active && s.planner.retake)

/-- Start in HELD: stopped-by-operator is cleared first. The S_prog that adds AT_SPEED is the kept one, as it stands
before a SPINDLE entry passes its command again (R30, R67, R118, log 14, log 41). -/
def resumeProgram (s : State) : State :=
  (if s.spindle.stoppedByOperator && s.spindle.sProg != 0 then awaitSpeed else id)
    ((if takesStartAgain s then beginHead else id) (clearOperatorStop (dropOperatorCauses s)))

/-- A Start that passed its checks (R28, R29, R30). -/
def startProgram (s : State) : State :=
  match s.planner.state with
  | .idle => clearOperatorStop { s with planner := { s.planner with state := .running } }
  | .held => resumeProgram s
  | .running => s
  | .holding => s
  | .aborting => s

/-! ## Abort -/

/-- A reference run hears of an Abort taken in IDLE (R15). -/
def abortReference (a : Axis) (s : State) : State :=
  match (s.axis a).motion with
  | .reference .clampWait => endMotion a s
  | .reference .moving => s.setAxis a { s.axis a with motion := .reference .stopping }
  | .reference .stopping => s
  | .idle => s
  | .jog _ => s

/-- An ACTIVE MOVE under way brakes first; otherwise the abort completes at once (R45). -/
def brakeOrAbort (s : State) : State :=
  if activeMove s && pathVelocity s != 0 then { s with planner := { s.planner with state := .aborting } }
  else completeAbort false s

/-- The planner's part of an Abort, by its state (R45). -/
def plannerAbort (s : State) : State :=
  match s.planner.state with
  | .aborting => s
  | .idle => completeAbort false s
  | .running => brakeOrAbort s
  | .holding => brakeOrAbort s
  | .held => brakeOrAbort s

/-- The Abort order (R45). -/
def abortProgram (s : State) : State :=
  plannerAbort (if s.planner.state == .idle then eachAxis abortReference (gearAbort s) else gearAbort s)

end Sys2Proof.Machine
end

