-- ==== Sys2Proof/Machine/AxisOps.lean ====
section
/-! DEFINITION. The Axis Units and the Compensation Unit (Sections 1 and 4): faults of an axis, the mode
changes and seats, the motion of one axis alone, the output position, and what one axis does in an
interpolation period. -/

namespace Sys2Proof.Machine

/-! ## Faults of an axis -/

/-- Raise of a fault with the immediate stop and the loss of the axis's reference (R9). The pulses formed at the last
period stand until the next one, though the drive is off from here on (DESIGN CHOICE, log 50). -/
def axisFault (c : FaultCode) (a : Axis) (s : State) : State :=
  loseReference a (immediateStop (raiseFault c (.axis a) s))

/-- The drive-fault input is taken as becoming active where it is active (R2, R9). -/
def driveFaultIfActive (a : Axis) (s : State) : State :=
  if (s.axis a).driveFault then axisFault .driveFault a s else s

/-- The overtravel switch of an end (R11). -/
def AxisUnit.switchOpen (u : AxisUnit) : Sign → Bool
  | .plus => u.plusOpen
  | .minus => u.minusOpen

/-- The switch level of an end takes a value. -/
def AxisUnit.putSwitch (u : AxisUnit) (d : Sign) (v : Bool) : AxisUnit :=
  match d with
  | .plus => { u with plusOpen := v }
  | .minus => { u with minusOpen := v }

/-- The latch of an end takes a value (R11, R12). -/
def AxisUnit.putLatch (u : AxisUnit) (d : Sign) (v : Bool) : AxisUnit :=
  match d with
  | .plus => { u with latchPlus := v }
  | .minus => { u with latchMinus := v }

/-- An overtravel switch opens (R11). -/
def overtravelOpens (a : Axis) (d : Sign) (s : State) : State :=
  immediateStop <|
    (fun t => t.setAxis a ((t.axis a).putLatch d true)) (raiseFault .overtravel (.axisEnd a d) s)

/-- A switch that is open when the axis first becomes configured is taken as opening (R2). -/
def overtravelIfOpen (a : Axis) (d : Sign) (s : State) : State :=
  if (s.axis a).switchOpen d then overtravelOpens a d s else s

/-! ## Set Axis -/

/-- Field checks of a record: the ranges of the table in 1.1 and the stopping allowance (R1). -/
def AxisParams.inRange (a : Axis) (p : AxisParams) : Bool :=
  decide (0 ≤ p.softMin ∧ p.softMin < p.softMax ∧ p.softMax ≤ travelTop a)
    && decide (1 ≤ p.vmax ∧ p.vmax ≤ 20000) && decide (1 ≤ p.accel ∧ p.accel ≤ 2000)
    && decide (1 ≤ p.jogFeed ∧ p.jogFeed ≤ p.vmax) && decide (1 ≤ p.refSearchFeed ∧ p.refSearchFeed ≤ p.vmax)
    && decide (p.softMin ≤ p.refValue ∧ p.refValue ≤ p.softMax)
    && decide (1 ≤ p.refSearchDistance ∧ p.refSearchDistance ≤ travelTop a)
    && decide (10 ≤ p.feLimit ∧ p.feLimit ≤ 10000) && decide (p.backlash ≤ 200)
    && decide (1 ≤ p.backlashRate ∧ p.backlashRate ≤ 20) && decide (p.clampLinger ≤ 10000)

/-- D_ref in µm, rounded up (R1). -/
def AxisParams.allowance (p : AxisParams) : Nat :=
  ceilDiv (p.refN * (p.refN + p.accelN)) (2 * p.accelN * 1000)

/-- ref_value keeps its stopping allowance inside the soft limits (R1). -/
def AxisParams.allowanceFits (p : AxisParams) : Bool :=
  match p.refDirection with
  | .plus => decide (p.refValue + p.allowance ≤ p.softMax)
  | .minus => decide (p.softMin ≤ p.refValue - p.allowance)

/-- The conditions of R1, a failing one being BUSY. -/
def setAxisBusy (a : Axis) (p : AxisParams) (s : State) : Bool :=
  s.planner.state != .idle || !s.planner.queue.isEmpty || !(s.axis a).atRest || (s.axis a).motion != .idle
    || (match (s.axis a).params with
        | none => false
        | some old =>
          ((s.axis a).referenced
              && (p.backlash != old.backlash
                  || !decide (p.softMin ≤ (s.axis a).commanded ∧ (s.axis a).commanded ≤ p.softMax)))
            || (old.clampFitted && !p.clampFitted && (s.clamp a).state != .engaged))

/-- A clamp that becomes fitted is derived from its switch (R93). -/
def fitClamp (a : Axis) (s : State) : State :=
  s.setClamp a
    { s.clamp a with state := derivedClamp (s.clamp a).switchClosed, releasePending := false, linger := none }

/-- An accepted record is put in force, and its clamp fitted where it becomes so (R2, R93). -/
def placeRecord (a : Axis) (p : AxisParams) (s : State) : State :=
  if p.clampFitted && !clampTakesPart s a then fitClamp a (s.setAxis a { s.axis a with params := some p })
  else s.setAxis a { s.axis a with params := some p }

/-- An accepted Set Axis; inputs already open or active at the first one act (R2, log 33). -/
def acceptAxis (a : Axis) (p : AxisParams) (s : State) : State :=
  if (s.axis a).configured then placeRecord a p s
  else driveFaultIfActive a (overtravelIfOpen a .minus (overtravelIfOpen a .plus (placeRecord a p s)))

/-! ## PARK and LOOP -/

/-- Commanded and output positions are set to the measured position (R8, R17). -/
def followMeasured (a : Axis) (s : State) : State :=
  s.setAxis a { s.axis a with commanded := (s.axis a).measured, output := (s.axis a).measured }

/-- A commanded position lies within the soft limits of the axis's record. -/
def withinSoft (u : AxisUnit) (x : Int) : Bool :=
  match u.params with
  | none => true
  | some p => decide (p.softMin ≤ x ∧ x ≤ p.softMax)

/-- The commanded position a re-seat gives (R17). -/
def seatPosition (s : State) (a : Axis) : Int := (s.axis a).measured - pitchAt (s.compOf a) (s.axis a).measured

/-- Re-seating an axis that leaves PARKED or LOOP (R17). -/
def reseat (a : Axis) (s : State) : State :=
  if (s.axis a).referenced then
    if withinSoft (s.axis a) (seatPosition s a) then
      seatComp a
        (s.setAxis a
          { s.axis a with
            commanded := seatPosition s a
            output := seatPosition s a + pitchAt (s.compOf a) (seatPosition s a) })
    else seatComp a (followMeasured a (s.setAxis a { s.axis a with referenced := false }))
  else s

/-- A RELEASED clamp is engaged at once when its axis is parked (R17, R97). -/
def parkClamp (a : Axis) (s : State) : State :=
  if clampTakesPart s a && (s.clamp a).state == .released then grantOpportunity (lingerExpires a s) else s

/-- Entering PARKED (R17). -/
def enterParked (a : Axis) (s : State) : State :=
  parkClamp a (seatComp a (followMeasured a (s.setAxis a { s.axis a with mode := .parked })))

/-- Leaving PARKED (R17, R9). -/
def leaveParked (a : Axis) (s : State) : State :=
  driveFaultIfActive a (reseat a (s.setAxis a { s.axis a with mode := .normal }))

/-- Entering LOOP (R18). -/
def enterLoop (a : Axis) (s : State) : State :=
  seatComp a
    (s.setAxis a
      { s.axis a with
        mode := .loop
        loopHeld := some (s.axis a).referenced
        output := (s.axis a).commanded
        measured := (s.axis a).commanded })

/-- Leaving LOOP (R18, R9); an axis that comes out unreferenced takes its measured position (log 13). -/
def leaveLoop (a : Axis) (s : State) : State :=
  driveFaultIfActive a <|
    (fun t => if (t.axis a).referenced then reseat a t else seatComp a (followMeasured a t))
      (s.setAxis a
        { s.axis a with
          mode := .normal
          measured := (s.axis a).encoder
          referenced := (s.axis a).loopHeld.getD false
          loopHeld := none })

/-! ## Reference runs -/

/-- A Reference order in NORMAL (R13). -/
def referenceNormal (a : Axis) (s : State) : State :=
  askRelease a <|
    cancelLinger a <|
      (fun t => t.setAxis a { t.axis a with motion := .reference .clampWait, velocity := 0 }) (loseReference a s)

/-- A Reference order in LOOP completes at once (R18). -/
def referenceLoop (a : Axis) (p : AxisParams) (s : State) : State :=
  seatComp a
    (s.setAxis a
      { s.axis a with
        commanded := p.refValue
        output := p.refValue
        measured := p.refValue
        referenced := true
        loopHeld := some false })

/-- The mark ends the search (R14). -/
def markSeen (a : Axis) (p : AxisParams) (s : State) : State :=
  seatComp a
    (s.setAxis a
      { s.axis a with
        commanded := p.refValue
        p := p.refValue * 1000
        output := p.refValue + pitchAt (s.compOf a) p.refValue
        measured := p.refValue + pitchAt (s.compOf a) p.refValue
        referenced := true
        motion := .reference .stopping })

/-! ## Motion of one axis alone -/

/-- The jog target velocity (R20). -/
def jogTarget (p : AxisParams) (ovr : Nat) : Nat := min (roundUp (p.jogFeed * ovr) 3) p.vmaxN

/-- A goal of a referenced axis is clamped into its soft limits (R20). -/
def softGoal (u : AxisUnit) (p : AxisParams) (g : Int) : Int :=
  if u.referenced then max p.softMin (min g p.softMax) else g

/-- A goal beyond the commanded position toward a latched end is replaced by the commanded position (R12, R20). -/
def latchGoal (u : AxisUnit) (g : Int) : Int :=
  if (u.latchPlus && decide (u.commanded < g)) || (u.latchMinus && decide (g < u.commanded)) then u.commanded
  else g

/-- Goal of a held button: the soft limit, or one travel span away (R20). -/
def buttonGoal (a : Axis) (u : AxisUnit) (p : AxisParams) : Sign → Int
  | .plus => if u.referenced then p.softMax else u.commanded + travelTop a
  | .minus => if u.referenced then p.softMin else u.commanded - travelTop a

/-- The goal formed from the latest demand (R20). -/
def jogGoal (a : Axis) (u : AxisUnit) (p : AxisParams) : Option Int :=
  match u.demand with
  | .handwheel g => some (latchGoal u (softGoal u p g))
  | .button d => some (latchGoal u (buttonGoal a u p d))
  | .stop => none

/-- The sign of a distance, the present direction at 0. -/
def headingTo (present : Sign) (distance : Int) : Sign :=
  if 0 < distance then .plus else if distance < 0 then .minus else present

/-- The direction of motion for this step: fixed while the velocity is above 0 (R22). -/
def stepHeading (u : AxisUnit) (goal : Option Int) : Sign :=
  match goal with
  | none => u.heading
  | some g => if u.velocity == 0 then headingTo u.heading (g * 1000 - u.p) else u.heading

/-- The new velocity of one step (R22, log 24). -/
def stepVelocity (u : AxisUnit) (accelN : Nat) (goal : Option Int) (target : Nat) : Nat :=
  match goal with
  | none => u.velocity - accelN
  | some g =>
    if 0 ≤ signed (stepHeading u goal) (g * 1000 - u.p) then
      min (velocityStep u.velocity target accelN (g * 1000 - u.p).natAbs) (g * 1000 - u.p).natAbs
    else u.velocity - accelN

/-- The unit after p has moved to `q` with velocity `v`, before the guard (R22). -/
def AxisUnit.movedTo (u : AxisUnit) (q : Int) (v : Nat) (h : Sign) : AxisUnit :=
  { u with p := q, commanded := roundAway q 1000, velocity := v, heading := h }

/-- The unit set to a soft limit by the guard (R22). -/
def AxisUnit.stoppedAt (u : AxisUnit) (limit : Int) : AxisUnit :=
  { u with p := limit * 1000, commanded := limit, velocity := 0 }

/-- The soft-limit guard of R22. -/
def softGuard (p : AxisParams) (u : AxisUnit) : AxisUnit :=
  if u.referenced then
    if u.commanded < p.softMin then u.stoppedAt p.softMin
    else if p.softMax < u.commanded then u.stoppedAt p.softMax
    else u
  else u

/-- One step of motion toward a goal (R22). -/
def motionStep (p : AxisParams) (goal : Option Int) (target : Nat) (u : AxisUnit) : AxisUnit :=
  softGuard p
    (u.movedTo
      (u.p + signed (stepHeading u goal) (stepVelocity u p.accelN goal target))
      (stepVelocity u p.accelN goal target) (stepHeading u goal))

/-- The step an Axis Unit takes by its phase (R14, R20, R22). -/
def localStep (a : Axis) (ovr : Nat) (p : AxisParams) (u : AxisUnit) : AxisUnit :=
  match u.motion with
  | .jog .moving => motionStep p (jogGoal a u p) (jogTarget p ovr) u
  | .jog .stopping => motionStep p none 0 u
  | .reference .moving => motionStep p (some u.searchGoal) p.refN u
  | .reference .stopping => motionStep p none 0 u
  | .jog .clampWait => u
  | .reference .clampWait => u
  | .idle => u

/-- The planner marks itself displaced when a jog has changed a commanded position (R21, R44). -/
def noteJog (a : Axis) (before : Int) (s : State) : State :=
  if (s.axis a).motion.isJog && (s.axis a).commanded != before && s.planner.state == .held && headInProgress s then
    { s with planner := { s.planner with displaced := true } }
  else s

/-- The local motion of an axis at a period. -/
def moveLocally (a : Axis) (s : State) : State :=
  match (s.axis a).params with
  | none => s
  | some p =>
    noteJog a (s.axis a).commanded (s.setAxis a (localStep a s.pendant.feedOverride p (s.axis a)))

/-! ## Compensation and steps -/

/-- The direction field after a commanded increment (R77). -/
def newDirection (u : AxisUnit) (old : Sign) (increment : Int) : Sign :=
  if u.compensated then headingTo old increment else old

/-- The backlash target of an axis whose ramp may run (R78). -/
def backlashTarget (p : AxisParams) : Sign → Nat
  | .plus => p.backlash
  | .minus => 0

/-- b after one period's ramp toward a target (R79). -/
def rampB (rate target b : Nat) : Nat :=
  if b < target then b + min rate (target - b) else b - min rate (b - target)

/-- The compensation record after direction and ramp, and whether b has reached its target (R77, R78, R79, R81). -/
def stepComp (s : State) (a : Axis) (before : Int) : CompRecord × Bool :=
  match (s.axis a).params with
  | none => (s.compOf a, true)
  | some p =>
    if rampMayRun s a then
      ({ s.compOf a with
          direction := newDirection (s.axis a) (s.compOf a).direction ((s.axis a).commanded - before)
          b :=
            rampB p.backlashRate
              (backlashTarget p (newDirection (s.axis a) (s.compOf a).direction ((s.axis a).commanded - before)))
              (s.compOf a).b },
        rampB p.backlashRate
            (backlashTarget p (newDirection (s.axis a) (s.compOf a).direction ((s.axis a).commanded - before)))
            (s.compOf a).b
          == backlashTarget p (newDirection (s.axis a) (s.compOf a).direction ((s.axis a).commanded - before)))
    else
      ({ s.compOf a with
          direction := newDirection (s.axis a) (s.compOf a).direction ((s.axis a).commanded - before) },
        true)

/-- The output position formed at a period (R72, R8). -/
def formedOutput (s : State) (a : Axis) (c : CompRecord) : Int :=
  if (s.axis a).compensated then
    if driveEnable s a then (s.axis a).commanded + pitchAt c (s.axis a).commanded + c.b else (s.axis a).output
  else (s.axis a).commanded

/-- The output position the Axis Unit takes: a change is withheld while the clamp is not RELEASED (R6). -/
def takenOutput (s : State) (a : Axis) (c : CompRecord) : Int :=
  if clampReleased s a then formedOutput s a c else (s.axis a).output

/-- The unit after an increment: into measured in LOOP, out as pulses with the drive on (R6, R18). With the drive off, in
LOOP too, the direction output stays as it was: R6 and R18 keep the steps alone off the output (DESIGN CHOICE, log 49). -/
def AxisUnit.stepped (u : AxisUnit) (drive : Bool) (out : Int) : AxisUnit :=
  { u with
    output := out
    measured := if u.mode == .loop then u.measured + (out - u.output) else u.measured
    directionOut := if drive then headingTo u.directionOut (out - u.output) else u.directionOut
    pulses := if drive then (out - u.output).natAbs else 0 }

/-- The output stage of an axis with the compensation of this period (R6, R80, R81). -/
def stepOutput (a : Axis) (before : Int) (w : CompRecord × Bool) (s : State) : State :=
  (s.setAxis a
      { (s.axis a).stepped (driveEnable s a) (takenOutput s a w.1) with
        atRest := (s.axis a).commanded == before && w.2 }).setComp a w.1

/-- The positions of an axis follow its measured position, with no steps (R3, R8, R17). -/
def followPeriod (a : Axis) (before : Int) (s : State) : State :=
  (followMeasured a s).setAxis a
    { (followMeasured a s).axis a with pulses := 0, atRest := (s.axis a).measured == before }

/-- What the Compensation Unit and the Axis Unit make of a commanded position at a period; `before` is the
commanded position of the period before (R80). -/
def compensateAxis (before : Axis → Int) (a : Axis) (s : State) : State :=
  if positionsFollow s a then followPeriod a (before a) s else stepOutput a (before a) (stepComp s a (before a)) s

/-! ## Checks and ends of a period -/

/-- The following error's magnitude (R9). -/
def AxisUnit.followingError (u : AxisUnit) : Nat := (u.output - u.measured).natAbs

/-- The following error exceeds fe_limit. -/
def AxisUnit.errorExceeds (u : AxisUnit) : Bool :=
  match u.params with
  | none => false
  | some p => decide (p.feLimit < u.followingError)

/-- The following-error check of an axis (R9). -/
def checkFollowing (a : Axis) (s : State) : State :=
  if driveEnable s a && (s.axis a).errorExceeds then axisFault .followingError a s else s

/-- The demand is one at which a jog may complete (R22). -/
def demandMet (a : Axis) (u : AxisUnit) (p : AxisParams) : Bool :=
  match u.demand with
  | .stop => true
  | .button _ => false
  | .handwheel _ =>
    match jogGoal a u p with
    | none => true
    | some g => u.p == g * 1000

/-- The end of a jog or reference run at a period (R14, R15, R22, log 24). A reference run in STOPPING that an Abort found
after the mark ends by R14 too, at velocity 0 and at rest, so a backlash ramp that still runs holds it, where R15 has the
run end as the velocity reaches 0 (DEDUCED, log 51). -/
def endLocal (a : Axis) (s : State) : State :=
  match (s.axis a).params with
  | none => s
  | some p =>
    match (s.axis a).motion with
    | .idle => s
    | .jog _ =>
      if (s.axis a).velocity == 0 && (s.axis a).atRest && demandMet a (s.axis a) p then endMotion a s else s
    | .reference .clampWait => s
    | .reference .stopping => if (s.axis a).velocity == 0 && (s.axis a).atRest then endMotion a s else s
    | .reference .moving =>
      if (s.axis a).velocity == 0 && (s.axis a).p == (s.axis a).searchGoal * 1000 then
        endMotion a (raiseFault .refFailed (.axis a) s)
      else s

/-- A parked axis found outside its soft limits loses its reference (R17). -/
def checkParked (a : Axis) (s : State) : State :=
  if (s.axis a).mode == .parked && !withinSoft (s.axis a) (s.axis a).measured then loseReference a s else s

/-- The condition of a FOLLOWING_ERROR entry is renewed at a period (R9, log 29). -/
def renewErrorCondition (a : Axis) (s : State) : State :=
  setCondition .followingError (.axis a) (s.axis a).errorExceeds s

/-- The linger timer at a period: it starts for an axis found linger-idle and stops for one that is not
(R97). -/
def periodLinger (a : Axis) (s : State) : State :=
  if clampTakesPart s a && (s.axis a).mode != .loop && (s.clamp a).state == .released then
    if (s.axis a).lingerIdle then
      if (s.clamp a).linger.isNone then withOpportunity (startLinger a) s else s
    else setLinger a none s
  else s

/-- What the axis showed at this period (R70, R84, R200). -/
def recordView (a : Axis) (s : State) : State :=
  s.setAxis a
    { s.axis a with
      seen := ⟨(s.axis a).commanded, (s.axis a).output, (s.axis a).measured, pitchShown s a⟩ }

/-! ## The interpolation period -/

/-- Local motion, compensation, following error and the ends of jogs and runs, stage by stage over the axes
(log 12). -/
def axesPeriod (before : Axis → Int) (s : State) : State :=
  eachAxis endLocal (eachAxis checkFollowing (eachAxis (compensateAxis before) (eachAxis moveLocally s)))

/-- What follows the planner's end of the period. -/
def periodEnds (s : State) : State :=
  eachAxis recordView (eachAxis periodLinger (eachAxis renewErrorCondition (eachAxis checkParked s)))

/-- The rest of a period after the planner's work `w` (R27, R56, log 12). -/
def afterWork (before : Axis → Int) (w : State × Bool) : State :=
  periodEnds (plannerFinish w.2 (axesPeriod before w.1))

/-- The interpolation period (R27, R56). -/
def interpolate (s : State) : State :=
  afterWork (fun a => (s.axis a).commanded) (plannerWork { s with clocks := { s.clocks with interpolation := 2 } })

end Sys2Proof.Machine
end

