-- ==== Sys2Proof/Machine/PendantOps.lean ====
section
/-! DEFINITION. The Pendant Unit (Section 9): the outcome of a scan, the stages of a good one, the control
site, the handwheel, the jog buttons and the overrides. -/

namespace Sys2Proof.Machine

/-! ## Overrides and clips -/

/-- The two overrides take values; a change of the spindle override forms S_cmd anew (R165, R106). -/
def setOverrideValues (feed spindle : Nat) (s : State) : State :=
  (if s.pendant.spindleOverride == spindle then id else formSpeed)
    { s with pendant := { s.pendant with feedOverride := feed, spindleOverride := spindle } }

/-- The knob positions take effect (R165). -/
def takeKnobs (r : ScanReply) (s : State) : State :=
  setOverrideValues (10 * r.feedKnob.val) (50 + 10 * r.spindleKnob.val) s

/-- A clip starts the CLIP timer where something was cut (R171). -/
def clipIf (cut : Bool) (s : State) : State :=
  if cut then { s with pendant := { s.pendant with clipTimer := some 500 } } else s

/-! ## Reading a reply -/

/-- The selector, B being OFF with B_FITTED clear (R164). -/
def selectorOf (s : State) (r : ScanReply) : Option Axis :=
  match r.selector with
  | some .b => if s.link.straps.bFitted then some .b else none
  | other => other

/-- The handwheel delta of stage 1 (R164). -/
def wheelDelta (previous r : ScanReply) : Int := (r.counter - previous.counter).toInt

/-- Units per detent (9.2). -/
def incrementUnits : Increment → Nat
  | .one => 1
  | .ten => 10
  | .hundred => 100

/-- A button reads pressed here and released before (R164). -/
def pressedNow (f : Buttons → Bool) (previous r : ScanReply) : Bool := f r.buttons && !f previous.buttons

/-- The enabling switch enters PANIC (R175). -/
def entersPanic (previous r : ScanReply) : Bool := r.enabling == .panic && previous.enabling != .panic

/-- A jog button is held. -/
def jogHeld (r : ScanReply) : Bool := r.buttons.jogPlus || r.buttons.jogMinus

/-- The direction of a button demand, none with both or neither pressed (R172). -/
def jogDirection (r : ScanReply) : Option Sign :=
  match r.buttons.jogPlus, r.buttons.jogMinus with
  | true, false => some .plus
  | false, true => some .minus
  | true, true => none
  | false, false => none

/-- A sign as a button jog. -/
def ButtonJog.toward : Sign → ButtonJog
  | .plus => .plus
  | .minus => .minus

/-- The reply has the fixed length and its check is correct (R161). -/
def replyChecks (bytes : List Byte) : Bool :=
  bytes.length == 12 && bytes.getD 11 0 == (bytes.take 11).foldl (· + ·) 0

/-! ## Stage 3: buttons and switch -/

/-- CYCLE_START: a press that Start would refuse has no effect (R28, R175). -/
def cycleStart (s : State) : State :=
  match firstRefusal (startRefusals s) with
  | some _ => s
  | none => startProgram s

/-- The effect `f` where a condition holds. -/
def doIf (b : Bool) (f : State → State) (s : State) : State := if b then f s else s

/-- Presses and the enabling switch in the order of R175, CYCLE_START last. -/
def takeButtons (previous r : ScanReply) (s : State) : State :=
  doIf
      (pressedNow Buttons.cycleStart previous r && !pressedNow Buttons.feedHold previous r
        && !pressedNow Buttons.spindleStop previous r && !entersPanic previous r)
      cycleStart <|
    doIf (previous.enabling == .enable && r.enabling == .released) withdraw <|
      doIf (entersPanic previous r) (fun t => withdraw (raiseCause .operator t)) <|
        doIf (pressedNow Buttons.coolant previous r)
            (fun t => doIf (t.pendant.site == .pendant || t.planner.state == .idle) floodToggle t) <|
          doIf (pressedNow Buttons.spindleStop previous r) operatorStop <|
            doIf (pressedNow Buttons.feedHold previous r) (raiseCause .operator) s

/-! ## Stage 4: site -/

/-- The conditions under which the pendant takes the site (R167). -/
def mayTakeSite (r : ScanReply) (s : State) : Bool :=
  s.pendant.link == .online && (selectorOf s r).isSome && r.enabling == .enable
    && (s.planner.state == .idle || s.planner.state == .held) && s.gear.step == .idle && !anyReference s
    && s.stop.estop == .armed

/-- The control site is judged (R167, R168). -/
def judgeSite (r : ScanReply) (s : State) : State :=
  if s.pendant.site == .pendant then
    if (selectorOf s r).isNone || r.enabling != .enable then withdraw s else s
  else if mayTakeSite r s then
    { s with pendant := { s.pendant with site := .pendant, withdrawing := false, tenure := .all false } }
  else s

/-! ## Stage 5: jog -/

/-- The selector changed: the goal is discarded and the previously jogged axis told to stop (R169). The spec is
silent on the button jog here; the model sets it to NONE (DESIGN CHOICE, log 45). -/
def selectorChange (previous r : ScanReply) (s : State) : State :=
  if selectorOf s previous == selectorOf s r then s
  else
    (fun t => { t with pendant := { t.pendant with goal := none, buttonJog := .idle } })
      (match s.pendant.jogged with
       | none => s
       | some a => giveStop a s)

/-- The axis becomes the jogged axis of this tenure (R168, R169). -/
def markJogged (a : Axis) (s : State) : State :=
  { s with pendant := { s.pendant with jogged := some a, tenure := s.pendant.tenure.set a true } }

/-- A jog button press discards the handwheel goal (R171, R172). -/
def pressDiscards (previous r : ScanReply) (s : State) : State :=
  if pressedNow Buttons.jogPlus previous r || pressedNow Buttons.jogMinus previous r then
    { s with pendant := { s.pendant with goal := none } }
  else s

/-- The button demand for the selected axis (R172). -/
def buttonDemand (a : Axis) (r : ScanReply) (s : State) : State :=
  match jogDirection r with
  | some d =>
    if takesJog s a && !s.pendant.buttonBlocked then
      giveDemand a (.button d)
        (markJogged a { s with pendant := { s.pendant with buttonJog := .toward d } })
    else s
  | none =>
    if s.pendant.buttonJog == .idle then s
    else giveStop a { s with pendant := { s.pendant with buttonJog := .idle } }

/-- A handwheel jog of the axis is still running (R170). A jog whose latest demand is a stop brakes and is not
(DEDUCED, log 46): only the latest demand is looked at. -/
def wheelJogRuns (s : State) (a : Axis) : Bool :=
  match (s.axis a).motion, (s.axis a).demand with
  | .jog _, .handwheel _ => true
  | .jog _, .button _ => false
  | .jog _, .stop => false
  | .idle, _ => false
  | .reference _, _ => false

/-- The goal's cut at the limits (R171). -/
def cutGoal (u : AxisUnit) (g : Int) : Int :=
  match u.params with
  | none => latchGoal u g
  | some p => latchGoal u (softGoal u p g)

/-- pending after the detents, before saturation (steps 1 and 2 of R170). -/
def rawPending (s : State) (a : Axis) (detents : Int) : Int :=
  (match s.pendant.goal with
   | none => 0
   | some g => g - (s.axis a).commanded)
    + detents

/-- Saturation to ±hw_limit (step 3 of R170). -/
def saturate (limit : Nat) (x : Int) : Int := max (-(limit : Int)) (min x limit)

/-- The handwheel goal of this scan (R170). -/
def wheelGoal (s : State) (a : Axis) (detents : Int) : Int :=
  cutGoal (s.axis a) ((s.axis a).commanded + saturate s.pendant.hwLimit (rawPending s a detents))

/-- The handwheel goal goes to the Axis Unit, or is left absent (R170, log 25). -/
def giveWheelGoal (a : Axis) (g : Int) (s : State) : State :=
  if g != (s.axis a).commanded || wheelJogRuns s a then
    giveDemand a (.handwheel g) (markJogged a { s with pendant := { s.pendant with goal := some g } })
  else { s with pendant := { s.pendant with goal := none } }

/-- The handwheel at stage 5 (R170, R171). -/
def takeWheel (a : Axis) (detents : Int) (s : State) : State :=
  if takesJog s a then
    clipIf ((s.axis a).commanded + rawPending s a detents != wheelGoal s a detents)
      (giveWheelGoal a (wheelGoal s a detents) s)
  else clipIf (detents != 0) { s with pendant := { s.pendant with goal := none } }

/-- Button blocked is cleared at a good scan, a baseline and one in LOST among them, at which both jog buttons read
released (R172). -/
def unblock (r : ScanReply) (s : State) : State :=
  if jogHeld r then s else { s with pendant := { s.pendant with buttonBlocked := false } }

/-- The jog demand of the selected axis; the handwheel is taken while no jog button is held (R170), and after a button
jog from the scan behind its release (R172). Where a button is released with no button jog running (both were pressed,
the buttons were blocked, or the axis took no demand), R172 has the wheel wait a scan more and R170 takes it at this
one; the model takes it at this one (DEDUCED, log 47). -/
def takeJog (previous r : ScanReply) (a : Axis) (s : State) : State :=
  (if jogHeld r || s.pendant.buttonJog != .idle then id
   else takeWheel a (wheelDelta previous r * incrementUnits r.increment))
    (buttonDemand a r (pressDiscards previous r s))

/-- Stage 5 of a good scan (R169 to R173). -/
def jogStage (previous r : ScanReply) (s : State) : State :=
  (fun t =>
      match selectorOf t r with
      | none => t
      | some a =>
        if t.pendant.site == .pendant && !t.pendant.withdrawing then takeJog previous r a t else t)
    (unblock r (selectorChange previous r s))

/-! ## Outcomes of a scan -/

/-- The reply becomes the last good reply (R164). -/
def storeReply (r : ScanReply) (s : State) : State := { s with pendant := { s.pendant with lastGood := some r } }

/-- The stages of a good scan that is no baseline (R164). -/
def takeReply (previous r : ScanReply) (s : State) : State :=
  storeReply r (jogStage previous r (judgeSite r (takeButtons previous r (takeKnobs r s))))

/-- The link becomes ONLINE with a baseline reply (R163). -/
def comeOnline (r : ScanReply) (s : State) : State :=
  storeReply r <|
    takeKnobs r <|
      setCondition .pendantLost .absent false
        { s with pendant := { s.pendant with link := .online, goodRun := 0 } }

/-- A good scan by the link state (R161, R163, R164, R172, log 27). -/
def scanGood (r : ScanReply) (s : State) : State :=
  match s.pendant.link with
  | .waiting => comeOnline r (unblock r { s with pendant := { s.pendant with misses := 0 } })
  | .online =>
    takeReply (s.pendant.lastGood.getD r) r { s with pendant := { s.pendant with misses := 0 } }
  | .lost =>
    if 4 ≤ s.pendant.goodRun then comeOnline r (unblock r { s with pendant := { s.pendant with misses := 0 } })
    else
      storeReply r
        (unblock r { s with pendant := { s.pendant with misses := 0, goodRun := s.pendant.goodRun + 1 } })
  | .absent => s

/-- The link becomes LOST (R162). -/
def becomeLost (s : State) : State :=
  (fun t => if s.pendant.site == .pendant && t.planner.state == .held then raiseCause .pendantLost t else t) <|
    withdraw <|
      raiseFault .pendantLost .absent { s with pendant := { s.pendant with link := .lost, goodRun := 0 } }

/-- A miss outside LOST; the third in a row loses the link (R161, R162). -/
def missCounted (s : State) : State :=
  if 2 ≤ s.pendant.misses then becomeLost { s with pendant := { s.pendant with misses := 3 } }
  else { s with pendant := { s.pendant with misses := s.pendant.misses + 1 } }

/-- A miss by the link state (R161, R162, R163). -/
def scanMiss (s : State) : State :=
  match s.pendant.link with
  | .waiting => missCounted s
  | .online => missCounted s
  | .lost => { s with pendant := { s.pendant with misses := min 3 (s.pendant.misses + 1), goodRun := 0 } }
  | .absent => s

/-- A reply within the window ends the scan, good or miss; one outside it is discarded (R161, log 10, log 37). -/
def replyArrives (bytes : List Byte) (fields : Option ScanReply) (s : State) : State :=
  match s.pendant.window with
  | none => s
  | some _ =>
    match fields with
    | some r =>
      if replyChecks bytes then scanGood r { s with pendant := { s.pendant with window := none } }
      else scanMiss { s with pendant := { s.pendant with window := none } }
    | none => scanMiss { s with pendant := { s.pendant with window := none } }

/-- The window closes with no reply (R161). -/
def windowCloses (s : State) : State :=
  match s.pendant.window with
  | none => s
  | some _ => scanMiss { s with pendant := { s.pendant with window := none } }

/-- The ten characters of a chunk: columns 1 to 10 or 11 to 20 of line 1 or line 2 (R160). -/
def chunkText (p : Pendant) : Fin 4 → List Byte
  | 0 => p.line1.take 10
  | 1 => (p.line1.drop 10).take 10
  | 2 => p.line2.take 10
  | 3 => (p.line2.drop 10).take 10

/-- The scan request formed at this event: lamps, chunk index and the chunk's text (R160, R176). -/
def formRequest (s : State) : ScanRequest where
  lamps := lampLevels s
  chunk := s.pendant.chunk
  text := chunkText s.pendant s.pendant.chunk

/-- A scan request is sent, the chunk index advances and the reply window opens (R160, R176). -/
def sendRequest (s : State) : State :=
  if s.pendant.link == .absent then s
  else
    { s with
      pendant :=
        { s.pendant with
          lamps := lampLevels s, request := some (formRequest s), chunk := s.pendant.chunk + 1
          window := some 3 } }

end Sys2Proof.Machine
end

