-- ==== Sys2Proof/Machine/Operands.lean ====
section
/-! DEFINITION. The payloads of the orders (R204, log 8, log 9): the length a kind calls for, and the typed
operand a payload spells. An operand is `none` where a field lies outside its range or fields disagree:
that is BAD_FIELD (R196, check 4). -/

namespace Sys2Proof.Machine

/-! ## Judging with an operand -/

/-- Checks 1 to 3, then check 4 by reading the operand, then the later checks, then the order taken (R196). -/
def judgeField {α : Type} (before : List (Bool × RefuseCode)) (field : Option α)
    (after : α → List (Bool × RefuseCode)) (taken : α → Verdict) : Verdict :=
  match firstRefusal before with
  | some code => .refuse code
  | none =>
    match field with
    | none => .refuse .badField
    | some x => judge (after x) (taken x)

/-- An order of fixed length with no operand. -/
def judgeEmpty (p : List Byte) (after : List (Bool × RefuseCode)) (taken : Verdict) : Verdict :=
  judge ((p.length != 0, .badLength) :: after) taken

/-- The axis a byte names: 0 X, 1 Y, 2 Z, 3 W, 4 B (R204). -/
def axisOf : Nat → Option Axis
  | 0 => some .x
  | 1 => some .y
  | 2 => some .z
  | 3 => some .w
  | 4 => some .b
  | _ => none

/-- The byte names B while B_FITTED is clear (R196, check 3). -/
def namesMissingB (s : State) (n : Nat) : Bool := n == 4 && !s.link.straps.bFitted

/-- A value where it lies in a range. -/
def within (lo hi n : Nat) : Option Nat := if lo ≤ n ∧ n ≤ hi then some n else none

/-- A flag byte, 0 or 1 (log 9). -/
def flagOf : Nat → Option Bool
  | 0 => some false
  | 1 => some true
  | _ => none

/-- Direction: 0 CW, 1 CCW (R204). -/
def rotationOf : Nat → Option Rotation
  | 0 => some .cw
  | 1 => some .ccw
  | _ => none

/-- Range byte: 1 to 4. -/
def rangeOf : Nat → Option GearRange
  | 1 => some .i
  | 2 => some .ii
  | 3 => some .iii
  | 4 => some .iv
  | _ => none

/-- Forced range: 0 absent or 1 to 4 (R204). -/
def forcedOf : Nat → Option (Option GearRange)
  | 0 => some none
  | n => (rangeOf n).map some

/-- Gear Set target: 0 NEUTRAL or 1 to 4 (R204). -/
def gearTargetOf : Nat → Option GearTarget
  | 0 => some .neutral
  | n => (rangeOf n).map .range

/-- Coolant mode: 0 OFF, 1 FLOOD, 2 TSC, 3 FLOOD_TSC (R204). -/
def coolantModeOf : Nat → Option CoolantMode
  | 0 => some .off
  | 1 => some .flood
  | 2 => some .tsc
  | 3 => some .floodTsc
  | _ => none

/-- The mode byte asks for TSC while TSC_FITTED is clear (R24, R156). -/
def asksMissingTsc (s : State) (n : Nat) : Bool := (n == 2 || n == 3) && !s.link.straps.tscFitted

/-! ## Queue orders (2.1, R204) -/

/-- Bit number of an axis in the axis set, and its axis value. -/
def axisNumber : Axis → Nat
  | .x => 0
  | .y => 1
  | .z => 2
  | .w => 3
  | .b => 4

/-- The axis is in a Queue Move's axis set. -/
def inSet (set : Nat) (a : Axis) : Bool := set.testBit (axisNumber a)

/-- The axes of a set, in order. -/
def axesOfSet (set : Nat) : List Axis := axesInOrder.filter (inSet set)

/-- The length a Queue Move calls for (R204). -/
def moveLength (p : List Byte) : Nat := 4 + 4 * (axesOfSet (byteAt p 0)).length

/-- Offset of an axis's target: targets stand in axis order (R204). -/
def targetOffset (set : Nat) (a : Axis) : Nat :=
  4 + 4 * ((axesInOrder.take (axisNumber a)).filter (inSet set)).length

/-- The targets of a Queue Move. -/
def moveTargets (p : List Byte) : PerAxis (Option Int) :=
  .of fun a => if inSet (byteAt p 0) a then some (sle32 p (targetOffset (byteAt p 0) a)) else none

/-- A target lies inside its axis's travel (R24). -/
def targetInTravel (targets : PerAxis (Option Int)) (a : Axis) : Bool :=
  match targets.get a with
  | none => true
  | some t => decide (0 ≤ t ∧ t ≤ travelTop a)

/-- Feed mode and feed value within the ranges of 2.1; RAPID has the value 0 (R204). -/
def feedOf (mode feed : Nat) : Option FeedMode :=
  match mode with
  | 0 => if 1 ≤ feed ∧ feed ≤ 20000 then some .perMinute else none
  | 1 => if 1 ≤ feed ∧ feed ≤ 10000 then some .perRev else none
  | 2 => if feed = 0 then some .rapid else none
  | _ => none

/-- The MOVE a payload spells. -/
def moveEntry (p : List Byte) : Option EntryBody :=
  if byteAt p 0 = 0 ∨ 32 ≤ byteAt p 0 ∨ !(axesInOrder.all (targetInTravel (moveTargets p))) then none
  else (feedOf (byteAt p 1) (le16 p 2)).map fun m => .move (moveTargets p) m (le16 p 2)

/-- The DWELL a payload spells. -/
def dwellEntry (p : List Byte) : Option EntryBody := (within 1 600000 (le32 p 0)).map .dwell

/-- The SPINDLE entry a payload spells. -/
def spindleEntry (p : List Byte) : Option EntryBody := do
  let speed ← within 0 3000 (le16 p 0)
  let d ← rotationOf (byteAt p 2)
  let forced ← forcedOf (byteAt p 3)
  let wait ← flagOf (byteAt p 4)
  some (.spindle speed d forced wait)

/-- The COOLANT entry a payload spells. -/
def coolantEntry (p : List Byte) : Option EntryBody := do
  let m ← coolantModeOf (byteAt p 0)
  let wait ← flagOf (byteAt p 1)
  some (.coolant m wait)

/-! ## Orders of other blocks -/

/-- A spindle command in an order (R109). -/
structure SpindleOperand where
  speed : Nat
  direction : Rotation
  forced : Option GearRange

/-- The operand of Spindle Set. -/
def spindleOperand (p : List Byte) : Option SpindleOperand := do
  let speed ← within 0 3000 (le16 p 0)
  let d ← rotationOf (byteAt p 2)
  let forced ← forcedOf (byteAt p 3)
  some ⟨speed, d, forced⟩

/-- An axis with a flag (Park, Loop). -/
def axisFlag (p : List Byte) : Option (Axis × Bool) := do
  let a ← axisOf (byteAt p 0)
  let on ← flagOf (byteAt p 1)
  some (a, on)

/-- The lengths a Set Axis calls for: 31, or 33 with clamp_linger (R204). -/
def setAxisLength (p : List Byte) : Bool := p.length == 31 || p.length == 33

/-- ref_direction: 0 +, 1 − (log 8). -/
def signOf : Nat → Option Sign
  | 0 => some .plus
  | 1 => some .minus
  | _ => none

/-- The record a Set Axis payload spells, with the internal forms of R2, before its range checks. -/
def axisRecord (p : List Byte) (d : Sign) (clampFitted : Bool) : AxisParams where
  softMin := sle32 p 1
  softMax := sle32 p 5
  vmax := le16 p 9
  accel := le16 p 11
  jogFeed := le16 p 13
  refDirection := d
  refSearchFeed := le16 p 16
  refValue := sle32 p 18
  refSearchDistance := le32 p 22
  feLimit := le16 p 26
  backlash := byteAt p 28
  backlashRate := byteAt p 29
  clampFitted := clampFitted
  clampLinger := if p.length == 33 then le16 p 31 else 500
  vmaxN := roundUp (le16 p 9 * 100) 3
  refN := roundUp (le16 p 16 * 100) 3
  accelN := le16 p 11 * 4

/-- A record in range with its stopping allowance. -/
def checkedRecord (a : Axis) (r : AxisParams) : Option AxisParams :=
  if r.inRange a && r.allowanceFits then some r else none

/-- The axis and record of a Set Axis. -/
def setAxisOperand (p : List Byte) : Option (Axis × AxisParams) := do
  let a ← axisOf (byteAt p 0)
  let d ← signOf (byteAt p 15)
  let fitted ← flagOf (byteAt p 30)
  let r ← checkedRecord a (axisRecord p d fitted)
  some (a, r)

/-- A Load Compensation (R75). -/
structure CompLoad where
  axis : Axis
  start : Nat
  /-- base and k; present when the start index is 0. -/
  window : Option (Int × Nat)
  points : List Int

/-- The length a Load Compensation calls for (R204). -/
def loadLength (p : List Byte) : Nat := 4 + (if byteAt p 2 = 1 then 5 else 0) + 2 * byteAt p 3

/-- The points of a Load Compensation, from an offset. -/
def pointsFrom (p : List Byte) (offset : Nat) : Nat → List Int
  | 0 => []
  | n + 1 => sle16 p offset :: pointsFrom p (offset + 2) n

/-- A window definition in range (R75). -/
def windowFits (a : Axis) (base : Int) (k : Nat) : Bool :=
  decide (16 ≤ k ∧ k ≤ 22 ∧ 0 ≤ base ∧ base ≤ travelTop a) && base % (2 ^ k : Nat) == 0

/-- The chunk's index, count and points in range (R75). -/
def chunkFits (start count : Nat) (points : List Int) : Bool :=
  decide (start ≤ 128 ∧ start + count ≤ 129 ∧ count ≤ 32) && (count != 0 || start == 0)
    && points.all fun c => decide (-500 ≤ c ∧ c ≤ 500)

/-- The operand of Load Compensation (R75). -/
def compLoad (p : List Byte) : Option CompLoad := do
  let a ← axisOf (byteAt p 0)
  let window ← flagOf (byteAt p 2)
  if window then
    if byteAt p 1 == 0 && windowFits a (sle32 p 4) (byteAt p 8) && chunkFits 0 (byteAt p 3) (pointsFrom p 9 (byteAt p 3))
    then some ⟨a, 0, some (sle32 p 4, byteAt p 8), pointsFrom p 9 (byteAt p 3)⟩
    else none
  else if byteAt p 1 != 0 && chunkFits (byteAt p 1) (byteAt p 3) (pointsFrom p 4 (byteAt p 3)) then
    some ⟨a, byteAt p 1, none, pointsFrom p 4 (byteAt p 3)⟩
  else none

/-- A row of Set Gears at an offset, in range (R121). -/
def gearRow (p : List Byte) (i : Nat) : Option RangeRow :=
  if 1 ≤ le16 p i ∧ le16 p i < le16 p (i + 2) ∧ le16 p (i + 2) ≤ 3000 ∧ 1 ≤ byteAt p (i + 4) ∧ 1 ≤ byteAt p (i + 5) then
    some ⟨le16 p i, le16 p (i + 2), byteAt p (i + 4), byteAt p (i + 5)⟩
  else none

/-- A Set Gears (R121). -/
structure GearLoad where
  table : GearTable
  autoRange : Bool
  creepSpeed : Nat
  retryLimit : Nat

/-- The operand of Set Gears. -/
def gearLoad (p : List Byte) : Option GearLoad := do
  let i ← gearRow p 0
  let ii ← gearRow p 6
  let iii ← gearRow p 12
  let iv ← gearRow p 18
  let auto ← flagOf (byteAt p 24)
  let creep ← within 10 120 (byteAt p 25)
  let retry ← within 0 8 (byteAt p 26)
  some ⟨⟨i, ii, iii, iv⟩, auto, creep, retry⟩

/-- motor_max, spindle_ramp and at_speed_tol (R105). -/
def spindleParams (p : List Byte) : Option (Nat × Nat × Nat) := do
  let m ← within 500 6000 (le16 p 0)
  let r ← within 1 200 (byteAt p 2)
  let t ← within 1 20 (byteAt p 3)
  some (m, r, t)

/-- build_action: 0 WAIT, 1 FAULT (log 8). -/
def buildActionOf : Nat → Option BuildAction
  | 0 => some .wait
  | 1 => some .fault
  | _ => none

/-- The parameters of Set Coolant Params (R143). -/
structure CoolantParams where
  tscMin : Nat
  buildLimit : Nat
  buildAction : BuildAction
  purgeTime : Nat
  unionLimit : Nat

/-- The operand of Set Coolant Params. -/
def coolantParams (p : List Byte) : Option CoolantParams := do
  let m ← within 50 1000 (le16 p 0)
  let l ← within 500 20000 (le16 p 2)
  let act ← buildActionOf (byteAt p 4)
  let t ← within 0 10000 (le16 p 5)
  let u ← within 100 3000 (le16 p 7)
  some ⟨m, l, act, t, u⟩

/-- bypass_limit, clamp_stroke_limit and fork_stroke_limit (R86). -/
def valveParams (p : List Byte) : Option (Nat × Nat × Nat) := do
  let b ← within 0 7 (byteAt p 0)
  let c ← within 200 10000 (le16 p 1)
  let f ← within 200 10000 (le16 p 3)
  some (b, c, f)

/-- Feed and spindle override, in steps of 10 % (R166). -/
def overrides (p : List Byte) : Option (Nat × Nat) := do
  let f ← within 0 150 (byteAt p 0)
  let sp ← within 50 120 (byteAt p 1)
  if f % 10 = 0 ∧ sp % 10 = 0 then some (f, sp) else none

/-- Offset of the hw_limit flag of a Set Pendant Text. -/
def textFlagOffset (p : List Byte) : Nat := 2 + byteAt p 0 + byteAt p 1

/-- The length a Set Pendant Text calls for (R204). -/
def textLength (p : List Byte) : Nat :=
  3 + byteAt p 0 + byteAt p 1 + (if byteAt p (textFlagOffset p) = 1 then 4 else 0)

/-- A character as the display stores it (R177). -/
def shownChar (b : Byte) : Byte := if 0x20 ≤ b.toNat ∧ b.toNat ≤ 0x7E then b else 0x3F#8

/-- A line padded with spaces to 20 characters (R177). -/
def paddedLine (chars : List Byte) : List Byte :=
  chars.map shownChar ++ List.replicate (20 - chars.length) 0x20#8

/-- A Set Pendant Text (R177). -/
structure PendantText where
  line1 : List Byte
  line2 : List Byte
  hwLimit : Option Nat

/-- The operand of Set Pendant Text. -/
def pendantText (p : List Byte) : Option PendantText := do
  let l1 ← within 0 20 (byteAt p 0)
  let l2 ← within 0 20 (byteAt p 1)
  let given ← flagOf (byteAt p (textFlagOffset p))
  if given then
    let hw ← within 1000 100000 (le32 p (textFlagOffset p + 1))
    some ⟨paddedLine ((p.drop 2).take l1), paddedLine ((p.drop (2 + l1)).take l2), some hw⟩
  else some ⟨paddedLine ((p.drop 2).take l1), paddedLine ((p.drop (2 + l1)).take l2), none⟩

/-- A POSITION period: 0, or 10 to 1,000 ms (R200). -/
def reportPeriod (p : List Byte) : Option Nat :=
  if le16 p 0 = 0 then some 0 else within 10 1000 (le16 p 0)

end Sys2Proof.Machine
end

