-- ==== Sys2Proof/Machine/Program.lean ====
section
/-! DEFINITION. The orders of the Motion Planner (Section 2): the six Queue orders, Start, Hold and Abort. -/

namespace Sys2Proof.Machine

/-- An accepted order with effect `f`; the ACCEPT payload is read from the state after it. -/
def accepted (f : State → State) (payload : State → AcceptPayload) (s : State) : Verdict :=
  .accept (f s) (payload (f s))

/-! ## Queue orders -/

/-- The entry joins the tail in sub-state QUEUED (R23, R25). -/
def appendEntry (e : Entry) (s : State) : State :=
  { s with
    planner :=
      { s.planner with
        queue := s.planner.queue ++ [e]
        head := if s.planner.queue.isEmpty then some .queued else s.planner.head } }

/-- Free slots of the queue (R25, R48). -/
def freeSlots (s : State) : Nat := Config.programQueueCapacity - s.planner.queue.length

/-- An accepted Queue order (R25). -/
def takeEntry (tag : Tag) (b : EntryBody) (s : State) : Verdict :=
  accepted (appendEntry ⟨tag, b⟩) (fun t => .freeSlots (freeSlots t)) s

/-- Checks that every Queue order meets: BUSY, and last QUEUE_FULL (R24). -/
def planRefusals (s : State) : List (Bool × RefuseCode) :=
  [(s.planner.state == .aborting, .busy),
    (decide (Config.programQueueCapacity ≤ s.planner.queue.length), .queueFull)]

/-- Some axis of a MOVE has a property. -/
def someAxis (targets : PerAxis (Option Int)) (f : Axis → Bool) : Bool :=
  axesInOrder.any fun a => (targets.get a).isSome && f a

/-- A target lies outside the soft limits, or beyond the commanded position toward a latched end (R24, R12). -/
def outOfLimits (s : State) (a : Axis) (target : Option Int) : Bool :=
  match target with
  | none => false
  | some t => !withinSoft (s.axis a) t || latchGoal (s.axis a) t != t

/-- The checks of a MOVE whose fields are in range (R24). -/
def moveRefusals (s : State) (b : EntryBody) : List (Bool × RefuseCode) :=
  match b with
  | .move targets m _ =>
    [(someAxis targets (fun a => !(s.axis a).configured) || (m == .perRev && s.gear.table.isNone),
        .notConfigured),
      (s.planner.state == .aborting, .busy),
      (someAxis targets fun a => (s.axis a).mode == .parked, .axisParked),
      (someAxis targets fun a => !(s.axis a).referenced, .notReferenced),
      (axesInOrder.any fun a => outOfLimits s a (targets.get a), .outOfLimits),
      (decide (Config.programQueueCapacity ≤ s.planner.queue.length), .queueFull)]
  | _ => planRefusals s

/-- The owner's answer to Queue Move (R24). -/
def queueMoveOrder (tag : Tag) (p : List Byte) (s : State) : Verdict :=
  judgeField
    [(p.length != moveLength p, .badLength), (inSet (byteAt p 0) .b && !s.link.straps.bFitted, .notFitted)]
    (moveEntry p) (moveRefusals s) fun b => takeEntry tag b s

/-- The owner's answer to Queue Dwell (R24). -/
def queueDwellOrder (tag : Tag) (p : List Byte) (s : State) : Verdict :=
  judgeField [(p.length != 4, .badLength)] (dwellEntry p) (fun _ => planRefusals s) fun b => takeEntry tag b s

/-- The entry needs a gear table (R24). -/
def needsTable (b : EntryBody) : Bool :=
  match b with
  | .spindle speed _ forced _ => speed != 0 || forced.isSome
  | _ => false

/-- The owner's answer to Queue Spindle (R24). -/
def queueSpindleOrder (tag : Tag) (p : List Byte) (s : State) : Verdict :=
  judgeField [(p.length != 5, .badLength)] (spindleEntry p)
    (fun b => (needsTable b && s.gear.table.isNone, .notConfigured) :: planRefusals s)
    fun b => takeEntry tag b s

/-- The owner's answer to Queue Coolant (R24). -/
def queueCoolantOrder (tag : Tag) (p : List Byte) (s : State) : Verdict :=
  judgeField [(p.length != 2, .badLength), (asksMissingTsc s (byteAt p 0), .notFitted)] (coolantEntry p)
    (fun _ => planRefusals s) fun b => takeEntry tag b s

/-- The owner's answer to Queue Mark (R24). -/
def queueMarkOrder (tag : Tag) (p : List Byte) (s : State) : Verdict :=
  judgeEmpty p (planRefusals s) (takeEntry tag .mark s)

/-- The owner's answer to Queue End (R24). -/
def queueEndOrder (tag : Tag) (p : List Byte) (s : State) : Verdict :=
  judgeEmpty p (planRefusals s) (takeEntry tag .endProgram s)

/-- QUEUE_MOVE (R24, R25). -/
def execQueueMove (tag : Tag) (p : List Byte) (s : State) : Host.Outcome State Fault Refusal :=
  event (takeOrder 0x01 tag (queueMoveOrder tag p)) s

/-- QUEUE_DWELL (R24, R25). -/
def execQueueDwell (tag : Tag) (p : List Byte) (s : State) : Host.Outcome State Fault Refusal :=
  event (takeOrder 0x02 tag (queueDwellOrder tag p)) s

/-- QUEUE_SPINDLE (R24, R25). -/
def execQueueSpindle (tag : Tag) (p : List Byte) (s : State) : Host.Outcome State Fault Refusal :=
  event (takeOrder 0x03 tag (queueSpindleOrder tag p)) s

/-- QUEUE_COOLANT (R24, R25). -/
def execQueueCoolant (tag : Tag) (p : List Byte) (s : State) : Host.Outcome State Fault Refusal :=
  event (takeOrder 0x04 tag (queueCoolantOrder tag p)) s

/-- QUEUE_MARK (R24, R25). -/
def execQueueMark (tag : Tag) (p : List Byte) (s : State) : Host.Outcome State Fault Refusal :=
  event (takeOrder 0x05 tag (queueMarkOrder tag p)) s

/-- QUEUE_END (R24, R25). -/
def execQueueEnd (tag : Tag) (p : List Byte) (s : State) : Host.Outcome State Fault Refusal :=
  event (takeOrder 0x06 tag (queueEndOrder tag p)) s

/-! ## Start, Hold, Abort -/

/-- The ACCEPT payload of Start, Hold and Abort (R196). -/
def plannerReply (s : State) : AcceptPayload := .planner s.planner.state

/-- The answer to Start (R28). -/
def startOrder (p : List Byte) (s : State) : Verdict :=
  judgeEmpty p (startRefusals s) (accepted startProgram plannerReply s)

/-- The answer to Hold: it adds HOST (R43). -/
def holdOrder (p : List Byte) (s : State) : Verdict :=
  judgeEmpty p [] (accepted (raiseCause .host) plannerReply s)

/-- The answer to Abort (R45). -/
def abortOrder (p : List Byte) (s : State) : Verdict :=
  judgeEmpty p [] (accepted abortProgram plannerReply s)

/-- START (R28, R29, R30). -/
def execStart (tag : Tag) (p : List Byte) (s : State) : Host.Outcome State Fault Refusal :=
  event (takeOrder 0x10 tag (startOrder p)) s

/-- HOLD (R43). -/
def execHold (tag : Tag) (p : List Byte) (s : State) : Host.Outcome State Fault Refusal :=
  event (takeOrder 0x11 tag (holdOrder p)) s

/-- ABORT (R45, R46). -/
def execAbort (tag : Tag) (p : List Byte) (s : State) : Host.Outcome State Fault Refusal :=
  event (takeOrder 0x12 tag (abortOrder p)) s

end Sys2Proof.Machine
end

