-- ==== Sys2Proof/Machine/SpindleGear.lean ====
section
/-! DEFINITION. The orders and events of the Spindle Controller and the Gear Sequencer (Sections 6 and 7). -/

namespace Sys2Proof.Machine

/-! ## Orders -/

/-- The checks of Spindle Set whose fields are in range (R109). -/
def spindleSetRefusals (s : State) (o : SpindleOperand) : List (Bool × RefuseCode) :=
  [((o.speed != 0 || o.forced.isSome) && s.gear.table.isNone, .notConfigured),
    (s.stop.estop != .armed, .estopActive),
    (s.pendant.site == .pendant, .sitePendant),
    (s.planner.state != .idle || s.gear.step != .idle || (o.speed != 0 && hasSpindleFault s), .busy)]

/-- The answer to Spindle Set (R109). -/
def spindleSetOrder (p : List Byte) (s : State) : Verdict :=
  judgeField [(p.length != 4, .badLength)] (spindleOperand p) (spindleSetRefusals s) fun o =>
    accepted (spindleCommand .order o.speed o.direction o.forced) (fun t => .spindle t.spindle.sCmd t.gear.gearbox) s

/-- SPINDLE_SET (R109, R107). -/
def execSpindleSet (tag : Tag) (p : List Byte) (s : State) : Host.Outcome State Fault Refusal :=
  event (takeOrder 0x18 tag (spindleSetOrder p)) s

/-- The checks of Gear Set whose target is known (R137). -/
def gearSetRefusals (s : State) (t : GearTarget) : List (Bool × RefuseCode) :=
  [(t != .neutral && s.gear.table.isNone, .notConfigured),
    (s.stop.estop != .armed, .estopActive),
    (s.pendant.site == .pendant, .sitePendant),
    (s.planner.state != .idle || headIsPerRev s || s.gear.held || s.gear.step == .ending, .busy)]

/-- A Gear Set taken in STOPPING, STROKE or PAUSE (R137). -/
def gearRetarget (t : GearTarget) (s : State) : State :=
  if s.gear.target == some t then s else retarget t .order s

/-- A Gear Set taken, by the step (R137). -/
def gearTargetTaken (t : GearTarget) (s : State) : State :=
  match s.gear.step with
  | .idle => if s.gear.gearbox == t.state then s else beginChange t .order s
  | .stopping => gearRetarget t s
  | .stroke => gearRetarget t s
  | .pause => gearRetarget t s
  | .ending => s

/-- The answer to Gear Set (R137). -/
def gearSetOrder (p : List Byte) (s : State) : Verdict :=
  judgeField [(p.length != 1, .badLength)] (gearTargetOf (byteAt p 0)) (gearSetRefusals s) fun t =>
    accepted (withOpportunity (gearTargetTaken t)) (fun u => .gear u.gear.gearbox u.gear.step) s

/-- GEAR_SET (R137). -/
def execGearSet (tag : Tag) (p : List Byte) (s : State) : Host.Outcome State Fault Refusal :=
  event (takeOrder 0x19 tag (gearSetOrder p)) s

/-- The table and the gear parameters are replaced; S_cmd and a BLOCKED TSC are judged with them (R121). -/
def loadGears (g : GearLoad) (s : State) : State :=
  coolantRejudge <|
    formSpeed
      { s with
        gear :=
          { s.gear with
            table := some g.table, autoRange := g.autoRange, creepSpeed := g.creepSpeed, retryLimit := g.retryLimit } }

/-- The answer to Set Gears (R121). -/
def setGearsOrder (p : List Byte) (s : State) : Verdict :=
  judgeField [(p.length != 27, .badLength)] (gearLoad p) (fun _ => [(s.gear.step != .idle, .busy)]) fun g =>
    accepted (loadGears g) (fun _ => .empty) s

/-- SET_GEARS (R121). -/
def execSetGears (tag : Tag) (p : List Byte) (s : State) : Host.Outcome State Fault Refusal :=
  event (takeOrder 0x22 tag (setGearsOrder p)) s

/-- motor_max, spindle_ramp and at_speed_tol are replaced, and dac_target formed anew (R105). -/
def loadSpindle (x : Nat × Nat × Nat) (s : State) : State :=
  formTarget { s with spindle := { s.spindle with motorMax := x.1, ramp := x.2.1, tolerance := x.2.2 } }

/-- The answer to Set Spindle Params (R105). -/
def setSpindleParamsOrder (p : List Byte) (s : State) : Verdict :=
  judgeField [(p.length != 4, .badLength)] (spindleParams p)
    (fun x => [(x.1 != s.spindle.motorMax && s.spindle.reference != 0, .busy)]) fun x =>
      accepted (loadSpindle x) (fun _ => .empty) s

/-- SET_SPINDLE_PARAMS (R105). -/
def execSetSpindleParams (tag : Tag) (p : List Byte) (s : State) : Host.Outcome State Fault Refusal :=
  event (takeOrder 0x23 tag (setSpindleParamsOrder p)) s

/-! ## The reference and the speed window -/

/-- One move of the reference toward its target by at most the ramp (R110). -/
def rampReference (ramp target reference : Nat) : Nat :=
  if target ≤ reference then reference - min ramp (reference - target) else reference + min ramp (target - reference)

/-- The reference update (R110). -/
def updateReference (s : State) : State :=
  if referenceRuns s then
    { s with
      spindle :=
        { s.spindle with reference := rampReference s.spindle.ramp s.spindle.dacTarget s.spindle.reference } }
  else s

/-- REFERENCE_UPDATE (R110). -/
def execReferenceUpdate (s : State) : Host.Outcome State Fault Refusal :=
  event (fun t => updateReference { t with clocks := { t.clocks with referenceUpdate := 10 } }) s

/-- SPINDLE_ENCODER_EDGE: one count of the window (R114). -/
def execSpindleEncoderEdge (clockwise : Bool) (s : State) : Host.Outcome State Fault Refusal :=
  event
    (fun t =>
      { t with
        spindle := { t.spindle with windowCount := t.spindle.windowCount + (if clockwise then 1 else -1) } })
    s

/-- S_meas of a window's count (R114). -/
def measuredSpeed (count : Int) : Nat := roundUp (count.natAbs * 600) 4096

/-- S_meas is renewed and the next window starts from 0 (R114). -/
def renewSpeed (p : Spindle) : Spindle := { p with sMeas := measuredSpeed p.windowCount, windowCount := 0 }

/-- The low-window count after a window (R115). -/
def nextLowCount (p : Spindle) : Nat := if p.sMeas ≤ 2 then min 2 (p.lowCount + 1) else 0

/-- Low-window count and STOPPED (R115). -/
def renewStopped (p : Spindle) : Spindle := { p with lowCount := nextLowCount p, stopped := nextLowCount p == 2 }

/-- AT_SPEED at a window end (R115). -/
def renewAtSpeed (p : Spindle) : Spindle := { p with atSpeed := atSpeedNow p }

/-- The stall condition of a window (R116). -/
def stallCondition (s : State) : Bool :=
  s.spindle.phase == .run && decide (0 < s.spindle.sCmd) && spindleEnable s && decide (s.spindle.sMeas ≤ 2)

/-- The stall check at a window end (R116). -/
def checkStall (s : State) : State :=
  if stallCondition s then
    if 29 ≤ s.spindle.stallCount then
      spindleFaultActions
        (raiseFault .spindleStall .absent { s with spindle := { s.spindle with stallCount := 30 } })
    else { s with spindle := { s.spindle with stallCount := s.spindle.stallCount + 1 } }
  else { s with spindle := { s.spindle with stallCount := 0 } }

/-- The reversal at the window end that sets STOPPED (R111). The rule has the reference ramp up from 0; a reference
that has not yet come down to 0 is left where it stands and ramps from there (DEDUCED, log 44). -/
def reverseIfStopped (s : State) : State :=
  if s.spindle.phase == .reversing && s.spindle.stopped then
    { s with
      spindle := withTarget s { s.spindle with directionOut := s.spindle.commandedDir, phase := .run } }
  else s

/-- A change in STOPPING plans its first stroke once STOPPED is set (R131). -/
def planIfStopped (s : State) : State :=
  if s.gear.step == .stopping && s.spindle.stopped then withOpportunity planFirst s else s

/-- The end of a speed window (R114, R115, R116, R111, R131, log 17). -/
def endWindow (s : State) : State :=
  planIfStopped <|
    reverseIfStopped <|
      checkStall { s with spindle := renewAtSpeed (renewStopped (renewSpeed s.spindle)) }

/-- SPEED_WINDOW_END (R115). -/
def execSpeedWindowEnd (s : State) : Host.Outcome State Fault Refusal :=
  event (fun t => endWindow { t with clocks := { t.clocks with speedWindow := 100 } }) s

/-! ## Inverter fault -/

/-- SPINDLE_FAULT with its actions (R117). -/
def inverterFaultActs (s : State) : State := spindleFaultActions (raiseFault .spindleFault .absent s)

/-- The inverter fault input changes (R117). -/
def inverterChange (active : Bool) (s : State) : State :=
  if s.spindle.inverterFault == active then s
  else
    (fun t => if active && t.stop.estop == .armed then inverterFaultActs t else t)
      (setCondition .spindleFault .absent active { s with spindle := { s.spindle with inverterFault := active } })

/-- INVERTER_FAULT_INPUT (R117). -/
def execInverterFaultInput (active : Bool) (s : State) : Host.Outcome State Fault Refusal :=
  event (inverterChange active) s

/-! ## Gear events -/

/-- What a changed fork switch means (R126, R90). -/
def forkSwitchMeans (k : ForkSwitch) (s : State) : State :=
  match s.gear.step with
  | .idle =>
    if s.gear.held then s
    else
      match s.gear.gearbox with
      | .range _ => gearSlip (ForkSwitch.fork k) s
      | .neutral => coolantRejudge (deriveState s)
      | .unknown => coolantRejudge (deriveState s)
      | .shifting => s
  | .stopping => s
  | .stroke => settleStrokes 32 s
  | .pause => s
  | .ending => settleStrokes 32 s

/-- A fork switch changes (R126). -/
def forkSwitchMoves (k : ForkSwitch) (closed : Bool) (s : State) : State :=
  if ForkSwitches.level s.gear.switches k == closed then s
  else
    forkSwitchMeans k
      { s with gear := { s.gear with switches := ForkSwitches.put s.gear.switches k closed } }

/-- FORK_SWITCH_CHANGE (R126). -/
def execForkSwitchChange (k : ForkSwitch) (closed : Bool) (s : State) : Host.Outcome State Fault Refusal :=
  event (forkSwitchMoves k closed) s

/-- An alternation of the creep (R133, R112). -/
def alternate (s : State) : State :=
  match s.gear.creep with
  | none => s
  | some c =>
    creepDrive (otherRotation c.direction)
      { s with gear := { s.gear with creep := some ⟨otherRotation c.direction, 250⟩ } }

/-- CREEP_ALTERNATION (R133). -/
def execCreepAlternation (s : State) : Host.Outcome State Fault Refusal := event alternate s

/-- The retry pause expires (R135). -/
def pauseExpires (s : State) : State :=
  match s.gear.pauseTimer with
  | none => s
  | some _ => withOpportunity pauseEnds s

/-- PAUSE_TIMER_EXPIRY (R135). -/
def execPauseTimerExpiry (s : State) : Host.Outcome State Fault Refusal := event pauseExpires s

end Sys2Proof.Machine
end

