-- ==== Sys2Proof/Machine/CoolantCommands.lean ====
section
/-! DEFINITION. The orders and events of the Coolant Unit (Section 8). -/

namespace Sys2Proof.Machine

/-- The checks of Coolant Set whose mode is known (R156). -/
def coolantSetRefusals (s : State) : List (Bool × RefuseCode) :=
  [(s.stop.estop != .armed, .estopActive),
    (s.pendant.site == .pendant, .sitePendant),
    (s.planner.state == .running || s.planner.state == .holding || s.planner.state == .aborting, .busy)]

/-- The answer to Coolant Set (R156). -/
def coolantSetOrder (p : List Byte) (s : State) : Verdict :=
  judgeField [(p.length != 1, .badLength), (asksMissingTsc s (byteAt p 0), .notFitted)]
    (coolantModeOf (byteAt p 0)) (fun _ => coolantSetRefusals s) fun m =>
      accepted (coolantRequest m) (fun t => .coolant t.coolant.flood t.coolant.tsc) s

/-- COOLANT_SET (R156, R145). -/
def execCoolantSet (tag : Tag) (p : List Byte) (s : State) : Host.Outcome State Fault Refusal :=
  event (takeOrder 0x1A tag (coolantSetOrder p)) s

/-- The union ceiling takes a new value while TSC is BUILDING or READY, and a BLOCKED TSC is judged again
(R143). -/
def unionChanged (s : State) : State := coolantRejudge (if tscPump s then formSpeed s else s)

/-- The five parameters are replaced; build run and loss count return to 0 (R143). -/
def loadCoolant (c : CoolantParams) (s : State) : State :=
  unionChanged
    { s with
      coolant :=
        { s.coolant with
          tscMin := c.tscMin
          buildLimit := c.buildLimit
          buildAction := c.buildAction
          purgeTime := c.purgeTime
          unionLimit := c.unionLimit
          buildRun := 0
          lossCount := 0 } }

/-- The answer to Set Coolant Params (R143). -/
def setCoolantParamsOrder (p : List Byte) (s : State) : Verdict :=
  judgeField [(p.length != 9, .badLength)] (coolantParams p) (fun _ => []) fun c =>
    accepted (loadCoolant c) (fun _ => .empty) s

/-- SET_COOLANT_PARAMS (R143). -/
def execSetCoolantParams (tag : Tag) (p : List Byte) (s : State) : Host.Outcome State Fault Refusal :=
  event (takeOrder 0x24 tag (setCoolantParamsOrder p)) s

/-! ## Pressure -/

/-- Sample pressure of a transducer code, in 0.1 bar (R144). -/
def samplePressure (code : BitVec 12) : Nat := roundUp (code.toNat * 1000) 4095

/-- A window with a sample at its tail and the oldest gone (R144). -/
def slide (window : List Nat) (x : Nat) : List Nat := window.drop 1 ++ [x]

/-- The filter takes a sample (R144). -/
def filterSample (x : Nat) (c : Coolant) : Coolant :=
  { c with lastSample := x, window := slide c.window x, filtered := (slide c.window x).sum / 8 }

/-- A sample in BUILDING (R147). -/
def buildSample (s : State) : State :=
  if s.coolant.filtered < s.coolant.tscMin then { s with coolant := { s.coolant with buildRun := 0 } }
  else if 29 ≤ s.coolant.buildRun then tscReady { s with coolant := { s.coolant with buildRun := 30 } }
  else { s with coolant := { s.coolant with buildRun := s.coolant.buildRun + 1 } }

/-- The loss level (R149). -/
def lossLevel (c : Coolant) : Nat := c.tscMin * 90 / 100

/-- A sample in READY (R149). -/
def lossSample (s : State) : State :=
  if lossLevel s.coolant ≤ s.coolant.filtered then { s with coolant := { s.coolant with lossCount := 0 } }
  else if 9 ≤ s.coolant.lossCount then pressureFault { s with coolant := { s.coolant with lossCount := 10 } }
  else { s with coolant := { s.coolant with lossCount := s.coolant.lossCount + 1 } }

/-- The sample's further use, by the TSC state (R144). -/
def useSample (s : State) : State :=
  match s.coolant.tsc with
  | .building => buildSample s
  | .ready => lossSample s
  | .off => s
  | .suspended => s
  | .blocked => s
  | .faulted => s
  | .purging => s

/-- PRESSURE_SAMPLE (R144). -/
def execPressureSample (code : BitVec 12) (s : State) : Host.Outcome State Fault Refusal :=
  event
    (fun t =>
      useSample
        { t with
          coolant := filterSample (samplePressure code) t.coolant
          clocks := { t.clocks with pressureSample := 10 } })
    s

/-! ## Timers and the tank -/

/-- The build timer expires (R148). -/
def buildExpires (s : State) : State :=
  match s.coolant.buildTimer with
  | none => s
  | some _ =>
    match s.coolant.buildAction with
    | .wait => { s with coolant := { s.coolant with buildTimer := none, late := true } }
    | .fault => pressureFault s

/-- BUILD_TIMER_EXPIRY (R148). -/
def execBuildTimerExpiry (s : State) : Host.Outcome State Fault Refusal := event buildExpires s

/-- The purge timer expires (R150). -/
def purgeExpires (s : State) : State :=
  match s.coolant.purgeTimer with
  | none => s
  | some _ => { s with coolant := { s.coolant with purgeTimer := none, tsc := .off } }

/-- PURGE_TIMER_EXPIRY (R150). -/
def execPurgeTimerExpiry (s : State) : Host.Outcome State Fault Refusal := event purgeExpires s

/-- Step 4 of R154. -/
def levelStopsTsc (s : State) : State :=
  match s.coolant.tsc with
  | .building => leaveTsc .faulted s
  | .ready => leaveTsc .faulted s
  | .suspended => leaveTsc .faulted s
  | .blocked => leaveTsc .faulted s
  | .off => s
  | .faulted => s
  | .purging => s

/-- Step 3 of R154. -/
def levelStopsFlood (s : State) : State :=
  { s with
    coolant := { s.coolant with flood := if s.coolant.flood == .on then .inhibited else s.coolant.flood } }

/-- The tank goes low (R154). -/
def tankGoesLow (s : State) : State :=
  raiseIf (s.planner.coolantWait || s.coolant.tsc == .ready) .coolant <|
    levelStopsTsc (levelStopsFlood (raiseFault .coolantLevel .absent s))

/-- The tank low switch changes (R154). -/
def tankChange (low : Bool) (s : State) : State :=
  if s.coolant.tankLow == low then s
  else if low then tankGoesLow { s with coolant := { s.coolant with tankLow := true } }
  else setCondition .coolantLevel .absent false { s with coolant := { s.coolant with tankLow := false } }

/-- TANK_LOW_SWITCH_CHANGE (R154). -/
def execTankLowSwitchChange (low : Bool) (s : State) : Host.Outcome State Fault Refusal := event (tankChange low) s

end Sys2Proof.Machine
end

