-- ==== Sys2Proof/Machine/AxisCommands.lean ====
section
/-! DEFINITION. The orders and events of the Axis Units and the Compensation Unit (Sections 1 and 4), with the
interpolation period. -/

namespace Sys2Proof.Machine

/-! ## Orders -/

/-- The axis and its mode after the order (R196). -/
def axisReply (a : Axis) (s : State) : AcceptPayload := .axisMode a (s.axis a).mode

/-- The planner is not IDLE or the queue is not empty (R1, R13, R16). -/
def plannerBusy (s : State) : Bool := s.planner.state != .idle || !s.planner.queue.isEmpty

/-- The axis is not at rest, has local motion or has a claim (R13, R16). -/
def axisBusy (s : State) (a : Axis) : Bool := !(s.axis a).lingerIdle

/-- The Reference order's direction is toward a latched end (R12, R13). -/
def towardLatch (u : AxisUnit) : Bool :=
  match u.params with
  | none => false
  | some p => u.latch p.refDirection

/-- The checks of Reference whose axis is known (R13). -/
def referenceRefusals (s : State) (a : Axis) : List (Bool × RefuseCode) :=
  [(!(s.axis a).configured, .notConfigured),
    (s.stop.estop != .armed, .estopActive),
    (s.pendant.site == .pendant, .sitePendant),
    (plannerBusy s || axisBusy s a || ((s.axis a).mode == .normal && !driveEnable s a), .busy),
    ((s.axis a).mode == .parked, .axisParked),
    (towardLatch (s.axis a), .outOfLimits)]

/-- A Reference order taken, by the mode (R13). -/
def takeReference (a : Axis) (s : State) : State :=
  match (s.axis a).params with
  | none => s
  | some p => if (s.axis a).mode == .loop then referenceLoop a p s else referenceNormal a s

/-- The answer to Reference (R13). -/
def referenceOrder (p : List Byte) (s : State) : Verdict :=
  judgeField [(p.length != 1, .badLength), (namesMissingB s (byteAt p 0), .notFitted)] (axisOf (byteAt p 0))
    (referenceRefusals s) fun a => accepted (takeReference a) (axisReply a) s

/-- REFERENCE (R13). -/
def execReference (tag : Tag) (p : List Byte) (s : State) : Host.Outcome State Fault Refusal :=
  event (takeOrder 0x1B tag (referenceOrder p)) s

/-- The checks of Park and Loop whose fields are in range; `conflict` is the mode with which the flag on does not
agree (R16). -/
def modeRefusals (conflict : Mode) (s : State) (x : Axis × Bool) : List (Bool × RefuseCode) :=
  [(!(s.axis x.1).configured, .notConfigured),
    (plannerBusy s || axisBusy s x.1 || (x.2 && (s.axis x.1).mode == conflict), .busy)]

/-- The mode change of an accepted Park (the table of R16). -/
def takePark (x : Axis × Bool) (s : State) : State :=
  match (s.axis x.1).mode, x.2 with
  | .normal, true => enterParked x.1 s
  | .parked, false => leaveParked x.1 s
  | .normal, false => s
  | .parked, true => s
  | .loop, _ => s

/-- The answer to Park (R16). -/
def parkOrder (p : List Byte) (s : State) : Verdict :=
  judgeField [(p.length != 2, .badLength), (namesMissingB s (byteAt p 0), .notFitted)] (axisFlag p)
    (modeRefusals .loop s) fun x => accepted (takePark x) (axisReply x.1) s

/-- PARK (R16, R17). -/
def execPark (tag : Tag) (p : List Byte) (s : State) : Host.Outcome State Fault Refusal :=
  event (takeOrder 0x1C tag (parkOrder p)) s

/-- The mode change of an accepted Loop (the table of R16). -/
def takeLoop (x : Axis × Bool) (s : State) : State :=
  match (s.axis x.1).mode, x.2 with
  | .normal, true => enterLoop x.1 s
  | .loop, false => leaveLoop x.1 s
  | .normal, false => s
  | .loop, true => s
  | .parked, _ => s

/-- The answer to Loop (R16). -/
def loopOrder (p : List Byte) (s : State) : Verdict :=
  judgeField [(p.length != 2, .badLength), (namesMissingB s (byteAt p 0), .notFitted)] (axisFlag p)
    (modeRefusals .parked s) fun x => accepted (takeLoop x) (axisReply x.1) s

/-- LOOP (R16, R18). -/
def execLoop (tag : Tag) (p : List Byte) (s : State) : Host.Outcome State Fault Refusal :=
  event (takeOrder 0x1D tag (loopOrder p)) s

/-- The answer to Set Axis (R1). -/
def setAxisOrder (p : List Byte) (s : State) : Verdict :=
  judgeField [(!setAxisLength p, .badLength), (namesMissingB s (byteAt p 0), .notFitted)] (setAxisOperand p)
    (fun x => [(setAxisBusy x.1 x.2 s, .busy)]) fun x => accepted (acceptAxis x.1 x.2) (axisReply x.1) s

/-- SET_AXIS (R1, R2). -/
def execSetAxis (tag : Tag) (p : List Byte) (s : State) : Host.Outcome State Fault Refusal :=
  event (takeOrder 0x20 tag (setAxisOrder p)) s

/-- The points after a chunk written from an index (R76). -/
def writePoints (points : List Int) (start : Nat) (chunk : List Int) : List Int :=
  points.take start ++ chunk ++ points.drop (start + chunk.length)

/-- The record after a Load Compensation (R76). -/
def CompRecord.load (c : CompRecord) (l : CompLoad) : CompRecord :=
  match l.window with
  | some (base, k) => { c with base := base, k := k, points := writePoints (List.replicate 129 0) 0 l.points }
  | none => { c with points := writePoints c.points l.start l.points }

/-- The highest point index a chunk wrote, 0 for no points (R76). -/
def CompLoad.highest (l : CompLoad) : Nat := l.start + l.points.length - 1

/-- The axis's table is locked (R75). -/
def tableLocked (u : AxisUnit) : Bool :=
  u.referenced || (u.mode == .loop && u.loopHeld == some true) || u.motion.isReference

/-- The ACCEPT payload of Load Compensation (R76). -/
def loadReply (l : CompLoad) (s : State) : AcceptPayload :=
  .compensation l.axis (s.compOf l.axis).base (s.compOf l.axis).k l.highest

/-- The answer to Load Compensation (R75). -/
def loadCompensationOrder (p : List Byte) (s : State) : Verdict :=
  judgeField [(p.length != loadLength p, .badLength), (namesMissingB s (byteAt p 0), .notFitted)] (compLoad p)
    (fun l => [(!(s.axis l.axis).configured, .notConfigured), (tableLocked (s.axis l.axis), .busy)])
    fun l => accepted (fun t => t.setComp l.axis ((t.compOf l.axis).load l)) (loadReply l) s

/-- LOAD_COMPENSATION (R75, R76). -/
def execLoadCompensation (tag : Tag) (p : List Byte) (s : State) : Host.Outcome State Fault Refusal :=
  event (takeOrder 0x21 tag (loadCompensationOrder p)) s

/-! ## Events -/

/-- INTERPOLATION_PERIOD (R27). -/
def execInterpolationPeriod (s : State) : Host.Outcome State Fault Refusal := event interpolate s

/-- An encoder count: up when A leads B, down otherwise; measured takes it in NORMAL and PARKED (R5). -/
def AxisUnit.counted (u : AxisUnit) (n : Int) : AxisUnit :=
  { u with encoder := u.encoder + n, measured := if u.mode == .loop then u.measured else u.measured + n }

/-- ENCODER_EDGE (R5). -/
def execEncoderEdge (a : Axis) (aLeads : Bool) (s : State) : Host.Outcome State Fault Refusal :=
  event (fun t => t.setAxis a ((t.axis a).counted (if aLeads then 1 else -1))) s

/-- A reference-mark pulse, acted on in MOVING of a reference run alone (R14). -/
def takeMark (a : Axis) (s : State) : State :=
  match (s.axis a).params with
  | none => s
  | some p => if (s.axis a).motion == .reference .moving then markSeen a p s else s

/-- REFERENCE_MARK (R14). -/
def execReferenceMark (a : Axis) (s : State) : Host.Outcome State Fault Refusal := event (takeMark a) s

/-- The drive-fault input is watched: a configured NORMAL axis (R9). -/
def driveFaultWatched (s : State) (a : Axis) : Bool := (s.axis a).configured && (s.axis a).mode == .normal

/-- The drive-fault input changes (R9). -/
def driveFaultChange (a : Axis) (active : Bool) (s : State) : State :=
  if (s.axis a).driveFault == active then s
  else
    (fun t => if active && driveFaultWatched t a then axisFault .driveFault a t else t)
      (setCondition .driveFault (.axis a) active (s.setAxis a { s.axis a with driveFault := active }))

/-- DRIVE_FAULT_INPUT (R9). -/
def execDriveFaultInput (a : Axis) (active : Bool) (s : State) : Host.Outcome State Fault Refusal :=
  event (driveFaultChange a active) s

/-- An overtravel switch changes (R11). -/
def overtravelChange (a : Axis) (d : Sign) (isOpen : Bool) (s : State) : State :=
  if (s.axis a).switchOpen d == isOpen then s
  else
    (fun t => if isOpen && (t.axis a).configured then overtravelOpens a d t else t)
      (setCondition .overtravel (.axisEnd a d) isOpen (s.setAxis a ((s.axis a).putSwitch d isOpen)))

/-- OVERTRAVEL_SWITCH_CHANGE (R11). -/
def execOvertravelSwitchChange (a : Axis) (d : Sign) (isOpen : Bool) (s : State) :
    Host.Outcome State Fault Refusal :=
  event (overtravelChange a d isOpen) s

end Sys2Proof.Machine
end

