-- ==== Sys2Proof/Machine/Hydraulics.lean ====
section
/-! DEFINITION. The order and the events of the Valve Bank (Section 5). -/

namespace Sys2Proof.Machine

/-- The three valve parameters are replaced; strokes already ACTIVE keep their limits (R86). -/
def loadValve (x : Nat × Nat × Nat) (s : State) : State :=
  { s with valve := { s.valve with bypassLimit := x.1, clampLimit := x.2.1, forkLimit := x.2.2 } }

/-- The answer to Set Valve Params (R86). -/
def setValveParamsOrder (p : List Byte) (s : State) : Verdict :=
  judgeField [(p.length != 5, .badLength)] (valveParams p) (fun _ => []) fun x =>
    accepted (loadValve x) (fun _ => .empty) s

/-- SET_VALVE_PARAMS (R86). -/
def execSetValveParams (tag : Tag) (p : List Byte) (s : State) : Host.Outcome State Fault Refusal :=
  event (takeOrder 0x25 tag (setValveParamsOrder p)) s

/-- CLAMP_SWITCH: the fault, the clamp in FAULT and the immediate stop (R99). -/
def clampSwitchFault (a : Axis) (s : State) : State :=
  immediateStop (setLinger a none (setClampState a .fault (raiseFault .clampSwitch (.axis a) s)))

/-- What a changed released switch means, by the clamp state (R99). -/
def clampSwitchMeans (a : Axis) (closed : Bool) (s : State) : State :=
  match (s.clamp a).state, closed with
  | .engaged, true => clampSwitchFault a s
  | .engaged, false => s
  | .released, false => clampSwitchFault a s
  | .released, true => s
  | .releasing, _ => settleStrokes 32 s
  | .engaging, _ => settleStrokes 32 s
  | .settling, false => setClampState a .engaged s
  | .settling, true => s
  | .releaseWait, _ => s
  | .engageWait, _ => s
  | .fault, _ => s

/-- A clamp released switch changes; it is watched while the clamp takes part (R93, R99). -/
def clampSwitchMoves (a : Axis) (closed : Bool) (s : State) : State :=
  if (s.clamp a).switchClosed == closed then s
  else
    (fun t => if clampTakesPart t a then clampSwitchMeans a closed t else t)
      (s.setClamp a { s.clamp a with switchClosed := closed })

/-- CLAMP_RELEASED_SWITCH_CHANGE (R99). -/
def execClampReleasedSwitchChange (a : Axis) (closed : Bool) (s : State) : Host.Outcome State Fault Refusal :=
  event (clampSwitchMoves a closed) s

/-- The ACTIVE request of a function. -/
def activeRequest (s : State) (f : ValveFunction) : Option Request :=
  s.valve.requests.find? fun r => r.isActive && r.stroke.function == f

/-- The time limit of a stroke expires (R85, R90). -/
def strokeTimesOut (f : ValveFunction) (s : State) : State :=
  match activeRequest s f with
  | none => s
  | some r => grantOpportunity (strokeEnds r.stroke false s)

/-- STROKE_TIMEOUT (R85). -/
def execStrokeTimeout (f : ValveFunction) (s : State) : Host.Outcome State Fault Refusal :=
  event (strokeTimesOut f) s

/-- A running linger timer expires (R97). -/
def lingerRunsOut (a : Axis) (s : State) : State :=
  match (s.clamp a).linger with
  | none => s
  | some _ => grantOpportunity (lingerExpires a s)

/-- LINGER_TIMER_EXPIRY (R97). -/
def execLingerTimerExpiry (a : Axis) (s : State) : Host.Outcome State Fault Refusal := event (lingerRunsOut a) s

/-- PRESSURE_OK changes (R92, R88, R186). -/
def pressureOkMoves (ok : Bool) (s : State) : State :=
  if s.valve.pressureOk == ok then s
  else
    (fun t => if ok then grantOpportunity t else t)
      (setCondition .hydraulicLow .absent (!ok) { s with valve := { s.valve with pressureOk := ok } })

/-- PRESSURE_OK_CHANGE (R92). -/
def execPressureOkChange (ok : Bool) (s : State) : Host.Outcome State Fault Refusal := event (pressureOkMoves ok) s

/-- The hydraulic wait timer expires (R92). -/
def hydraulicExpires (s : State) : State :=
  match s.valve.hydraulicWait with
  | none => s
  | some _ =>
    raiseFault .hydraulicLow .absent
      { s with valve := { s.valve with hydraulicWait := none, hydraulicExpired := true } }

/-- HYDRAULIC_WAIT_TIMER_EXPIRY (R92). -/
def execHydraulicWaitTimerExpiry (s : State) : Host.Outcome State Fault Refusal := event hydraulicExpires s

end Sys2Proof.Machine
end

