-- ==== Sys2Proof/Machine/PendantCommands.lean ====
section
/-! DEFINITION. The orders and events of the Pendant Unit (Section 9). -/

namespace Sys2Proof.Machine

/-- The answer to Set Overrides (R166). -/
def setOverridesOrder (p : List Byte) (s : State) : Verdict :=
  judgeField [(p.length != 2, .badLength)] (overrides p)
    (fun _ => [(s.pendant.link == .waiting || s.pendant.link == .online, .busy)]) fun x =>
      accepted (setOverrideValues x.1 x.2) (fun t => .overrides t.pendant.feedOverride t.pendant.spindleOverride) s

/-- SET_OVERRIDES (R166). -/
def execSetOverrides (tag : Tag) (p : List Byte) (s : State) : Host.Outcome State Fault Refusal :=
  event (takeOrder 0x26 tag (setOverridesOrder p)) s

/-- Both lines, the chunk index and, if given, hw_limit take effect (R177). -/
def loadText (t : PendantText) (s : State) : State :=
  { s with
    pendant :=
      { s.pendant with
        line1 := t.line1, line2 := t.line2, chunk := 0, hwLimit := t.hwLimit.getD s.pendant.hwLimit } }

/-- The answer to Set Pendant Text (R177). -/
def setPendantTextOrder (p : List Byte) (s : State) : Verdict :=
  judgeField [(p.length != textLength p, .badLength), (!s.link.straps.pendantFitted, .notFitted)] (pendantText p)
    (fun _ => []) fun t => accepted (loadText t) (fun _ => .empty) s

/-- SET_PENDANT_TEXT (R177). -/
def execSetPendantText (tag : Tag) (p : List Byte) (s : State) : Host.Outcome State Fault Refusal :=
  event (takeOrder 0x27 tag (setPendantTextOrder p)) s

/-- SCAN_REQUEST (R160, R176). -/
def execScanRequest (s : State) : Host.Outcome State Fault Refusal :=
  event (fun t => sendRequest { t with clocks := { t.clocks with scan := 10 } }) s

/-- PENDANT_REPLY (R161, R164). -/
def execPendantReply (bytes : List Byte) (fields : Option ScanReply) (s : State) :
    Host.Outcome State Fault Refusal :=
  event (replyArrives bytes fields) s

/-- REPLY_WINDOW_CLOSE (R161). -/
def execReplyWindowClose (s : State) : Host.Outcome State Fault Refusal := event windowCloses s

/-- CLIP_TIMER_EXPIRY (R171). -/
def execClipTimerExpiry (s : State) : Host.Outcome State Fault Refusal :=
  event (fun t => { t with pendant := { t.pendant with clipTimer := none } }) s

/-- FLASH_PHASE_TOGGLE (R159, R176). -/
def execFlashPhaseToggle (s : State) : Host.Outcome State Fault Refusal :=
  event
    (fun t =>
      { t with
        pendant := { t.pendant with flashLit := !t.pendant.flashLit }
        clocks := { t.clocks with flash := 250 } })
    s

end Sys2Proof.Machine
end

