-- ==== Sys2Proof/Machine/StopCommands.lean ====
section
/-! DEFINITION. The Stop and Fault Unit (Section 10): Clear Faults with the release of every block, the stop
channels and the discrepancy timer. -/

namespace Sys2Proof.Machine

/-! ## Clear Faults -/

/-- FAULT reports of removed entries, in list order (R188). -/
def reportRemoved (removed : List FaultEntry) (s : State) : State :=
  removed.foldl (fun t e => placeEvent (.fault .removed e) t) s

/-- The entries whose condition flag is clear (R188). -/
def clearable (s : State) : List FaultEntry := s.stop.faults.filter fun e => !e.condition

/-- Step 1 of Clear Faults (R188). -/
def removeCleared (s : State) : State :=
  reportRemoved (clearable s)
    { s with stop := { s.stop with faults := s.stop.faults.filter fun e => e.condition } }

/-- Step 2 of Clear Faults (R188). -/
def armChain (s : State) : State :=
  if s.stop.estop == .released then { s with stop := { s.stop with estop := .armed } } else s

/-- The latch of an end is cleared when its OVERTRAVEL entry was removed (R12, R189). -/
def releaseLatch (removed : List FaultEntry) (d : Sign) (a : Axis) (s : State) : State :=
  if removed.any fun e => e.isPair .overtravel (.axisEnd a d) then s.setAxis a ((s.axis a).putLatch d false) else s

/-- The condition causes leave the set where no entry of their codes is left (R38, R41). -/
def dropCauses (s : State) : State :=
  dropCause .pendantLost (dropCause .spindle (dropCause .gear (dropCause .clamp (dropCause .coolant s))))

/-- What the arming of the chain sets going: S_cmd, an active inverter fault input, a grant opportunity
(R106, R117, R88). -/
def armingActs (s : State) : State :=
  grantOpportunity ((fun t => if t.spindle.inverterFault then inverterFaultActs t else t) (formSpeed s))

/-- Step 3 of Clear Faults; `removed` and `armed` tell of steps 1 and 2 (R189, log 21). -/
def releaseBlocks (removed : List FaultEntry) (armed : Bool) (s : State) : State :=
  (fun t => if armed then armingActs t else t) <|
    coolantRelease <|
      releaseGearbox <|
        dropCauses <|
          eachAxis releaseClamp <|
            eachAxis (releaseLatch removed .minus) <| eachAxis (releaseLatch removed .plus) s

/-- Clear Faults (R188). -/
def clearAll (s : State) : State :=
  releaseBlocks (clearable s) (s.stop.estop == .released) (armChain (removeCleared s))

/-- The ACCEPT payload of Clear Faults: counts of step 1 and the state of step 2 (R188, log 21). -/
def clearReply (s : State) : AcceptPayload :=
  .cleared (clearable s).length (removeCleared s).stop.faults.length (armChain (removeCleared s)).stop.estop

/-- The answer to Clear Faults (R188). -/
def clearFaultsOrder (p : List Byte) (s : State) : Verdict := judgeEmpty p [] (.accept (clearAll s) (clearReply s))

/-- CLEAR_FAULTS (R188, R189). -/
def execClearFaults (tag : Tag) (p : List Byte) (s : State) : Host.Outcome State Fault Refusal :=
  event (takeOrder 0x2F tag (clearFaultsOrder p)) s

/-! ## Stop chain -/

/-- The discrepancy timer follows agreement and disagreement (R181). -/
def discrepancyTimer (before now : Bool) (timer : Option Nat) : Option Nat :=
  if now then (if before then timer else some 50) else none

/-- The levels are taken with the conditions and the timer that follow them (R179, R180, R181, R186). -/
def takeChannels (open1 open2 : Bool) (s : State) : State :=
  setCondition .estopDiscrepancy .absent (open1 != open2) <|
    setCondition .estop .absent (open1 || open2)
      { s with
        stop :=
          { s.stop with
            channel1Open := open1
            channel2Open := open2
            discrepancy := discrepancyTimer (channelsDisagree s) (open1 != open2) s.stop.discrepancy } }

/-- The E-stop state after the levels: a trip, or TRIPPED to RELEASED (R180). -/
def judgeChannels (s : State) : State :=
  match s.stop.estop with
  | .armed => if bothOpen s then trip .estop s else s
  | .released => if bothOpen s then trip .estop s else s
  | .tripped =>
    if !s.stop.channel1Open && !s.stop.channel2Open then { s with stop := { s.stop with estop := .released } } else s

/-- A channel opens or closes (R180, R181); unchanged levels are no event (log 4). -/
def channelsMove (open1 open2 : Bool) (s : State) : State :=
  if s.stop.channel1Open == open1 && s.stop.channel2Open == open2 then s
  else judgeChannels (takeChannels open1 open2 s)

/-- STOP_CHANNEL_CHANGE (R180). -/
def execStopChannelChange (open1 open2 : Bool) (s : State) : Host.Outcome State Fault Refusal :=
  event (channelsMove open1 open2) s

/-- The fault of an expired discrepancy and, in ARMED or RELEASED, the trip (R181). -/
def discrepancyActs (s : State) : State :=
  match s.stop.estop with
  | .armed => trip .estopDiscrepancy s
  | .released => trip .estopDiscrepancy s
  | .tripped => raiseFault .estopDiscrepancy .absent s

/-- The discrepancy timer expires (R181). -/
def discrepancyExpires (s : State) : State :=
  match s.stop.discrepancy with
  | none => s
  | some _ => discrepancyActs { s with stop := { s.stop with discrepancy := none } }

/-- DISCREPANCY_TIMER_EXPIRY (R181). -/
def execDiscrepancyTimerExpiry (s : State) : Host.Outcome State Fault Refusal := event discrepancyExpires s

end Sys2Proof.Machine
end

