-- ==== Sys2Proof/Machine/Reports.lean ====
section
/-! DEFINITION. Set Reporting and the queries: what the host reads of each block (R48, R84, R102, R120, R141,
R158, R178, R190, R200, R202, R203). -/

namespace Sys2Proof.Machine

/-! ## Set Reporting -/

/-- Set Reporting taken: a due report is discarded, the timer starts or stops (R200). -/
def takePeriod (period : Nat) (s : State) : State :=
  { s with
    link :=
      { s.link with
        period := period, due := false, positionTimer := if period == 0 then none else some period } }

/-- The answer to Set Reporting (R200). -/
def setReportingOrder (p : List Byte) (s : State) : Verdict :=
  judgeField [(p.length != 2, .badLength)] (reportPeriod p) (fun _ => []) fun n =>
    accepted (takePeriod n) (fun t => .period t.link.period) s

/-- SET_REPORTING (R200). -/
def execSetReporting (tag : Tag) (p : List Byte) (s : State) : Host.Outcome State Fault Refusal :=
  event (takeOrder 0x28 tag (setReportingOrder p)) s

/-! ## Get Status -/

/-- The head entry as reported (R48). -/
def headReport (s : State) : Option HeadReport :=
  s.planner.queue.head?.map fun e => ⟨e.tag, e.body.kind, s.planner.head⟩

/-- The Motion Planner's status (R48). -/
def plannerStatus (s : State) : PlannerStatus where
  state := s.planner.state
  causes := s.planner.causes
  displaced := s.planner.displaced
  coolantWait := s.planner.coolantWait
  entries := s.planner.queue.length
  freeSlots := freeSlots s
  head := headReport s

/-- The Valve Bank's status (R102). -/
def valveStatus (s : State) : ValveStatus where
  pressureOk := s.valve.pressureOk
  flowInUse := flowInUse s.valve.requests
  requests := s.valve.requests
  hydraulicWait := s.valve.hydraulicWait
  bypassLimit := s.valve.bypassLimit
  clampLimit := s.valve.clampLimit
  forkLimit := s.valve.forkLimit

/-- The Spindle Controller's status (R120). -/
def spindleStatus (s : State) : SpindleStatus where
  sProg := s.spindle.sProg
  commandedDir := s.spindle.commandedDir
  sCmd := s.spindle.sCmd
  phase := s.spindle.phase
  directionOut := s.spindle.directionOut
  dacTarget := s.spindle.dacTarget
  reference := s.spindle.reference
  sMeas := s.spindle.sMeas
  atSpeed := s.spindle.atSpeed
  stopped := s.spindle.stopped
  stoppedByOperator := s.spindle.stoppedByOperator
  speedClamped := s.spindle.speedClamped
  enable := spindleEnable s
  ceiling := unionCeiling s
  motorMax := s.spindle.motorMax
  ramp := s.spindle.ramp
  tolerance := s.spindle.tolerance

/-- The Gear Sequencer's status (R141). -/
def gearStatus (s : State) : GearStatus where
  gearbox := s.gear.gearbox
  held := s.gear.held
  forkA := readForkA s.gear.switches
  forkB := readForkB s.gear.switches
  step := s.gear.step
  target := s.gear.target
  owner := s.gear.owner
  stroke := s.gear.stroke
  attempts := s.gear.attempts
  pauseTimer := s.gear.pauseTimer
  creeping := s.gear.creep.isSome
  table := s.gear.table
  autoRange := s.gear.autoRange
  creepSpeed := s.gear.creepSpeed
  retryLimit := s.gear.retryLimit

/-- The Coolant Unit's status (R158). -/
def coolantStatus (s : State) : CoolantStatus where
  floodRequested := s.coolant.floodRequested
  tscRequested := s.coolant.tscRequested
  flood := s.coolant.flood
  tsc := s.coolant.tsc
  lastSample := s.coolant.lastSample
  filtered := s.coolant.filtered
  buildRun := s.coolant.buildRun
  lossCount := s.coolant.lossCount
  buildTimer := s.coolant.buildTimer
  purgeTimer := s.coolant.purgeTimer
  late := s.coolant.late
  levelInhibit := levelInhibit s
  tankLow := s.coolant.tankLow
  ceiling := unionCeiling s
  tscMin := s.coolant.tscMin
  buildLimit := s.coolant.buildLimit
  buildAction := s.coolant.buildAction
  purgeTime := s.coolant.purgeTime
  unionLimit := s.coolant.unionLimit

/-- The Pendant Unit's status (R178). -/
def pendantStatus (s : State) : PendantStatus where
  link := s.pendant.link
  misses := s.pendant.misses
  goodRun := s.pendant.goodRun
  lastGood := s.pendant.lastGood
  site := s.pendant.site
  withdrawing := s.pendant.withdrawing
  jogged := s.pendant.jogged
  goal := s.pendant.goal
  pendingDistance := pendingDistance s
  buttonJog := s.pendant.buttonJog
  buttonBlocked := s.pendant.buttonBlocked
  hwLimit := s.pendant.hwLimit
  clipTimer := s.pendant.clipTimer
  feedOverride := s.pendant.feedOverride
  spindleOverride := s.pendant.spindleOverride
  lamps := s.pendant.lamps
  line1 := s.pendant.line1
  line2 := s.pendant.line2

/-- The Stop and Fault Unit's status (R190). -/
def stopStatus (s : State) : StopStatus where
  estop := s.stop.estop
  channel1Open := s.stop.channel1Open
  channel2Open := s.stop.channel2Open
  discrepancy := s.stop.discrepancy

/-- The Link Unit's status (R202). -/
def linkStatus (s : State) : LinkStatus where
  straps := s.link.straps
  counters := s.link.counters
  skipCount := s.link.skipCount
  period := s.link.period
  due := s.link.due
  replies := s.link.replies.length
  events := s.link.events.length
  overflow := s.link.overflow
  statePending := s.link.statePending
  sequence := s.link.sequence

/-- The status a selector names (R202). -/
def statusOf (s : State) : Nat → Option AcceptPayload
  | 0 => some (.plannerStatus (plannerStatus s))
  | 1 => some (.valveStatus (valveStatus s))
  | 2 => some (.spindleStatus (spindleStatus s))
  | 3 => some (.gearStatus (gearStatus s))
  | 4 => some (.coolantStatus (coolantStatus s))
  | 5 => some (.pendantStatus (pendantStatus s))
  | 6 => some (.stopStatus (stopStatus s))
  | 7 => some (.linkStatus (linkStatus s))
  | _ => none

/-- The answer to Get Status (R202). -/
def getStatusOrder (p : List Byte) (s : State) : Verdict :=
  judgeField [(p.length != 1, .badLength)] (statusOf s (byteAt p 0)) (fun _ => []) fun r => .accept s r

/-- GET_STATUS (R202). -/
def execGetStatus (tag : Tag) (p : List Byte) (s : State) : Host.Outcome State Fault Refusal :=
  event (takeOrder 0x30 tag (getStatusOrder p)) s

/-! ## Get Axis, Get Faults, Get Ident -/

/-- The axis as Get Axis shows it: commanded, output and pitch are those of the last period (R84, R102, R203). -/
def axisStatus (s : State) (a : Axis) : AxisStatus where
  axis := a
  configured := (s.axis a).configured
  commanded := (s.axis a).seen.commanded
  output := (s.axis a).seen.output
  measured := (s.axis a).measured
  encoder := (s.axis a).encoder
  referenced := (s.axis a).referenced
  mode := (s.axis a).mode
  atRest := (s.axis a).atRest
  latchPlus := (s.axis a).latchPlus
  latchMinus := (s.axis a).latchMinus
  driveEnable := driveEnable s a
  claim := (s.axis a).claim
  motion := (s.axis a).motion
  velocity := (s.axis a).velocity
  loopHeld := (s.axis a).loopHeld
  clamp := (s.clamp a).state
  releasePending := (s.clamp a).releasePending
  linger := (s.clamp a).linger
  base := (s.compOf a).base
  k := (s.compOf a).k
  b := (s.compOf a).b
  direction := (s.compOf a).direction
  pitch := (s.axis a).seen.pitch
  params := (s.axis a).params

/-- The answer to Get Axis (R203). -/
def getAxisOrder (p : List Byte) (s : State) : Verdict :=
  judgeField [(p.length != 1, .badLength), (namesMissingB s (byteAt p 0), .notFitted)] (axisOf (byteAt p 0))
    (fun _ => []) fun a => .accept s (.axisStatus (axisStatus s a))

/-- GET_AXIS (R203). -/
def execGetAxis (tag : Tag) (p : List Byte) (s : State) : Host.Outcome State Fault Refusal :=
  event (takeOrder 0x31 tag (getAxisOrder p)) s

/-- The Get Faults reply: up to 24 entries from the start index (R203). -/
def faultsFrom (start : Nat) (s : State) : AcceptPayload :=
  .faults s.stop.partTime s.stop.faults.length start ((s.stop.faults.drop start).take 24)

/-- The answer to Get Faults (R203). -/
def getFaultsOrder (p : List Byte) (s : State) : Verdict :=
  judgeField [(p.length != 1, .badLength)] (within 0 63 (byteAt p 0)) (fun _ => []) fun n =>
    .accept s (faultsFrom n s)

/-- GET_FAULTS (R203). -/
def execGetFaults (tag : Tag) (p : List Byte) (s : State) : Host.Outcome State Fault Refusal :=
  event (takeOrder 0x32 tag (getFaultsOrder p)) s

/-- The Get Ident reply (R203). -/
def identOf (s : State) : AcceptPayload := .ident Config.vendorCode Config.partCode Config.revision s.link.straps

/-- The answer to Get Ident (R203). -/
def getIdentOrder (p : List Byte) (s : State) : Verdict := judgeEmpty p [] (.accept s (identOf s))

/-- GET_IDENT (R203). -/
def execGetIdent (tag : Tag) (p : List Byte) (s : State) : Host.Outcome State Fault Refusal :=
  event (takeOrder 0x33 tag (getIdentOrder p)) s

end Sys2Proof.Machine
end

