-- ==== Sys2Proof/Machine/Telegrams.lean ====
section
/-! DEFINITION. The telegrams of the host line as bytes (Section 11): the frame, the payload of every reply and report,
and the frame of the telegram the transmitter is sending. Where the spec gives a field of a payload no place or size,
the fields stand in the order of the rule that lists them, and where it gives a value no code, the byte is free
(log 38). -/

namespace Sys2Proof.Machine

/-! ## Frames (R204) -/

/-- SYNC (R204). -/
def sync : Byte := 0xA5#8

/-- The bytes the CRC covers: KIND, TAG, LEN, payload (R194). -/
def checkedBytes (kind tag0 tag1 len : Byte) (payload : List Byte) : List Byte :=
  kind :: tag0 :: tag1 :: len :: payload

/-- A tag from its two bytes, low byte first (R204). -/
def tagOf (tag0 tag1 : Byte) : Tag := tag1 ++ tag0

/-- The bytes of a telegram on the line, the CRC high byte first (R194, R204). -/
def frameBytes (kind : Byte) (tag : Tag) (payload : List Byte) : List Byte :=
  sync :: checkedBytes kind (tag.extractLsb' 0 8) (tag.extractLsb' 8 8) (BitVec.ofNat 8 payload.length) payload
    ++ [(crc16
            (checkedBytes kind (tag.extractLsb' 0 8) (tag.extractLsb' 8 8) (BitVec.ofNat 8 payload.length)
              payload)).extractLsb' 8 8,
        (crc16
            (checkedBytes kind (tag.extractLsb' 0 8) (tag.extractLsb' 8 8) (BitVec.ofNat 8 payload.length)
              payload)).extractLsb' 0 8]

/-- Refusal codes (R196). -/
def RefuseCode.byte : RefuseCode → Byte
  | .unknownKind => 0x01
  | .badLength => 0x02
  | .notFitted => 0x03
  | .badField => 0x04
  | .notConfigured => 0x05
  | .estopActive => 0x06
  | .sitePendant => 0x07
  | .busy => 0x08
  | .axisParked => 0x09
  | .notReferenced => 0x0A
  | .outOfLimits => 0x0B
  | .queueFull => 0x0C
  | .displaced => 0x0D

/-! ## Fields -/

/-- A flag byte (log 9). -/
def flagByte (b : Bool) : Byte := if b then 1 else 0

/-- Direction: 0 CW, 1 CCW. -/
def Rotation.byte : Rotation → Byte
  | .cw => 0
  | .ccw => 1

/-- Ranges 1 to 4. -/
def GearRange.byte : GearRange → Byte
  | .i => 1
  | .ii => 2
  | .iii => 3
  | .iv => 4

/-- Axis: 0 X, 1 Y, 2 Z, 3 W, 4 B. -/
def axisByte : Axis → Byte
  | .x => 0
  | .y => 1
  | .z => 2
  | .w => 3
  | .b => 4

/-- A row of Set Gears: min, max, num, den. -/
def rowBytes (r : RangeRow) : List Byte := leBytes 2 r.min ++ leBytes 2 r.max ++ leBytes 1 r.num ++ leBytes 1 r.den

/-- build_action: 0 WAIT, 1 FAULT (log 8). -/
def BuildAction.byte : BuildAction → Byte
  | .wait => 0
  | .fault => 1

/-- A value of a field whose codes the spec does not give (log 38). -/
def codeByte (field : Config.CodedField) (number : Nat) : List Byte := [Config.freeCode field number]

/-- A flag as a field of one byte. -/
def flagField (v : Bool) : List Byte := [flagByte v]

/-- A field that may be absent: a flag, and the value where it is present (log 38). -/
def optionField {α : Type} (f : α → List Byte) (v : Option α) : List Byte :=
  match v with
  | none => flagField false
  | some x => flagField true ++ f x

/-- A time remaining in ms (log 38). -/
def timeField (ms : Nat) : List Byte := leBytes 4 ms

/-- The limiter of a POSITION report (R204). -/
def Limiter.byte : Limiter → Byte
  | .feed => 0
  | .axis a => BitVec.ofNat 8 (axisNumber a + 1)
  | .absent => 255

/-- Five signed 4-byte positions in axis order. -/
def positionsBytes (p : PerAxis Int) : List Byte := (axesInOrder.map fun a => sleBytes 4 (p.get a)).flatten

/-! ### Codes the spec does not give -/

/-- The gearbox states, numbered. -/
def Gearbox.number : Gearbox → Nat
  | .neutral => 0
  | .range .i => 1
  | .range .ii => 2
  | .range .iii => 3
  | .range .iv => 4
  | .shifting => 5
  | .unknown => 6

/-- The gearbox state as a field. -/
def gearboxField (g : Gearbox) : List Byte := codeByte .gearbox g.number

/-- The fault qualifiers, numbered (R184). -/
def Qualifier.number : Qualifier → Nat
  | .absent => 0
  | .axis a => 1 + axisNumber a
  | .axisEnd a .plus => 6 + axisNumber a
  | .axisEnd a .minus => 11 + axisNumber a
  | .fork .a => 16
  | .fork .b => 17

/-- The local motions, numbered (R4). -/
def LocalMotion.number : LocalMotion → Nat
  | .idle => 0
  | .jog .clampWait => 1
  | .jog .moving => 2
  | .jog .stopping => 3
  | .reference .clampWait => 4
  | .reference .moving => 5
  | .reference .stopping => 6

/-- The valve functions, numbered (5.1). -/
def ValveFunction.number : ValveFunction → Nat
  | .clamp a => axisNumber a
  | .forkA => 5
  | .forkB => 6

/-- The actions of a stroke, numbered (R87). -/
def Stroke.number : Stroke → Nat
  | .release _ => 0
  | .engage _ => 1
  | .fork (.a .low) => 2
  | .fork (.a .neutral) => 3
  | .fork (.a .high) => 4
  | .fork (.b .one) => 5
  | .fork (.b .two) => 6

/-- The seven hold causes, a flag each, in the order of R38. -/
def causesField (c : CauseSet) : List Byte :=
  [flagByte c.operator, flagByte c.host, flagByte c.coolant, flagByte c.clamp, flagByte c.gear, flagByte c.spindle,
    flagByte c.pendantLost]

/-- A direction of motion: 0 for plus, 1 for minus, as ref_direction of Set Axis (log 8). -/
def signField : Sign → List Byte
  | .plus => [0]
  | .minus => [1]

/-! ## Reports -/

/-- The flags byte of a report: bit 0 is the overflow flag, bits 1 to 7 are 0 (R204). -/
def flagsByte (overflow : Bool) : Byte := if overflow then 1 else 0

/-- The ENTRY_DONE payload, 5 bytes: flags, entry tag, entry kind, outcome (R198, R204). -/
def entryDonePayload (overflow : Bool) (tag : Tag) (kind : EntryKind) (o : EntryOutcome) : List Byte :=
  flagsByte overflow :: leBytes 2 tag.toNat ++ codeByte .entryKind kind.ctorIdx ++ codeByte .outcome o.ctorIdx

/-- The FLUSHED payload (R198, R204). -/
def flushedPayload (overflow : Bool) (tags : List Tag) : List Byte :=
  flagsByte overflow :: BitVec.ofNat 8 tags.length :: (tags.map fun t => leBytes 2 t.toNat).flatten

/-- A fault qualifier: an axis is its axis value (R204); the codes of the others the spec does not give (log 38). -/
def qualifierField (q : Qualifier) : List Byte :=
  match q with
  | .axis a => [axisByte a]
  | .absent | .axisEnd _ _ | .fork _ => codeByte .qualifier q.number

/-- A fault list entry, 8 bytes: code, qualifier, first raised time, condition flag, repeat count (R190). -/
def faultField (e : FaultEntry) : List Byte :=
  codeByte .faultCode e.code.ctorIdx ++ qualifierField e.qualifier ++ leBytes 4 e.firstRaised.toNat
    ++ flagField e.condition ++ leBytes 1 e.repeats

/-- The FAULT payload, 10 bytes: flags, action, the entry (R190, R198, R204). -/
def faultPayload (overflow : Bool) (action : FaultAction) (e : FaultEntry) : List Byte :=
  flagsByte overflow :: codeByte .faultAction action.ctorIdx ++ faultField e

/-- The STATE payload: flags, and the fields of R199 in its order. -/
def statePayload (overflow : Bool) (r : StateReport) : List Byte :=
  flagsByte overflow :: codeByte .plannerState r.planner.ctorIdx ++ causesField r.causes ++ flagField r.displaced
    ++ gearboxField r.gearbox ++ leBytes 1 r.retries
    ++ axesInOrder.flatMap (fun a => codeByte .clampState ((r.clamps.get a).elim 0 fun c => c.ctorIdx + 1))
    ++ codeByte .flood r.flood.ctorIdx ++ codeByte .tsc r.tsc.ctorIdx ++ flagField r.late
    ++ codeByte .site r.site.ctorIdx ++ leBytes 1 r.feedOverride ++ leBytes 1 r.spindleOverride
    ++ codeByte .estop r.estop.ctorIdx ++ flagField r.speedClamped

/-- The POSITION payload, 55 bytes (R204). -/
def positionPayload (overflow : Bool) (r : PositionReport) : List Byte :=
  flagsByte overflow :: leBytes 4 r.partTime.toNat ++ positionsBytes r.commanded ++ positionsBytes r.measured
    ++ leBytes 4 r.v ++ [Limiter.byte r.limiter] ++ leBytes 2 r.sMeas ++ leBytes 2 r.skipCount.toNat ++ [0]

/-- The payload of an event report (R198). -/
def eventPayload (overflow : Bool) : EventReport → List Byte
  | .entryDone tag kind o => entryDonePayload overflow tag kind o
  | .flushed tags => flushedPayload overflow tags
  | .fault action e => faultPayload overflow action e

/-! ## Replies -/

/-- The REFUSE payload: refusal code and order KIND (R204). -/
def refusePayload (code : RefuseCode) (kind : Byte) : List Byte := [RefuseCode.byte code, kind]

/-- Get Status of the Motion Planner (R48). -/
def plannerField (r : PlannerStatus) : List Byte :=
  codeByte .plannerState r.state.ctorIdx ++ causesField r.causes ++ flagField r.displaced ++ flagField r.coolantWait
    ++ leBytes 1 r.entries ++ leBytes 1 r.freeSlots
    ++ optionField
        (fun h : HeadReport =>
          leBytes 2 h.tag.toNat ++ codeByte .entryKind h.kind.ctorIdx
            ++ codeByte .headState (h.state.elim 0 fun x => x.ctorIdx + 1))
        r.head

/-- A valve request: function, action, status, bypass count (R102). -/
def requestField (r : Request) : List Byte :=
  codeByte .valveFunction (ValveFunction.number r.stroke.function) ++ codeByte .strokeAction r.stroke.number
    ++ codeByte .requestStatus (if r.isActive then 1 else 0) ++ leBytes 1 r.bypass

/-- Get Status of the Valve Bank (R102). -/
def valveField (r : ValveStatus) : List Byte :=
  flagField r.pressureOk ++ leBytes 1 r.flowInUse ++ leBytes 1 r.requests.length ++ r.requests.flatMap requestField
    ++ optionField timeField r.hydraulicWait ++ leBytes 1 r.bypassLimit ++ leBytes 2 r.clampLimit
    ++ leBytes 2 r.forkLimit

/-- Get Status of the Spindle Controller (R120). -/
def spindleField (r : SpindleStatus) : List Byte :=
  leBytes 2 r.sProg ++ [Rotation.byte r.commandedDir] ++ leBytes 2 r.sCmd ++ codeByte .spindlePhase r.phase.ctorIdx
    ++ [Rotation.byte r.directionOut] ++ leBytes 2 r.dacTarget ++ leBytes 2 r.reference ++ leBytes 2 r.sMeas
    ++ flagField r.atSpeed ++ flagField r.stopped ++ flagField r.stoppedByOperator ++ flagField r.speedClamped
    ++ flagField r.enable ++ optionField (leBytes 2) r.ceiling ++ leBytes 2 r.motorMax ++ leBytes 1 r.ramp
    ++ leBytes 1 r.tolerance

/-- A target of a range change: 0 NEUTRAL, or 1 to 4, as in Gear Set. -/
def GearTarget.byte : GearTarget → Byte
  | .neutral => 0
  | .range r => r.byte

/-- The owner of a change: ORDER, or the entry's tag (R141). -/
def ownerField : Owner → List Byte
  | .order => codeByte .gearOwner 0 ++ leBytes 2 0
  | .entry tag => codeByte .gearOwner 1 ++ leBytes 2 tag.toNat

/-- Get Status of the Gear Sequencer (R141). -/
def gearField (r : GearStatus) : List Byte :=
  gearboxField r.gearbox ++ flagField r.held ++ codeByte .forkPosition (r.forkA.elim 0 fun p => p.ctorIdx + 1)
    ++ codeByte .forkPosition (r.forkB.elim 0 fun p => p.ctorIdx + 1) ++ codeByte .gearStep r.step.ctorIdx
    ++ optionField (fun t : GearTarget => [t.byte]) r.target ++ optionField ownerField r.owner
    ++ optionField (fun k => codeByte .strokeAction (Stroke.fork k).number) r.stroke ++ leBytes 1 r.attempts
    ++ optionField timeField r.pauseTimer ++ flagField r.creeping
    ++ optionField (fun t : GearTable => rowBytes t.i ++ rowBytes t.ii ++ rowBytes t.iii ++ rowBytes t.iv) r.table
    ++ flagField r.autoRange ++ leBytes 1 r.creepSpeed ++ leBytes 1 r.retryLimit

/-- Get Status of the Coolant Unit (R158). -/
def coolantField (r : CoolantStatus) : List Byte :=
  flagField r.floodRequested ++ flagField r.tscRequested ++ codeByte .flood r.flood.ctorIdx
    ++ codeByte .tsc r.tsc.ctorIdx ++ leBytes 2 r.lastSample ++ leBytes 2 r.filtered ++ leBytes 1 r.buildRun
    ++ leBytes 1 r.lossCount ++ optionField timeField r.buildTimer ++ optionField timeField r.purgeTimer
    ++ flagField r.late ++ flagField r.levelInhibit ++ flagField r.tankLow ++ optionField (leBytes 2) r.ceiling
    ++ leBytes 2 r.tscMin ++ leBytes 2 r.buildLimit ++ [BuildAction.byte r.buildAction] ++ leBytes 2 r.purgeTime
    ++ leBytes 2 r.unionLimit

/-- The axis selector: an axis is its axis value (R204); the code of OFF the spec does not give (log 38). -/
def selectorField (selector : Option Axis) : List Byte :=
  match selector with
  | some a => [axisByte a]
  | none => codeByte .selector 0

/-- The last good reply (R178). -/
def replyField (r : ScanReply) : List Byte :=
  [r.counter] ++ selectorField r.selector
    ++ codeByte .increment r.increment.ctorIdx ++ leBytes 1 r.feedKnob.val ++ leBytes 1 r.spindleKnob.val
    ++ [flagByte r.buttons.cycleStart, flagByte r.buttons.feedHold, flagByte r.buttons.spindleStop,
        flagByte r.buttons.coolant, flagByte r.buttons.jogPlus, flagByte r.buttons.jogMinus]
    ++ codeByte .enabling r.enabling.ctorIdx ++ flagField r.mirror1 ++ flagField r.mirror2

/-- The six lamps, a flag each, in the order of R176. -/
def lampsField (l : Lamps) : List Byte :=
  [flagByte l.hold, flagByte l.spindle, flagByte l.coolant, flagByte l.fault, flagByte l.clip, flagByte l.site]

/-- Get Status of the Pendant Unit (R178). -/
def pendantField (r : PendantStatus) : List Byte :=
  codeByte .pendantLink r.link.ctorIdx ++ leBytes 1 r.misses ++ leBytes 1 r.goodRun ++ optionField replyField r.lastGood
    ++ codeByte .site r.site.ctorIdx ++ flagField r.withdrawing
    ++ optionField (fun a => [axisByte a]) r.jogged ++ optionField (sleBytes 4) r.goal ++ sleBytes 4 r.pendingDistance
    ++ codeByte .buttonJog r.buttonJog.ctorIdx ++ flagField r.buttonBlocked ++ leBytes 4 r.hwLimit
    ++ optionField timeField r.clipTimer ++ leBytes 1 r.feedOverride ++ leBytes 1 r.spindleOverride
    ++ lampsField r.lamps ++ r.line1 ++ r.line2

/-- Get Status of the Stop and Fault Unit (R190). -/
def stopField (r : StopStatus) : List Byte :=
  codeByte .estop r.estop.ctorIdx ++ flagField r.channel1Open ++ flagField r.channel2Open
    ++ optionField timeField r.discrepancy

/-- The latched straps (R192, R203). -/
def strapsField (p : Straps) : List Byte :=
  leBytes 1 p.linkRate.val ++ flagField p.pendantFitted ++ flagField p.bFitted ++ flagField p.tscFitted

/-- The seven counters (R195). -/
def countersField (c : Counters) : List Byte :=
  [c.skipped, c.framing, c.length, c.gap, c.crc, c.overrun, c.dropped].flatMap fun n => leBytes 2 n.toNat

/-- Get Status of the Link Unit (R202). -/
def linkField (r : LinkStatus) : List Byte :=
  strapsField r.straps ++ countersField r.counters ++ leBytes 2 r.skipCount.toNat ++ leBytes 2 r.period
    ++ flagField r.due ++ leBytes 1 r.replies ++ leBytes 1 r.events ++ flagField r.overflow
    ++ flagField r.statePending ++ leBytes 2 r.sequence.toNat

/-- The parameter record, in the order and sizes of Set Axis (R203, R204, log 8). -/
def paramsField (p : AxisParams) : List Byte :=
  sleBytes 4 p.softMin ++ sleBytes 4 p.softMax ++ leBytes 2 p.vmax ++ leBytes 2 p.accel ++ leBytes 2 p.jogFeed
    ++ signField p.refDirection ++ leBytes 2 p.refSearchFeed ++ sleBytes 4 p.refValue ++ leBytes 4 p.refSearchDistance
    ++ leBytes 2 p.feLimit ++ leBytes 1 p.backlash ++ leBytes 1 p.backlashRate ++ flagField p.clampFitted
    ++ leBytes 2 p.clampLinger

/-- Get Axis: the axis state record of 1.2, the clamp's fields, the compensation fields, and the parameter record of a
configured axis (R84, R102, R203). -/
def axisField (r : AxisStatus) : List Byte :=
  [axisByte r.axis] ++ flagField r.configured ++ sleBytes 4 r.commanded ++ sleBytes 4 r.output ++ sleBytes 4 r.measured
    ++ sleBytes 4 r.encoder ++ flagField r.referenced ++ codeByte .axisMode r.mode.ctorIdx ++ flagField r.atRest
    ++ flagField r.latchPlus ++ flagField r.latchMinus ++ flagField r.driveEnable ++ flagField r.claim
    ++ codeByte .motion r.motion.number ++ leBytes 4 r.velocity ++ optionField flagField r.loopHeld
    ++ codeByte .clampState (r.clamp.ctorIdx + 1) ++ flagField r.releasePending ++ optionField timeField r.linger
    ++ sleBytes 4 r.base ++ leBytes 1 r.k ++ leBytes 1 r.b ++ signField r.direction ++ sleBytes 4 r.pitch
    ++ optionField paramsField r.params

/-- The payload of an ACCEPT: the catalogue of R196. -/
def acceptPayload : AcceptPayload → List Byte
  | .empty => []
  | .freeSlots n => leBytes 1 n
  | .planner st => codeByte .plannerState st.ctorIdx
  | .axisMode a m => [axisByte a] ++ codeByte .axisMode m.ctorIdx
  | .compensation a base k highest => [axisByte a] ++ sleBytes 4 base ++ leBytes 1 k ++ leBytes 1 highest
  | .spindle sCmd g => leBytes 2 sCmd ++ gearboxField g
  | .gear g st => gearboxField g ++ codeByte .gearStep st.ctorIdx
  | .coolant f t => codeByte .flood f.ctorIdx ++ codeByte .tsc t.ctorIdx
  | .overrides feed spindle => leBytes 1 feed ++ leBytes 1 spindle
  | .cleared removed remaining e => leBytes 1 removed ++ leBytes 1 remaining ++ codeByte .estop e.ctorIdx
  | .period ms => leBytes 2 ms
  | .plannerStatus r => plannerField r
  | .valveStatus r => valveField r
  | .spindleStatus r => spindleField r
  | .gearStatus r => gearField r
  | .coolantStatus r => coolantField r
  | .pendantStatus r => pendantField r
  | .stopStatus r => stopField r
  | .linkStatus r => linkField r
  | .axisStatus r => axisField r
  | .faults partTime entries start shown =>
    leBytes 4 partTime.toNat ++ leBytes 1 entries ++ leBytes 1 start ++ shown.flatMap faultField
  | .ident vendor part revision straps =>
    leBytes 2 vendor ++ leBytes 2 part ++ leBytes 1 revision ++ strapsField straps

/-! ## What the part sends -/

/-- KIND of a telegram the part sends (R204). -/
def Outgoing.kind : Outgoing → Byte
  | .reply (.accept _ _) => 0x80
  | .reply (.refuse _ _ _) => 0x81
  | .event _ _ (.entryDone _ _ _) => 0xC0
  | .event _ _ (.flushed _) => 0xC1
  | .event _ _ (.fault _ _) => 0xC2
  | .state _ _ _ => 0xC3
  | .position _ _ _ => 0xC4

/-- TAG of a telegram the part sends: the order's tag, or the report sequence number (R198). -/
def Outgoing.tag : Outgoing → Tag
  | .reply (.accept t _) => t
  | .reply (.refuse t _ _) => t
  | .event n _ _ => n
  | .state n _ _ => n
  | .position n _ _ => n

/-- Payload of a telegram the part sends (R196, R198, R204). -/
def Outgoing.payload : Outgoing → List Byte
  | .reply (.accept _ r) => acceptPayload r
  | .reply (.refuse _ code kind) => refusePayload code kind
  | .event _ overflow r => eventPayload overflow r
  | .state _ overflow r => statePayload overflow r
  | .position _ overflow r => positionPayload overflow r

/-- The bytes of a telegram the part sends, with the CRC the part forms over it (R194, R204). -/
def Outgoing.frame (o : Outgoing) : List Byte := frameBytes o.kind o.tag o.payload

/-- The bytes on the host line: those of the telegram being sent (R194, R201). -/
def lineBytes (s : State) : List Byte :=
  match s.link.sending with
  | none => []
  | some o => o.frame

end Sys2Proof.Machine
end

