-- ==== Sys2Proof/Machine/LinkLine.lean ====
section
/-! DEFINITION. The Link Unit's line (Section 11): the receive framer, dispatch by KIND, the end of a transmission
and the POSITION timer. -/

namespace Sys2Proof.Machine

/-! ## Dispatch -/

/-- The owner of an order by its KIND (R196, the table of 11.6). -/
def ownerOf (kind : Byte) (tag : Tag) (p : List Byte) : State → Verdict :=
  match kind.toNat with
  | 0x01 => queueMoveOrder tag p
  | 0x02 => queueDwellOrder tag p
  | 0x03 => queueSpindleOrder tag p
  | 0x04 => queueCoolantOrder tag p
  | 0x05 => queueMarkOrder tag p
  | 0x06 => queueEndOrder tag p
  | 0x10 => startOrder p
  | 0x11 => holdOrder p
  | 0x12 => abortOrder p
  | 0x18 => spindleSetOrder p
  | 0x19 => gearSetOrder p
  | 0x1A => coolantSetOrder p
  | 0x1B => referenceOrder p
  | 0x1C => parkOrder p
  | 0x1D => loopOrder p
  | 0x20 => setAxisOrder p
  | 0x21 => loadCompensationOrder p
  | 0x22 => setGearsOrder p
  | 0x23 => setSpindleParamsOrder p
  | 0x24 => setCoolantParamsOrder p
  | 0x25 => setValveParamsOrder p
  | 0x26 => setOverridesOrder p
  | 0x27 => setPendantTextOrder p
  | 0x28 => setReportingOrder p
  | 0x2F => clearFaultsOrder p
  | 0x30 => getStatusOrder p
  | 0x31 => getAxisOrder p
  | 0x32 => getFaultsOrder p
  | 0x33 => getIdentOrder p
  | _ => fun _ => .refuse .unknownKind

/-- A well-framed telegram: the overrun test and the dispatch (R196, R197). -/
def takeTelegram (kind : Byte) (tag : Tag) (p : List Byte) (s : State) : State :=
  takeOrder kind tag (ownerOf kind tag p) s

/-- UNKNOWN_KIND_TELEGRAM (R196, log 36). -/
def execUnknownKindTelegram (kind : Byte) (tag : Tag) (p : List Byte) (s : State) :
    Host.Outcome State Fault Refusal :=
  event (takeTelegram kind tag p) s

/-! ## Reception -/

/-- The framer holds bytes and the gap timer restarts with 2 ms (R193). -/
def holdBytes (f : Framer) (s : State) : State := { s with link := { s.link with framer := f, gapTimer := some 2 } }

/-- The framer returns to HUNT and the gap timer stops (R193). -/
def hunt (s : State) : State := { s with link := { s.link with framer := .hunt, gapTimer := none } }

/-- The counters take new values. -/
def bump (f : Counters → Counters) (s : State) : State := { s with link := { s.link with counters := f s.link.counters } }

/-- The LEN byte (R193). -/
def takeLen (kind tag0 tag1 len : Byte) (s : State) : State :=
  if 240 < len.toNat then hunt (bump (fun c => { c with length := c.length + 1 }) s)
  else if len.toNat == 0 then holdBytes (.check kind tag0 tag1 len [] none) s
  else holdBytes (.payload kind tag0 tag1 len []) s

/-- The second CRC byte (R193, R194). -/
def takeCheck (kind tag0 tag1 len : Byte) (payload : List Byte) (high low : Byte) (s : State) : State :=
  if crc16 (checkedBytes kind tag0 tag1 len payload) == high ++ low then
    takeTelegram kind (tagOf tag0 tag1) payload (hunt s)
  else hunt (bump (fun c => { c with crc := c.crc + 1 }) s)

/-- A received byte taken by the framer's state (the table of R193). -/
def takeByte (x : Byte) (s : State) : State :=
  match s.link.framer with
  | .hunt => if x == sync then holdBytes (.header []) s else bump (fun c => { c with skipped := c.skipped + 1 }) s
  | .header [kind, tag0, tag1] => takeLen kind tag0 tag1 x s
  | .header held => holdBytes (.header (held ++ [x])) s
  | .payload kind tag0 tag1 len held =>
    if len.toNat ≤ held.length + 1 then holdBytes (.check kind tag0 tag1 len (held ++ [x]) none) s
    else holdBytes (.payload kind tag0 tag1 len (held ++ [x])) s
  | .check kind tag0 tag1 len held none => holdBytes (.check kind tag0 tag1 len held (some x)) s
  | .check kind tag0 tag1 len held (some high) => takeCheck kind tag0 tag1 len held high x s

/-- A byte on the host line; a stop bit low is a framing error (R192). -/
def byteArrives (x : Byte) (stopBit : Bool) (s : State) : State :=
  if stopBit then takeByte x s else bump (fun c => { c with framing := c.framing + 1 }) s

/-- BYTE_RECEIVED (R193). -/
def execByteReceived (x : Byte) (stopBit : Bool) (s : State) : Host.Outcome State Fault Refusal :=
  event (byteArrives x stopBit) s

/-- The gap timer expires (R193). -/
def gapExpires (s : State) : State :=
  match s.link.gapTimer with
  | none => s
  | some _ => hunt (bump (fun c => { c with gap := c.gap + 1 }) s)

/-- GAP_TIMER_EXPIRY (R193). -/
def execGapTimerExpiry (s : State) : Host.Outcome State Fault Refusal := event gapExpires s

/-! ## Transmission -/

/-- TELEGRAM_SENT: the transmitter becomes idle, and the end of the event chooses what begins (R201). -/
def execTelegramSent (s : State) : Host.Outcome State Fault Refusal :=
  event (fun t => { t with link := { t.link with sending := none } }) s

/-- The POSITION timer expires (R200). -/
def positionExpires (s : State) : State :=
  match s.link.positionTimer with
  | none => s
  | some _ =>
    { s with
      link :=
        { s.link with
          positionTimer := some s.link.period
          due := true
          skipCount := if s.link.due then s.link.skipCount + 1 else s.link.skipCount } }

/-- POSITION_TIMER_EXPIRY (R200). -/
def execPositionTimerExpiry (s : State) : Host.Outcome State Fault Refusal := event positionExpires s

end Sys2Proof.Machine
end

