-- ==== Sys2Proof/Machine/Reset.lean ====
section
/-! DEFINITION. The power-on reset (00 "Time and reset", R3, R23, R71, R92, R93, R104, R124, R142, R154, R159,
R179, R184, R192) and the passing of a millisecond (log 2). -/

namespace Sys2Proof.Machine

/-! ## Power-on reset -/

/-- A clamp at the reset, from its switch (R93). -/
def clampAtReset (closed : Bool) : Clamp := ⟨derivedClamp closed, false, none, closed⟩

/-- The gear record after a reset, from the switches (R121, R124, R130). -/
def gearAtReset (w : ForkSwitches) : GearSequencer where
  table := none
  autoRange := true
  creepSpeed := 30
  retryLimit := 3
  switches := w
  gearbox := deriveGearbox w
  held := false
  step := .idle
  target := none
  owner := none
  stroke := none
  engaging := false
  attempts := 0
  pauseTimer := none
  creep := none
  deferred := none

/-- The stop chain after a reset, from the channels, before any raise (R179, R187). -/
def stopAtReset (open1 open2 : Bool) : StopUnit where
  channel1Open := open1
  channel2Open := open2
  estop := if open1 || open2 then .tripped else .released
  discrepancy := if open1 != open2 then some 50 else none
  faults := []
  partTime := 0

/-- Every block at its power-on values, before the raises of the reset event. -/
def resetState (i : ResetInputs) (waiting : List Instr) : State where
  link := .afterReset ⟨i.linkRate, i.pendantFitted, i.bFitted, i.tscFitted⟩
  planner := .afterReset
  axes := .of fun a => .afterReset (i.plusOpen.get a) (i.minusOpen.get a) (i.driveFault.get a)
  comp := .all .afterReset
  clamps := .of fun a => clampAtReset (i.clampClosed.get a)
  valve := ⟨2, 2000, 2000, [], i.pressureOk, none, false⟩
  spindle := .afterReset i.inverterFault
  gear := gearAtReset i.forks
  coolant := .afterReset i.tankLow
  pendant := .afterReset i.pendantFitted
  stop := stopAtReset i.channel1Open i.channel2Open
  clocks := .afterReset
  pending := waiting

/-- The raises of the reset event: ESTOP, then COOLANT_LEVEL (R179, R154, R184). -/
def raiseAtReset (i : ResetInputs) (s : State) : State :=
  doIf i.tankLow (raiseFault .coolantLevel .absent)
    (doIf (i.channel1Open && i.channel2Open) (raiseFault .estop .absent) s)

/-- The part after a power-on reset; the commands that wait stay in the model's queue. -/
def powerOn (i : ResetInputs) (waiting : List Instr) : State := raiseAtReset i (resetState i waiting)

/-- POWER_ON_RESET: the only reset. The transmitter stays idle at this event (log 6). -/
def execPowerOnReset (i : ResetInputs) (s : State) : Host.Outcome State Fault Refusal := .next (powerOn i s.pending)

/-- The inputs that `State.reset` reads (log 5). -/
def defaultInputs : ResetInputs where
  linkRate := 0
  pendantFitted := true
  bFitted := true
  tscFitted := true
  channel1Open := false
  channel2Open := false
  clampClosed := .all false
  forks := ⟨false, true, false, true, false⟩
  pressureOk := true
  tankLow := false
  plusOpen := .all false
  minusOpen := .all false
  driveFault := .all false
  inverterFault := false

/-! ## A millisecond -/

/-- A running timer loses a millisecond, down to 0. -/
def tickTimer (t : Option Nat) : Option Nat := t.map fun n => n - 1

/-- What is left of an ACTIVE stroke. -/
def RequestStatus.tick : RequestStatus → RequestStatus
  | .waiting => .waiting
  | .active n => .active (n - 1)

/-- Part time and every running timer move on by a millisecond; what a timer's end does comes with its own
command (R187, log 2, log 3). -/
def tick (s : State) : State :=
  { s with
    link := { s.link with gapTimer := tickTimer s.link.gapTimer, positionTimer := tickTimer s.link.positionTimer }
    clamps := s.clamps.map fun c => { c with linger := tickTimer c.linger }
    valve :=
      { s.valve with
        requests := s.valve.requests.map fun r => { r with status := r.status.tick }
        hydraulicWait := tickTimer s.valve.hydraulicWait }
    gear :=
      { s.gear with
        pauseTimer := tickTimer s.gear.pauseTimer
        creep := s.gear.creep.map fun c => { c with timer := c.timer - 1 } }
    coolant :=
      { s.coolant with
        buildTimer := tickTimer s.coolant.buildTimer, purgeTimer := tickTimer s.coolant.purgeTimer }
    pendant :=
      { s.pendant with window := tickTimer s.pendant.window, clipTimer := tickTimer s.pendant.clipTimer }
    stop :=
      { s.stop with partTime := s.stop.partTime + 1, discrepancy := tickTimer s.stop.discrepancy }
    clocks :=
      { interpolation := s.clocks.interpolation - 1
        referenceUpdate := s.clocks.referenceUpdate - 1
        speedWindow := s.clocks.speedWindow - 1
        pressureSample := s.clocks.pressureSample - 1
        scan := s.clocks.scan - 1
        flash := s.clocks.flash - 1 } }

end Sys2Proof.Machine
end

