-- ==== Sys2Proof/Machine/Dispatch.lean ====
section
/-! DEFINITION. One arm per command. -/

namespace Sys2Proof.Machine

def exec (i : Instr) (s : State) : Host.Outcome State Fault Refusal :=
  match i with
  | .powerOnReset inputs => Sys2Proof.Machine.execPowerOnReset inputs s
  | .byteReceived byte stopBit => Sys2Proof.Machine.execByteReceived byte stopBit s
  | .gapTimerExpiry => Sys2Proof.Machine.execGapTimerExpiry s
  | .unknownKindTelegram kind tag payload => Sys2Proof.Machine.execUnknownKindTelegram kind tag payload s
  | .queueMove tag payload => Sys2Proof.Machine.execQueueMove tag payload s
  | .queueDwell tag payload => Sys2Proof.Machine.execQueueDwell tag payload s
  | .queueSpindle tag payload => Sys2Proof.Machine.execQueueSpindle tag payload s
  | .queueCoolant tag payload => Sys2Proof.Machine.execQueueCoolant tag payload s
  | .queueMark tag payload => Sys2Proof.Machine.execQueueMark tag payload s
  | .queueEnd tag payload => Sys2Proof.Machine.execQueueEnd tag payload s
  | .start tag payload => Sys2Proof.Machine.execStart tag payload s
  | .hold tag payload => Sys2Proof.Machine.execHold tag payload s
  | .abort tag payload => Sys2Proof.Machine.execAbort tag payload s
  | .spindleSet tag payload => Sys2Proof.Machine.execSpindleSet tag payload s
  | .gearSet tag payload => Sys2Proof.Machine.execGearSet tag payload s
  | .coolantSet tag payload => Sys2Proof.Machine.execCoolantSet tag payload s
  | .reference tag payload => Sys2Proof.Machine.execReference tag payload s
  | .park tag payload => Sys2Proof.Machine.execPark tag payload s
  | .loop tag payload => Sys2Proof.Machine.execLoop tag payload s
  | .setAxis tag payload => Sys2Proof.Machine.execSetAxis tag payload s
  | .loadCompensation tag payload => Sys2Proof.Machine.execLoadCompensation tag payload s
  | .setValveParams tag payload => Sys2Proof.Machine.execSetValveParams tag payload s
  | .setSpindleParams tag payload => Sys2Proof.Machine.execSetSpindleParams tag payload s
  | .setGears tag payload => Sys2Proof.Machine.execSetGears tag payload s
  | .setCoolantParams tag payload => Sys2Proof.Machine.execSetCoolantParams tag payload s
  | .setOverrides tag payload => Sys2Proof.Machine.execSetOverrides tag payload s
  | .setPendantText tag payload => Sys2Proof.Machine.execSetPendantText tag payload s
  | .setReporting tag payload => Sys2Proof.Machine.execSetReporting tag payload s
  | .clearFaults tag payload => Sys2Proof.Machine.execClearFaults tag payload s
  | .getStatus tag payload => Sys2Proof.Machine.execGetStatus tag payload s
  | .getAxis tag payload => Sys2Proof.Machine.execGetAxis tag payload s
  | .getFaults tag payload => Sys2Proof.Machine.execGetFaults tag payload s
  | .getIdent tag payload => Sys2Proof.Machine.execGetIdent tag payload s
  | .telegramSent => Sys2Proof.Machine.execTelegramSent s
  | .positionTimerExpiry => Sys2Proof.Machine.execPositionTimerExpiry s
  | .interpolationPeriod => Sys2Proof.Machine.execInterpolationPeriod s
  | .encoderEdge axis aLeads => Sys2Proof.Machine.execEncoderEdge axis aLeads s
  | .referenceMark axis => Sys2Proof.Machine.execReferenceMark axis s
  | .driveFaultInput axis active => Sys2Proof.Machine.execDriveFaultInput axis active s
  | .overtravelSwitchChange axis side isOpen => Sys2Proof.Machine.execOvertravelSwitchChange axis side isOpen s
  | .clampReleasedSwitchChange axis closed => Sys2Proof.Machine.execClampReleasedSwitchChange axis closed s
  | .strokeTimeout function => Sys2Proof.Machine.execStrokeTimeout function s
  | .lingerTimerExpiry axis => Sys2Proof.Machine.execLingerTimerExpiry axis s
  | .pressureOkChange ok => Sys2Proof.Machine.execPressureOkChange ok s
  | .hydraulicWaitTimerExpiry => Sys2Proof.Machine.execHydraulicWaitTimerExpiry s
  | .referenceUpdate => Sys2Proof.Machine.execReferenceUpdate s
  | .spindleEncoderEdge clockwise => Sys2Proof.Machine.execSpindleEncoderEdge clockwise s
  | .speedWindowEnd => Sys2Proof.Machine.execSpeedWindowEnd s
  | .inverterFaultInput active => Sys2Proof.Machine.execInverterFaultInput active s
  | .forkSwitchChange switch closed => Sys2Proof.Machine.execForkSwitchChange switch closed s
  | .creepAlternation => Sys2Proof.Machine.execCreepAlternation s
  | .pauseTimerExpiry => Sys2Proof.Machine.execPauseTimerExpiry s
  | .pressureSample code => Sys2Proof.Machine.execPressureSample code s
  | .buildTimerExpiry => Sys2Proof.Machine.execBuildTimerExpiry s
  | .purgeTimerExpiry => Sys2Proof.Machine.execPurgeTimerExpiry s
  | .tankLowSwitchChange low => Sys2Proof.Machine.execTankLowSwitchChange low s
  | .scanRequest => Sys2Proof.Machine.execScanRequest s
  | .pendantReply bytes fields => Sys2Proof.Machine.execPendantReply bytes fields s
  | .replyWindowClose => Sys2Proof.Machine.execReplyWindowClose s
  | .clipTimerExpiry => Sys2Proof.Machine.execClipTimerExpiry s
  | .flashPhaseToggle => Sys2Proof.Machine.execFlashPhaseToggle s
  | .stopChannelChange channel1Open channel2Open => Sys2Proof.Machine.execStopChannelChange channel1Open channel2Open s
  | .discrepancyTimerExpiry => Sys2Proof.Machine.execDiscrepancyTimerExpiry s

end Sys2Proof.Machine
end

