-- ==== Sys2Proof/Safety.lean ====
section
/-! DEFINITION. What a safe state is, and what a command may do to the line: the terms in which the
statements of Certificates/Slice0/Obligations.lean are written. -/

namespace Sys2Proof.Machine

/-! ## The line -/

/-- Replies not yet sent to their end, oldest first: the one on the line and those that wait (R197, R201). -/
def Link.owedReplies (l : Link) : List Reply :=
  (match l.sending with
   | some (.reply r) => [r]
   | some (.event _ _ _) => []
   | some (.state _ _ _) => []
   | some (.position _ _ _) => []
   | none => [])
    ++ l.replies

/-- Event reports not yet sent to their end, oldest first (R198, R201). -/
def Link.owedEvents (l : Link) : List EventReport :=
  (match l.sending with
   | some (.event _ _ e) => [e]
   | some (.reply _) => []
   | some (.state _ _ _) => []
   | some (.position _ _ _) => []
   | none => [])
    ++ l.events

/-- The host is owed exactly these further replies and event reports, and nothing else of the Link Unit has
changed but the transmitter's choice (its telegram, the overflow flag, the sequence number, the STATE slot
and the due POSITION report). -/
def Owes (s t : State) (replies : List Reply) (events : List EventReport) : Prop :=
  t.link.owedReplies = s.link.owedReplies ++ replies ∧ t.link.owedEvents = s.link.owedEvents ++ events
    ∧ t.link.straps = s.link.straps ∧ t.link.framer = s.link.framer ∧ t.link.gapTimer = s.link.gapTimer
    ∧ t.link.counters = s.link.counters ∧ t.link.period = s.link.period
    ∧ t.link.positionTimer = s.link.positionTimer ∧ t.link.skipCount = s.link.skipCount

/-- The command answers a next state: it is `u` but for the Link Unit's line, and there the host is owed these
further replies and event reports. -/
def Completes (c : Instr) (s u : State) (replies : List Reply) (events : List EventReport) : Prop :=
  ∃ t, exec c s = .next t ∧ t = { u with link := t.link } ∧ Owes s t replies events

/-- The reply queue takes one more reply (R197). -/
def ReplyRoom (s : State) : Prop := s.link.replies.length < Config.replyQueueCapacity

/-- The event report queue takes `n` more reports (R198). -/
def EventRoom (s : State) (n : Nat) : Prop := s.link.events.length + n ≤ Config.eventQueueCapacity

/-- An idle transmitter has nothing that waits (R201). -/
def LineSettled (s : State) : Prop :=
  s.link.sending = none →
    s.link.replies = [] ∧ s.link.events = [] ∧ s.link.statePending = false ∧ s.link.due = false

/-- Bytes received one after the other, each with its stop bit high; none if a step is no next state. -/
def receives : List Byte → State → Option State
  | [], s => some s
  | x :: rest, s =>
    match exec (.byteReceived x true) s with
    | .next t => receives rest t
    | .fault _ => none
    | .refused _ => none

/-! ## Fields as telegrams spell them (R204) -/

/-- Forced range: 0 absent, or 1 to 4. -/
def forcedByte : Option GearRange → Byte
  | none => 0
  | some r => r.byte

/-- Coolant mode: 0 OFF, 1 FLOOD, 2 TSC, 3 FLOOD_TSC. -/
def CoolantMode.byte : CoolantMode → Byte
  | .off => 0
  | .flood => 1
  | .tsc => 2
  | .floodTsc => 3

/-- Feed mode: 0 PER_MINUTE, 1 PER_REV, 2 RAPID. -/
def FeedMode.byte : FeedMode → Byte
  | .perMinute => 0
  | .perRev => 1
  | .rapid => 2

/-- Axis set of a Queue Move: bit 0 is X, bit 4 is B. -/
def setByte (targets : PerAxis (Option Int)) : Byte :=
  (if targets.x.isSome then 1 else 0) + (if targets.y.isSome then 2 else 0) + (if targets.z.isSome then 4 else 0)
    + (if targets.w.isSome then 8 else 0) + (if targets.b.isSome then 16 else 0)

/-- The payload of a Queue Move: axis set, feed mode, feed value, the targets in axis order. -/
def moveBytes (targets : PerAxis (Option Int)) (m : FeedMode) (feed : Nat) : List Byte :=
  [setByte targets, m.byte] ++ leBytes 2 feed
    ++ ([targets.x, targets.y, targets.z, targets.w, targets.b].filterMap id).flatMap (sleBytes 4)

/-- A row of the gear table within its ranges (R121). -/
def rowFits (r : RangeRow) : Prop :=
  1 ≤ r.min ∧ r.min < r.max ∧ r.max ≤ 3000 ∧ 1 ≤ r.num ∧ r.num ≤ 255 ∧ 1 ≤ r.den ∧ r.den ≤ 255

/-- The payload of a Set Pendant Text: both lengths, both lines, the hw_limit flag and, if given, hw_limit. -/
def textBytes (line1 line2 : List Byte) (hw : Option Nat) : List Byte :=
  leBytes 1 line1.length ++ leBytes 1 line2.length ++ line1 ++ line2
    ++ (match hw with
        | none => [0]
        | some n => 1 :: leBytes 4 n)

/-- A line as the display holds it: 20 characters, the unprintable ones shown as a question mark (R177). -/
def displayed (line : List Byte) : List Byte :=
  line.map (fun x => if 0x20 ≤ x.toNat ∧ x.toNat ≤ 0x7E then x else 0x3F#8)
    ++ List.replicate (20 - line.length) 0x20#8

/-- The fork of a stroke, as GEAR_FAULT names it (R135). -/
def ForkStroke.fork : ForkStroke → Fork
  | .a _ => .a
  | .b _ => .b

/-- The feed value fits its mode (2.1). -/
def feedFits (m : FeedMode) (feed : Nat) : Prop :=
  match m with
  | .perMinute => 1 ≤ feed ∧ feed ≤ 20000
  | .perRev => 1 ≤ feed ∧ feed ≤ 10000
  | .rapid => feed = 0

/-! ## A Start (R28 to R30, R40) -/

/-- stopped-by-operator is clear, and S_cmd is formed from the kept S_prog where it was set (R29, R30, R118). -/
def StopCleared (s t : State) : Prop :=
  t.spindle.stoppedByOperator = false ∧ t.spindle.sProg = s.spindle.sProg
    ∧ (s.spindle.stoppedByOperator = false → t.spindle = s.spindle)
    ∧ (s.spindle.stoppedByOperator = true → t.spindle.sCmd = (commandedSpeed t t.spindle).1)

/-- The causes that the table of R40 finds for an entry with a move context and the coolant wait `wait`. -/
def startCauses (s : State) (e : EntryBody) (c : Option MoveContext) (wait : Bool) : CauseSet where
  operator := false
  host := false
  pendantLost := false
  coolant := wait && (s.coolant.tsc == .faulted || s.coolant.tsc == .blocked)
  clamp :=
    e.isMove && c.any fun d =>
      axesInOrder.any fun a => (d.legs.get a).isSome && clampNeeded s a && (s.clamp a).state == .fault
  gear := e.isPerRev && c.any MoveContext.moves && (s.gear.gearbox == .neutral || s.gear.gearbox == .unknown)
  spindle := e.isPerRev && c.any MoveContext.moves && (s.spindle.sProg == 0 || hasSpindleFault s)

/-- The planner `p` after a check that found the causes `found`: HELD where there is one, and a cause without an entry
of its codes in the fault list is a start-time cause (R39, R40). -/
def checkedPlanner (s : State) (p : Planner) (found : CauseSet) : Planner :=
  { p with
    state := if found.hasCondition then .held else p.state
    causes := found
    startTime :=
      { p.startTime with
        coolant := p.startTime.coolant || (found.coolant && !hasTied s .coolant)
        clamp := p.startTime.clamp || (found.clamp && !hasTied s .clamp)
        gear := p.startTime.gear || (found.gear && !hasTied s .gear)
        spindle := p.startTime.spindle || (found.spindle && !hasTied s .spindle) } }

/-! ## Range changes and scans -/

/-- The range the speed rule selects: the lowest-numbered one that holds the speed, and where none does the nearest one,
the lowest-numbered of two as near (R128). -/
def Selected (g : GearTable) (speed : Nat) (r : GearRange) : Prop :=
  ((g.row r).min ≤ speed ∧ speed ≤ (g.row r).max
      ∧ ∀ q, (GearRange.byte q).toNat < (GearRange.byte r).toNat → ¬((g.row q).min ≤ speed ∧ speed ≤ (g.row q).max))
    ∨ ((∀ q, ¬((g.row q).min ≤ speed ∧ speed ≤ (g.row q).max))
      ∧ ∀ q, (g.row r).distance speed ≤ (g.row q).distance speed
          ∧ ((GearRange.byte q).toNat < (GearRange.byte r).toNat →
              (g.row r).distance speed < (g.row q).distance speed))

/-- The reply presses no button of R175 and leaves the enabling switch as it was. -/
def NoPress (q r : ScanReply) : Prop :=
  pressedNow Buttons.cycleStart q r = false ∧ pressedNow Buttons.feedHold q r = false
    ∧ pressedNow Buttons.spindleStop q r = false ∧ pressedNow Buttons.coolant q r = false
    ∧ r.enabling = q.enabling

/-- TSC is placed by the start judgement at the gearbox state of `t`; where that is BUILDING, the window is zeroed, the
build timer and the union ceiling set, and S_cmd formed (R144, R146, R151). -/
def TscPlaced (s t : State) : Prop :=
  (t.gear.gearbox = .shifting → t.coolant.tsc = .suspended)
    ∧ (∀ row, currentRow t = some row → s.coolant.unionLimit < row.min → t.coolant.tsc = .blocked)
    ∧ (t.gear.gearbox ≠ .shifting → (∀ row, currentRow t = some row → row.min ≤ s.coolant.unionLimit) →
        t.coolant.tsc = .building ∧ t.coolant.buildTimer = some s.coolant.buildLimit ∧ t.coolant.late = false
          ∧ t.coolant.window = List.replicate 8 0 ∧ t.coolant.filtered = 0
          ∧ unionCeiling t = some s.coolant.unionLimit ∧ t.spindle.sCmd = (commandedSpeed t t.spindle).1)

/-! ## What the end of every event leaves -/

/-- No withdrawal is still in progress once every axis jogged in the tenure has local motion NONE (R168). -/
def SiteSettled (s : State) : Prop :=
  s.pendant.withdrawing = true → ∃ a, s.pendant.tenure.get a = true ∧ (s.axis a).motion ≠ .idle

/-- The hydraulic wait is on exactly while PRESSURE_OK is false and a request is WAITING (R92). -/
def HydraulicSettled (s : State) : Prop :=
  if s.valve.pressureOk = false ∧ ∃ r ∈ s.valve.requests, r.isActive = false then
    s.valve.hydraulicWait.isSome = true ∨ s.valve.hydraulicExpired = true
  else s.valve.hydraulicWait = none ∧ s.valve.hydraulicExpired = false

/-- What every event leaves. -/
def Settled (s : State) : Prop := SiteSettled s ∧ HydraulicSettled s

/-! ## One interpolation period -/

/-- The state of a period once every axis has its output position, before the following-error check (R27, R80,
log 12). -/
def periodOutputs (s : State) : State :=
  eachAxis (compensateAxis fun a => (s.axis a).commanded)
    (eachAxis moveLocally (plannerWork { s with clocks := { s.clocks with interpolation := 2 } }).1)

/-- No axis is found beyond its following-error limit at this period (R9). -/
def FollowsWell (s : State) : Prop :=
  ∀ a, driveEnable (periodOutputs s) a = true → ((periodOutputs s).axis a).errorExceeds = false

/-- No head entry takes its start actions at this period (R27). -/
def NothingStarts (s : State) : Prop :=
  s.planner.state = .running → headInProgress s = true ∨ s.planner.queue = []

/-- A period at which the planner's head alone acts: no axis in local motion or beyond its following-error limit, no
range change, and an empty valve request list. -/
def HeadAlone (s : State) : Prop :=
  FollowsWell s ∧ (∀ a, (s.axis a).motion = .idle) ∧ s.gear.step = .idle ∧ s.valve.requests = []

/-- Of the blocks beside the planner and the Link Unit, only the axes with their compensation and clamps, the valve
bank, the fault list's condition flags and the clocks differ. -/
def OnlyMotion (s t : State) : Prop :=
  t =
    { s with
      planner := t.planner, axes := t.axes, comp := t.comp, clamps := t.clamps, valve := t.valve, stop := t.stop
      clocks := t.clocks, link := t.link }

/-- The planner's record once the head entry has left it (R37, R46). -/
def headGone (p : Planner) (rest : List Entry) : Planner :=
  { p with
    queue := rest, head := if rest = [] then none else some .queued, speedWait := false, retake := false
    dwellLeft := none, context := none }

/-- The planner's record in IDLE with a queue that is left (R36, R46). -/
def idlePlanner (rest : List Entry) : Planner where
  state := .idle
  queue := rest
  head := if rest = [] then none else some .queued
  causes := .empty
  startTime := .empty
  displaced := false
  coolantWait := false
  speedWait := false
  retake := false
  dwellLeft := none
  context := none

/-- The velocity of a move's next step toward a target velocity (R62, R63). -/
def nextVelocity (c : MoveContext) (target : Nat) : Nat :=
  min (velocityStep c.v target c.accel (c.lengthN - c.travelled)) (c.lengthN - c.travelled)

/-! ## Invariants -/

/-- The queues keep within their capacities (R23, R197, R198). -/
def QueuesBounded (s : State) : Prop :=
  s.planner.queue.length ≤ Config.programQueueCapacity ∧ s.link.replies.length ≤ Config.replyQueueCapacity
    ∧ s.link.events.length ≤ Config.eventQueueCapacity

/-- No two fault list entries share code and qualifier, and repeat counts stay in 0 to 255 (R184). -/
def FaultsDistinct (s : State) : Prop :=
  (s.stop.faults.map fun e => (e.code, e.qualifier)).Nodup ∧ ∀ e ∈ s.stop.faults, e.repeats ≤ 255

/-- Hold causes, head, move context and claims agree with the planner state (R23, R31, R36, R38, R40, R46, R49). -/
def PlannerSound (s : State) : Prop :=
  (s.planner.head = none ↔ s.planner.queue = [])
    ∧ (s.planner.state = .idle ∨ s.planner.state = .running →
        s.planner.causes = .empty ∧ s.planner.startTime = .empty)
    ∧ (s.planner.state = .idle →
        s.planner.displaced = false ∧ s.planner.coolantWait = false ∧ headInProgress s = false)
    ∧ (∀ c, s.planner.startTime.has c = true → s.planner.causes.has c = true ∧ c.isCondition = true)
    ∧ (s.planner.context.isSome = true → headInProgress s = true)
    ∧ (∀ a, (s.axis a).claim = true → ∃ c l, s.planner.context = some c ∧ c.legs.get a = some l)

/-- The spindle codes fit the converter and the counts their ranges, with the parameters in theirs (R104,
R105, R108, R121). -/
def SpindleBounded (s : State) : Prop :=
  s.spindle.dacTarget ≤ 4095 ∧ s.spindle.reference ≤ 4095 ∧ s.spindle.lowCount ≤ 2 ∧ s.spindle.stallCount ≤ 30
    ∧ 500 ≤ s.spindle.motorMax ∧ s.spindle.motorMax ≤ 6000 ∧ 1 ≤ s.spindle.ramp ∧ s.spindle.ramp ≤ 200
    ∧ 10 ≤ s.gear.creepSpeed ∧ s.gear.creepSpeed ≤ 120

/-- S_cmd is the speed that R106 forms from its inputs as they stand; the spindle motor reference is zero outside a
range but for a creep, and zero with the enable off (R106, R110, R113). -/
def SpeedFormed (s : State) : Prop :=
  s.spindle.sCmd = (commandedSpeed s s.spindle).1
    ∧ (s.gear.gearbox.inRange = false → s.spindle.phase ≠ .creep → s.spindle.reference = 0)
    ∧ (spindleEnable s = false → s.spindle.reference = 0 ∧ s.spindle.sProg = 0)

/-- The request of its own clamp that a clamp state has on the valve request list, with whether it is ACTIVE
(R95 to R98). -/
def ClampState.request (a : Axis) : ClampState → Option (Stroke × Bool)
  | .releaseWait => some (.release a, false)
  | .releasing => some (.release a, true)
  | .engageWait => some (.engage a, false)
  | .engaging => some (.engage a, true)
  | .engaged => none
  | .released => none
  | .settling => none
  | .fault => none

/-- The requests of a valve function, as stroke and whether ACTIVE. -/
def requestsOf (s : State) (f : ValveFunction) : List (Stroke × Bool) :=
  (s.valve.requests.filter fun r => r.stroke.function == f).map fun r => (r.stroke, r.isActive)

/-- The fork requests on the list, by their strokes. -/
def forkStrokes (s : State) : List Stroke :=
  (s.valve.requests.filter fun r => r.stroke.function == .forkA || r.stroke.function == .forkB).map Request.stroke

/-- The strokes the Gear Sequencer has in hand at the Valve Bank (R130, R133, R139). -/
def gearInHand (g : GearSequencer) : List Stroke :=
  match g.step, g.stroke with
  | .stroke, some k => [.fork k]
  | .ending, some k => [.fork k]
  | .stroke, none => []
  | .ending, none => []
  | .idle, _ => []
  | .stopping, _ => []
  | .pause, _ => []

/-- The valve request list agrees with the clamps and the Gear Sequencer, holds one request a function, and
never has more than 3 flow units in use; bypass counts stay in 0 to 7 (R87, R89, R97). -/
def ValveSound (s : State) : Prop :=
  flowInUse s.valve.requests ≤ Config.flowUnits
    ∧ s.valve.bypassLimit ≤ 7
    ∧ (s.valve.requests.filter fun r => !r.isActive).Pairwise (fun r q => q.bypass ≤ r.bypass)
    ∧ (∀ r ∈ s.valve.requests, r.bypass ≤ 7)
    ∧ (∀ a, requestsOf s (.clamp a) = ((s.clamp a).state.request a).toList)
    ∧ forkStrokes s = gearInHand s.gear
    ∧ (∀ a, clampTakesPart s a = false → (s.clamp a).state.request a = none ∧ (s.clamp a).linger = none)
    ∧ (∀ a, (s.clamp a).linger.isSome = true → (s.clamp a).state = .released)

/-- An axis that a program names: configured, referenced, not PARKED, and the position within its soft limits
(R24). -/
def Reachable (u : AxisUnit) (x : Int) : Prop :=
  u.params.isSome = true ∧ u.referenced = true ∧ u.mode ≠ .parked ∧ withinSoft u x = true

/-- No referenced axis that the part moves is commanded beyond its soft limits, and neither is any target of
the queue or of the move in progress (R1, R17, R22, R24). -/
def TravelSafe (s : State) : Prop :=
  (∀ a, (s.axis a).referenced = true →
      (s.axis a).configured = true ∧ ((s.axis a).mode ≠ .parked → withinSoft (s.axis a) (s.axis a).commanded = true))
    ∧ (∀ a p, (s.axis a).params = some p →
        p.softMin < p.softMax ∧ p.softMin ≤ p.refValue ∧ p.refValue ≤ p.softMax)
    ∧ (∀ e ∈ s.planner.queue, ∀ targets m f, e.body = .move targets m f →
        ∀ a x, targets.get a = some x → Reachable (s.axis a) x)
    ∧ (∀ c, s.planner.context = some c →
        s.planner.queue ≠ [] ∧ c.travelled ≤ c.lengthN ∧ c.lengthN = c.length * 1000
          ∧ ∀ a l, c.legs.get a = some l → Reachable (s.axis a) l.start ∧ Reachable (s.axis a) l.target)

/-- The change context agrees with the gearbox state: SHIFTING exactly while a change is in progress, a retry pause
and a creep only in their steps, a deferred command only in ENDING, and no change while the gearbox is held (R124,
R125, R130 to R135, R138). -/
def GearSound (s : State) : Prop :=
  (s.gear.step = .idle ↔ s.gear.gearbox ≠ .shifting)
    ∧ (s.gear.step = .idle → s.gear.target = none ∧ s.gear.owner = none ∧ s.gear.stroke = none)
    ∧ (s.gear.step ≠ .idle → s.gear.target.isSome = true)
    ∧ (s.gear.held = true → s.gear.gearbox = .unknown)
    ∧ (s.gear.pauseTimer.isSome = true ↔ s.gear.step = .pause)
    ∧ (s.gear.creep.isSome = true ↔ s.spindle.phase = .creep)
    ∧ (s.gear.creep.isSome = true → s.gear.step = .stroke)
    ∧ (s.gear.deferred.isSome = true → s.gear.step = .ending)
    ∧ s.gear.attempts ≤ 255

/-- The coolant states agree with the requests, the timers, the filter and the gearbox; and no pump runs under the
level inhibit (R142, R144 to R154). -/
def CoolantSound (s : State) : Prop :=
  (s.coolant.floodRequested = false ↔ s.coolant.flood = .off)
    ∧ (s.coolant.tscRequested = false ↔ s.coolant.tsc = .off ∨ s.coolant.tsc = .purging)
    ∧ (s.coolant.buildTimer.isSome = true → s.coolant.tsc = .building)
    ∧ (s.coolant.late = true → s.coolant.tsc = .building ∧ s.coolant.buildTimer = none)
    ∧ (s.coolant.purgeTimer.isSome = true ↔ s.coolant.tsc = .purging)
    ∧ (s.coolant.tsc = .suspended → s.gear.gearbox = .shifting)
    ∧ (tscPump s = true → s.gear.gearbox ≠ .shifting)
    ∧ (s.coolant.tsc = .suspended ∨ s.coolant.tsc = .blocked ∨ tscPump s = true ∨ floodPump s = true →
        levelInhibit s = false)
    ∧ s.coolant.window.length = 8 ∧ (∀ x ∈ s.coolant.window, x ≤ 1000)
    ∧ s.coolant.filtered = s.coolant.window.sum / 8
    ∧ s.coolant.buildRun ≤ 30 ∧ s.coolant.lossCount ≤ 10

/-- While the E-stop state is not ARMED nothing moves: no program runs, no axis has local motion, no valve is driven,
no change is in progress, the spindle is commanded to 0 with its reference at 0, both pumps are off, and the site is
the host's (R10, R101, R106, R110, R119, R140, R157, R168, R183). -/
def StoppedSafe (s : State) : Prop :=
  s.stop.estop ≠ .armed →
    s.planner.state = .idle ∧ (∀ a, (s.axis a).motion = .idle ∧ (s.axis a).velocity = 0 ∧ (s.axis a).claim = false)
      ∧ s.valve.requests = []
      ∧ (∀ a, clampTakesPart s a = true →
          (s.clamp a).state = .engaged ∨ (s.clamp a).state = .settling ∨ (s.clamp a).state = .fault)
      ∧ s.gear.step = .idle ∧ s.spindle.sProg = 0 ∧ s.spindle.sCmd = 0 ∧ s.spindle.reference = 0
      ∧ s.coolant.flood = .off ∧ s.coolant.tsc = .off ∧ s.pendant.site = .host

/-- Every invariant together. -/
def Sound (s : State) : Prop :=
  QueuesBounded s ∧ FaultsDistinct s ∧ PlannerSound s ∧ SpindleBounded s ∧ SpeedFormed s ∧ ValveSound s ∧ GearSound s
    ∧ CoolantSound s ∧ StoppedSafe s ∧ TravelSafe s ∧ Settled s

end Sys2Proof.Machine
end

