-- ==== Sys2Proof/Certificates/Slice0/Obligations.lean ====
section
/-! DEFINITION. The statements for the provers. Each docstring names the rules of spec/ it formalises; where a
statement rests on a choice of the model, it names the log entry (notes/assumptions). -/

open Sys2Proof Sys2Proof.Machine

/-! ## Steps, ticks and reset -/

/-- The command at the front of the queue runs on the state with the queue's rest (00 "How the blocks work
together", 95). -/
def Obligations.StepRunsFrontCommand : Prop :=
  ∀ (c : Instr) (s : State), step { s with pending := c :: s.pending } = exec c s

/-- On an empty queue a millisecond passes (the model's choice, log 2): part time rises by 1 (R187), every running
timer has a millisecond less, and nothing else changes. -/
def Obligations.EmptyQueuePassesMillisecond : Prop :=
  ∀ s : State, s.pending = [] →
    ∃ t, step s = .next t ∧ t.pending = [] ∧ t.stop.partTime = s.stop.partTime + 1
      ∧ t.planner = s.planner ∧ t.axes = s.axes ∧ t.comp = s.comp ∧ t.spindle = s.spindle
      ∧ t.link = { s.link with gapTimer := t.link.gapTimer, positionTimer := t.link.positionTimer }
      ∧ t.link.gapTimer = s.link.gapTimer.map (· - 1) ∧ t.link.positionTimer = s.link.positionTimer.map (· - 1)
      ∧ (∀ a, t.clamp a = { s.clamp a with linger := (s.clamp a).linger.map (· - 1) })
      ∧ t.valve =
          { s.valve with
            requests :=
              s.valve.requests.map fun r =>
                { r with
                  status :=
                    match r.status with
                    | .waiting => .waiting
                    | .active n => .active (n - 1) }
            hydraulicWait := s.valve.hydraulicWait.map (· - 1) }
      ∧ t.clocks =
          ⟨s.clocks.interpolation - 1, s.clocks.referenceUpdate - 1, s.clocks.speedWindow - 1,
            s.clocks.pressureSample - 1, s.clocks.scan - 1, s.clocks.flash - 1⟩
      ∧ t.gear = { s.gear with pauseTimer := s.gear.pauseTimer.map (· - 1), creep := t.gear.creep }
      ∧ t.gear.creep = s.gear.creep.map (fun c => { c with timer := c.timer - 1 })
      ∧ t.coolant =
          { s.coolant with
            buildTimer := s.coolant.buildTimer.map (· - 1), purgeTimer := s.coolant.purgeTimer.map (· - 1) }
      ∧ t.pendant =
          { s.pendant with
            window := s.pendant.window.map (· - 1), clipTimer := s.pendant.clipTimer.map (· - 1) }
      ∧ t.stop =
          { s.stop with partTime := t.stop.partTime, discrepancy := s.stop.discrepancy.map (· - 1) }

/-- The state after reset meets every invariant of Safety.lean. -/
def Obligations.ResetIsSound : Prop :=
  Sound State.reset

/-- POWER_ON_RESET with any straps and input levels: what the rules on reset give (R3, R23, R26, R71, R87, R93,
R104, R124, R142, R179, R184, R192; the levels are operands of the command). The raises of the reset are ESTOP,
then COOLANT_LEVEL (R184); the transmitter stays idle at this event (the model's choice, log 6). The whole records of
spindle, coolant and pendant hold values for which the spec gives no reset value: those are the model's choice (log 30). -/
def Obligations.PowerOnResetStartsIdle : Prop :=
  ∀ (i : ResetInputs) (s : State), ∃ t, exec (.powerOnReset i) s = .next t ∧ t.pending = s.pending
    ∧ t.planner.state = .idle ∧ t.planner.queue = [] ∧ t.planner.head = none ∧ t.planner.causes = .empty
    ∧ t.stop.estop = (if i.channel1Open || i.channel2Open then .tripped else .released)
    ∧ t.stop.partTime = 0
    ∧ t.stop.discrepancy = (if i.channel1Open = i.channel2Open then none else some 50)
    ∧ t.stop.faults.map FaultEntry.code =
        (if i.channel1Open && i.channel2Open then [.estop] else []) ++ (if i.tankLow then [.coolantLevel] else [])
    ∧ (∀ a, (t.axis a).configured = false ∧ (t.axis a).referenced = false ∧ (t.axis a).commanded = 0
        ∧ (t.axis a).output = 0 ∧ (t.axis a).measured = 0 ∧ (t.axis a).encoder = 0 ∧ (t.axis a).mode = .normal
        ∧ (t.axis a).motion = .idle ∧ (t.axis a).claim = false ∧ (t.axis a).latchPlus = false
        ∧ (t.axis a).latchMinus = false ∧ driveEnable t a = false)
    ∧ (∀ a, t.compOf a = .afterReset)
    ∧ (∀ a, (t.clamp a).state = (if i.clampClosed.get a then .settling else .engaged)
        ∧ (t.clamp a).releasePending = false ∧ (t.clamp a).linger = none)
    ∧ t.valve.requests = [] ∧ t.valve.hydraulicWait = none
    ∧ t.spindle = .afterReset i.inverterFault ∧ spindleEnable t = false
    ∧ t.gear.table = none ∧ t.gear.gearbox = deriveGearbox i.forks ∧ t.gear.held = false ∧ t.gear.step = .idle
    ∧ t.coolant = .afterReset i.tankLow ∧ tscPump t = false ∧ floodPump t = false ∧ purgeValve t = false
    ∧ t.pendant = .afterReset i.pendantFitted
    ∧ t.link.straps = ⟨i.linkRate, i.pendantFitted, i.bFitted, i.tscFitted⟩
    ∧ t.link.framer = .hunt ∧ t.link.replies = [] ∧ t.link.statePending = true ∧ t.link.sending = none

/-! ## The line -/

/-- Decode and encode of a telegram agree: from HUNT, with the transmitter at rest by R201, the bytes of any frame of
at most 240 payload bytes are taken as exactly the telegram they spell (R193, R194, R204). The telegram is named by the
command of an unknown KIND, which goes by its KIND: that, and the overrun test within it, is the model's choice (log 1,
log 36). -/
def Obligations.FrameReceivedWhole : Prop :=
  ∀ (kind : Byte) (tag : Tag) (payload : List Byte) (s : State),
    payload.length ≤ 240 → s.link.framer = .hunt → Settled s → LineSettled s →
      ∃ t, receives (frameBytes kind tag payload) s = some t
        ∧ exec (.unknownKindTelegram kind tag payload)
            { s with link := { s.link with framer := .hunt, gapTimer := none } } = .next t

/-- What a byte does by the framer's state where no telegram is completed, and the gap timer's expiry (R192, R193,
R195): each answers a next state that differs in the framer, the gap timer and one counter at most. That the expiry acts
whenever the timer runs, and does nothing while it is stopped, is the model's choice (log 3). -/
def Obligations.BytesByFramerState : Prop :=
  ∀ (s : State) (x : Byte), Settled s → LineSettled s →
    exec (.byteReceived x false) s =
        .next { s with
          link := { s.link with counters := { s.link.counters with framing := s.link.counters.framing + 1 } } }
    ∧ (s.link.framer = .hunt → x ≠ 0xA5#8 →
        exec (.byteReceived x true) s =
          .next { s with
            link := { s.link with counters := { s.link.counters with skipped := s.link.counters.skipped + 1 } } })
    ∧ (s.link.framer = .hunt → x = 0xA5#8 →
        exec (.byteReceived x true) s = .next { s with link := { s.link with framer := .header [], gapTimer := some 2 } })
    ∧ (∀ held, s.link.framer = .header held → held.length < 3 →
        exec (.byteReceived x true) s =
          .next { s with link := { s.link with framer := .header (held ++ [x]), gapTimer := some 2 } })
    ∧ (∀ kind tag0 tag1, s.link.framer = .header [kind, tag0, tag1] → 240 < x.toNat →
        exec (.byteReceived x true) s =
          .next { s with
            link :=
              { s.link with
                framer := .hunt, gapTimer := none
                counters := { s.link.counters with length := s.link.counters.length + 1 } } })
    ∧ (∀ kind tag0 tag1 len held high, s.link.framer = .check kind tag0 tag1 len held (some high) →
        crc16 (kind :: tag0 :: tag1 :: len :: held) ≠ high ++ x →
        exec (.byteReceived x true) s =
          .next { s with
            link :=
              { s.link with
                framer := .hunt, gapTimer := none
                counters := { s.link.counters with crc := s.link.counters.crc + 1 } } })
    ∧ (∀ n, s.link.gapTimer = some n →
        exec .gapTimerExpiry s =
          .next { s with
            link :=
              { s.link with
                framer := .hunt, gapTimer := none
                counters := { s.link.counters with gap := s.link.counters.gap + 1 } } })
    ∧ (s.link.gapTimer = none → exec .gapTimerExpiry s = .next s)

/-- An order command is what its telegram's KIND, of the table of 11.6, is dispatched to. That the command of an unknown
KIND goes by the KIND it carries is the model's choice (log 36, log 1), and no rule of the spec. -/
def Obligations.OrdersGoByKind : Prop :=
  ∀ (tag : Tag) (p : List Byte) (s : State),
    exec (.queueMove tag p) s = exec (.unknownKindTelegram 0x01 tag p) s
    ∧ exec (.queueDwell tag p) s = exec (.unknownKindTelegram 0x02 tag p) s
    ∧ exec (.queueSpindle tag p) s = exec (.unknownKindTelegram 0x03 tag p) s
    ∧ exec (.queueCoolant tag p) s = exec (.unknownKindTelegram 0x04 tag p) s
    ∧ exec (.queueMark tag p) s = exec (.unknownKindTelegram 0x05 tag p) s
    ∧ exec (.queueEnd tag p) s = exec (.unknownKindTelegram 0x06 tag p) s
    ∧ exec (.start tag p) s = exec (.unknownKindTelegram 0x10 tag p) s
    ∧ exec (.hold tag p) s = exec (.unknownKindTelegram 0x11 tag p) s
    ∧ exec (.abort tag p) s = exec (.unknownKindTelegram 0x12 tag p) s
    ∧ exec (.spindleSet tag p) s = exec (.unknownKindTelegram 0x18 tag p) s
    ∧ exec (.gearSet tag p) s = exec (.unknownKindTelegram 0x19 tag p) s
    ∧ exec (.coolantSet tag p) s = exec (.unknownKindTelegram 0x1A tag p) s
    ∧ exec (.reference tag p) s = exec (.unknownKindTelegram 0x1B tag p) s
    ∧ exec (.park tag p) s = exec (.unknownKindTelegram 0x1C tag p) s
    ∧ exec (.loop tag p) s = exec (.unknownKindTelegram 0x1D tag p) s
    ∧ exec (.setAxis tag p) s = exec (.unknownKindTelegram 0x20 tag p) s
    ∧ exec (.loadCompensation tag p) s = exec (.unknownKindTelegram 0x21 tag p) s
    ∧ exec (.setGears tag p) s = exec (.unknownKindTelegram 0x22 tag p) s
    ∧ exec (.setSpindleParams tag p) s = exec (.unknownKindTelegram 0x23 tag p) s
    ∧ exec (.setCoolantParams tag p) s = exec (.unknownKindTelegram 0x24 tag p) s
    ∧ exec (.setValveParams tag p) s = exec (.unknownKindTelegram 0x25 tag p) s
    ∧ exec (.setOverrides tag p) s = exec (.unknownKindTelegram 0x26 tag p) s
    ∧ exec (.setPendantText tag p) s = exec (.unknownKindTelegram 0x27 tag p) s
    ∧ exec (.setReporting tag p) s = exec (.unknownKindTelegram 0x28 tag p) s
    ∧ exec (.clearFaults tag p) s = exec (.unknownKindTelegram 0x2F tag p) s
    ∧ exec (.getStatus tag p) s = exec (.unknownKindTelegram 0x30 tag p) s
    ∧ exec (.getAxis tag p) s = exec (.unknownKindTelegram 0x31 tag p) s
    ∧ exec (.getFaults tag p) s = exec (.unknownKindTelegram 0x32 tag p) s
    ∧ exec (.getIdent tag p) s = exec (.unknownKindTelegram 0x33 tag p) s

/-- A refused order changes no state in any block, and exactly one reply is owed for it; a KIND that is no order's
is refused UNKNOWN_KIND; a telegram that finds the reply queue full is discarded and counted (R196, R197). The orders
are named by the command of an unknown KIND, which goes by its KIND (the model's choice, log 36), and the overrun test is
taken at the command (log 1). -/
def Obligations.RefusedOrderChangesNothing : Prop :=
  ∀ (kind : Byte) (tag : Tag) (p : List Byte) (s : State), Settled s →
    (∀ code, ReplyRoom s → ownerOf kind tag p s = .refuse code →
        Completes (.unknownKindTelegram kind tag p) s s [.refuse tag code kind] [])
    ∧ (ReplyRoom s → isOrderKind kind = false →
        Completes (.unknownKindTelegram kind tag p) s s [.refuse tag .unknownKind kind] [])
    ∧ (¬ReplyRoom s → LineSettled s →
        exec (.unknownKindTelegram kind tag p) s =
          .next { s with
            link :=
              { s.link with counters := { s.link.counters with overrun := s.link.counters.overrun + 1 } } })

/-- At the end of a telegram the transmitter begins the first of reply, event report, STATE and POSITION that waits,
and a report takes the sequence number and the overflow flag (R198, R199, R201). -/
def Obligations.TransmitterChoice : Prop :=
  ∀ s : State, Settled s →
    (∀ r rest, s.link.replies = r :: rest →
        exec .telegramSent s = .next { s with link := { s.link with sending := some (.reply r), replies := rest } })
    ∧ (∀ e rest, s.link.replies = [] → s.link.events = e :: rest →
        exec .telegramSent s =
          .next { s with
            link :=
              { s.link with
                sending := some (.event s.link.sequence s.link.overflow e), events := rest
                sequence := s.link.sequence + 1, overflow := false } })
    ∧ (s.link.replies = [] → s.link.events = [] → s.link.statePending = true →
        exec .telegramSent s =
          .next { s with
            link :=
              { s.link with
                sending := some (.state s.link.sequence s.link.overflow (stateReport s)), statePending := false
                sequence := s.link.sequence + 1, overflow := false } })
    ∧ (s.link.replies = [] → s.link.events = [] → s.link.statePending = false → s.link.due = true →
        exec .telegramSent s =
          .next { s with
            link :=
              { s.link with
                sending := some (.position s.link.sequence s.link.overflow (positionReport s)), due := false
                sequence := s.link.sequence + 1, overflow := false } })
    ∧ (s.link.replies = [] → s.link.events = [] → s.link.statePending = false → s.link.due = false →
        exec .telegramSent s = .next { s with link := { s.link with sending := none } })

/-- Set Reporting discards a due report and sets the timer; the POSITION timer restarts with the period, and a report
already due is skipped and counted (R200). The transmitter is busy, so that a report that falls due stays due. That the
expiry acts whenever the timer runs, and does nothing while it is stopped, is the model's choice (log 3). -/
def Obligations.PositionTimer : Prop :=
  ∀ (s : State) (o : Outgoing), Settled s → s.link.sending = some o →
    (∀ (tag : Tag) (period : Nat), period = 0 ∨ (10 ≤ period ∧ period ≤ 1000) → ReplyRoom s →
        exec (.setReporting tag (leBytes 2 period)) s =
          .next { s with
            link :=
              { s.link with
                period := period, due := false, positionTimer := if period = 0 then none else some period
                replies := s.link.replies ++ [.accept tag (.period period)] } })
    ∧ (∀ n, s.link.positionTimer = some n →
        exec .positionTimerExpiry s =
          .next { s with
            link :=
              { s.link with
                positionTimer := some s.link.period, due := true
                skipCount := if s.link.due then s.link.skipCount + 1 else s.link.skipCount } })
    ∧ (s.link.positionTimer = none → exec .positionTimerExpiry s = .next s)

/-! ## The program queue -/

/-- An accepted Queue order appends its entry at the tail and answers the free slots left (R24, R25, R204). -/
def Obligations.QueueOrdersAppend : Prop :=
  ∀ (s : State) (tag : Tag), Settled s → ReplyRoom s → s.planner.state ≠ .aborting →
    s.planner.queue.length < 32 →
      (∀ time, 1 ≤ time → time ≤ 600000 →
        Completes (.queueDwell tag (leBytes 4 time)) s
          { s with
            planner :=
              { s.planner with
                queue := s.planner.queue ++ [⟨tag, .dwell time⟩]
                head := if s.planner.queue = [] then some .queued else s.planner.head } }
          [.accept tag (.freeSlots (31 - s.planner.queue.length))] [])
      ∧ (∀ speed d forced wait, speed ≤ 3000 →
          (s.gear.table.isSome = true ∨ (speed = 0 ∧ forced = none)) →
          Completes
            (.queueSpindle tag (leBytes 2 speed ++ [Rotation.byte d, forcedByte forced, flagByte wait])) s
            { s with
              planner :=
                { s.planner with
                  queue := s.planner.queue ++ [⟨tag, .spindle speed d forced wait⟩]
                  head := if s.planner.queue = [] then some .queued else s.planner.head } }
            [.accept tag (.freeSlots (31 - s.planner.queue.length))] [])
      ∧ (∀ m wait, (CoolantMode.asksTsc m = true → s.link.straps.tscFitted = true) →
          Completes (.queueCoolant tag [CoolantMode.byte m, flagByte wait]) s
            { s with
              planner :=
                { s.planner with
                  queue := s.planner.queue ++ [⟨tag, .coolant m wait⟩]
                  head := if s.planner.queue = [] then some .queued else s.planner.head } }
            [.accept tag (.freeSlots (31 - s.planner.queue.length))] [])
      ∧ Completes (.queueMark tag []) s
          { s with
            planner :=
              { s.planner with
                queue := s.planner.queue ++ [⟨tag, .mark⟩]
                head := if s.planner.queue = [] then some .queued else s.planner.head } }
          [.accept tag (.freeSlots (31 - s.planner.queue.length))] []
      ∧ Completes (.queueEnd tag []) s
          { s with
            planner :=
              { s.planner with
                queue := s.planner.queue ++ [⟨tag, .endProgram⟩]
                head := if s.planner.queue = [] then some .queued else s.planner.head } }
          [.accept tag (.freeSlots (31 - s.planner.queue.length))] []

/-- A Queue Move whose axes are configured, referenced, not PARKED, with every target inside travel and soft limits
and none beyond the commanded position toward a latched end, is read field by field from its bytes and appended
(R12, R24, R25, R204). -/
def Obligations.QueueMoveAppends : Prop :=
  ∀ (s : State) (tag : Tag) (targets : PerAxis (Option Int)) (m : FeedMode) (feed : Nat),
    Settled s → ReplyRoom s → s.planner.state ≠ .aborting → s.planner.queue.length < 32 → feedFits m feed →
    (m = .perRev → s.gear.table.isSome = true) → (∃ a x, targets.get a = some x) →
    (targets.b.isSome = true → s.link.straps.bFitted = true) →
    (∀ a x, targets.get a = some x →
      0 ≤ x ∧ x ≤ travelTop a ∧ Reachable (s.axis a) x
        ∧ ((s.axis a).latchPlus = true → x ≤ (s.axis a).commanded)
        ∧ ((s.axis a).latchMinus = true → (s.axis a).commanded ≤ x)) →
      Completes (.queueMove tag (moveBytes targets m feed)) s
        { s with
          planner :=
            { s.planner with
              queue := s.planner.queue ++ [⟨tag, .move targets m feed⟩]
              head := if s.planner.queue = [] then some .queued else s.planner.head } }
        [.accept tag (.freeSlots (31 - s.planner.queue.length))] []

/-- A Start that passes its checks. In RUNNING it changes nothing; in IDLE it makes the planner RUNNING. In HELD it drops
the operator causes and makes it RUNNING; a head that is QUEUED, absent, or ACTIVE and not set back stays as it is. A
STARTING head takes its start actions again, and so does an ACTIVE MOVE or DWELL set back to STARTING: by an operator's
spindle stop with S_prog nonzero, which adds AT_SPEED to the start conditions, or, for a PER_REV MOVE, by the spindle fault
that held it (R67; against R30's plain words the model's choice, log 41). The checks of R40 then decide RUNNING or HELD. A
MOVE claims its moving axes, and asks each clamp anew: nothing of a RELEASED one but the end of its linger, a RELEASE of an
ENGAGED one. A context that it has fixed already is kept, that of a STARTING head too, where 2.5 lists "Fix the move
context" among the start actions and R30 keeps it for an ACTIVE MOVE set back alone (the model's choice, log 15). A SPINDLE
entry passes its command again, a COOLANT entry its request. In every state stopped-by-operator is cleared first and S_cmd
formed; AT_SPEED is kept in speedWait (the model's, log 14). The valve request list is empty where start actions are taken
(R28, R29, R30, R31, R33, R34, R40, R95, R107, R118). -/
def Obligations.StartRuns : Prop :=
  ∀ (s : State) (tag : Tag), Settled s → ReplyRoom s → s.stop.estop = .armed → s.pendant.site = .host →
    (s.planner.state = .running → Completes (.start tag []) s s [.accept tag (.planner .running)] [])
    ∧ (s.planner.state = .idle → anyReference s = false →
        ∃ t, exec (.start tag []) s = .next t
          ∧ t = { s with planner := { s.planner with state := .running }, spindle := t.spindle, link := t.link }
          ∧ Owes s t [.accept tag (.planner .running)] [] ∧ StopCleared s t)
    ∧ ∀ (p : Planner) (back : Prop), s.planner.state = .held → s.planner.causes.hasCondition = false →
        s.planner.displaced = false →
        p = { s.planner with
                state := .running, speedWait := false, retake := false
                causes := { s.planner.causes with operator := false, host := false } } →
        (back ↔ s.planner.head = some .starting
          ∨ (s.planner.head = some .active
            ∧ (s.planner.retake = true ∨ (s.spindle.stoppedByOperator = true ∧ s.spindle.sProg ≠ 0)))) →
        (¬back →
          ∃ t, exec (.start tag []) s = .next t ∧ t = { s with planner := p, spindle := t.spindle, link := t.link }
            ∧ Owes s t [.accept tag (.planner .running)] [] ∧ StopCleared s t)
        ∧ ∀ (e : Entry) (rest : List Entry) (q : Planner), s.planner.queue = e :: rest → back →
            s.valve.requests = [] →
            q = { p with
                    head := some .starting
                    speedWait := s.spindle.stoppedByOperator && s.spindle.sProg != 0 } →
            ((e.body.kind = .dwell ∨ e.body.kind = .mark ∨ e.body.kind = .endProgram) →
              ∃ t, exec (.start tag []) s = .next t
                ∧ t =
                    { s with
                      planner := checkedPlanner s q (startCauses s e.body none q.coolantWait)
                      spindle := t.spindle
                      link := t.link }
                ∧ Owes s t [.accept tag (.planner t.planner.state)] [] ∧ StopCleared s t)
            ∧ (∀ targets m feed c, e.body = .move targets m feed →
                c = s.planner.context.getD (newContext s targets) →
                (∀ a l, c.legs.get a = some l → (s.axis a).motion = .idle) →
                ∃ t, exec (.start tag []) s = .next t
                  ∧ t =
                      { s with
                        planner :=
                          checkedPlanner s { q with context := some c }
                            (startCauses s e.body (some c) q.coolantWait)
                        axes := t.axes, clamps := t.clamps, valve := t.valve, spindle := t.spindle, link := t.link }
                  ∧ Owes s t [.accept tag (.planner t.planner.state)] [] ∧ StopCleared s t
                  ∧ (∀ a, t.axis a = { s.axis a with claim := (c.legs.get a).isSome || (s.axis a).claim })
                  ∧ (∀ a, c.legs.get a = none → t.clamp a = s.clamp a)
                  ∧ (∀ a l, c.legs.get a = some l →
                      clampNeeded s a = false ∨ (s.clamp a).state = .released ∨ (s.clamp a).state = .fault →
                      t.clamp a =
                        { s.clamp a with linger := if (s.axis a).mode = .loop then (s.clamp a).linger else none })
                  ∧ ((∀ a l, c.legs.get a = some l → clampReleased s a = true) → t.valve = s.valve)
                  ∧ (∀ a l, c.legs.get a = some l → clampNeeded s a = true → (s.clamp a).state = .engaged →
                      (s.valve.pressureOk = false →
                        (t.clamp a).state = .releaseWait ∧ ⟨.release a, 0, .waiting⟩ ∈ t.valve.requests)
                      ∧ (s.valve.pressureOk = true → (s.clamp a).switchClosed = false →
                          (∀ d k, d ≠ a → c.legs.get d = some k → clampReleased s d = true) →
                          t.clamp a = { s.clamp a with state := .releasing, linger := none }
                            ∧ t.valve =
                                { s.valve with requests := [⟨.release a, 0, .active s.valve.clampLimit⟩] })))
            ∧ (∀ speed d forced wait, e.body = .spindle speed d forced wait → s.planner.head = some .starting →
                (speed ≠ 0 → hasSpindleFault s = true →
                  ∃ t, exec (.start tag []) s = .next t
                    ∧ t =
                        { s with
                          planner :=
                            checkedPlanner s q
                              { startCauses s e.body none q.coolantWait with spindle := true }
                          spindle := t.spindle
                          link := t.link }
                    ∧ Owes s t [.accept tag (.planner .held)] [] ∧ StopCleared s t)
                ∧ (speed = 0 ∨ hasSpindleFault s = false → s.gear.step = .idle → forced = none →
                    speed = 0 ∨ (∃ row, currentRow s = some row ∧ row.min ≤ speed ∧ speed ≤ row.max) →
                    ∃ t, exec (.start tag []) s = .next t
                      ∧ t =
                          { s with
                            planner :=
                              checkedPlanner s q (startCauses s e.body none q.coolantWait)
                            spindle := t.spindle
                            link := t.link }
                      ∧ Owes s t [.accept tag (.planner t.planner.state)] []
                      ∧ t.spindle.sProg = speed ∧ t.spindle.commandedDir = d
                      ∧ t.spindle.stoppedByOperator = false
                      ∧ t.spindle.sCmd = (commandedSpeed t t.spindle).1))
            ∧ (∀ m wait, e.body = .coolant m wait → s.planner.head = some .starting →
                ∃ t, exec (.start tag []) s = .next t
                  ∧ t =
                      { s with
                        planner :=
                          checkedPlanner s
                            { q with
                              coolantWait :=
                                q.coolantWait || (wait && m.asksTsc && t.coolant.tsc != .ready) }
                            (startCauses t e.body none
                              (q.coolantWait || (wait && m.asksTsc && t.coolant.tsc != .ready)))
                        coolant := t.coolant
                        spindle := t.spindle
                        link := t.link }
                  ∧ Owes s t [.accept tag (.planner t.planner.state)] []
                  ∧ t.coolant.floodRequested = m.asksFlood ∧ t.coolant.tscRequested = m.asksTsc
                  ∧ t.coolant.flood = (if m.asksFlood then (if levelInhibit s then .inhibited else .on) else .off)
                  ∧ t.spindle.stoppedByOperator = false ∧ t.spindle.sProg = s.spindle.sProg)

/-- A Start that fails is refused by the first check of R28 that it fails, and changes nothing. -/
def Obligations.StartRefusals : Prop :=
  ∀ (s : State) (tag : Tag), Settled s → ReplyRoom s →
    (s.stop.estop ≠ .armed → Completes (.start tag []) s s [.refuse tag .estopActive 0x10] [])
    ∧ (s.stop.estop = .armed → s.pendant.site = .pendant →
        Completes (.start tag []) s s [.refuse tag .sitePendant 0x10] [])
    ∧ (s.stop.estop = .armed → s.pendant.site = .host →
        (s.planner.state = .holding ∨ s.planner.state = .aborting
          ∨ (s.planner.state = .held ∧ s.planner.causes.hasCondition = true)
          ∨ (s.planner.state = .idle ∧ ∃ a, (s.axis a).motion.isReference = true)) →
        Completes (.start tag []) s s [.refuse tag .busy 0x10] [])
    ∧ (s.stop.estop = .armed → s.pendant.site = .host → s.planner.state = .held →
        s.planner.causes.hasCondition = false → s.planner.displaced = true →
        Completes (.start tag []) s s [.refuse tag .displaced 0x10] [])

/-- Hold adds HOST by the table of R39 and nothing else; in IDLE and ABORTING it adds nothing (R39, R43). -/
def Obligations.HoldAddsHost : Prop :=
  ∀ (s : State) (tag : Tag), Settled s → ReplyRoom s →
    (s.planner.state = .idle ∨ s.planner.state = .aborting →
      Completes (.hold tag []) s s [.accept tag (.planner s.planner.state)] [])
    ∧ (s.planner.state = .running → s.planner.head = some .active →
        Completes (.hold tag []) s
          { s with
            planner := { s.planner with state := .holding, causes := { s.planner.causes with host := true } } }
          [.accept tag (.planner .holding)] [])
    ∧ (s.planner.state = .running → s.planner.head ≠ some .active →
        Completes (.hold tag []) s
          { s with planner := { s.planner with state := .held, causes := { s.planner.causes with host := true } } }
          [.accept tag (.planner .held)] [])
    ∧ (s.planner.state = .holding ∨ s.planner.state = .held →
        Completes (.hold tag []) s
          { s with planner := { s.planner with causes := { s.planner.causes with host := true } } }
          [.accept tag (.planner s.planner.state)] [])

/-- Abort. With no range change in progress an ACTIVE MOVE under way brakes first; otherwise the head leaves with
ENTRY_DONE ABORTED, the rest with one FLUSHED, and the planner is IDLE with an empty record (R45, R46). In IDLE a
reference run hears of it: in CLAMP_WAIT it ends at once, in MOVING it goes to STOPPING, and no other motion is touched
(R15). A range change in progress ends at this event in STOPPING and PAUSE, with the gearbox derived from the switches,
and goes to ENDING in STROKE, the creep ended and the request left on the list; in ENDING nothing more happens to it. In
each of them S_prog is 0, and the owner and a deferred command are absent (R124, R139). TSC is neither SUSPENDED nor
BLOCKED in that part, and the change is given up before the planner's abort completes (log 40). -/
def Obligations.AbortEndsProgram : Prop :=
  ∀ (s : State) (tag : Tag), Settled s → ReplyRoom s →
    (s.gear.step = .idle →
      (s.planner.state = .aborting → Completes (.abort tag []) s s [.accept tag (.planner .aborting)] [])
      ∧ (s.planner.state = .running ∨ s.planner.state = .holding ∨ s.planner.state = .held →
          activeMove s = true → pathVelocity s ≠ 0 →
          Completes (.abort tag []) s { s with planner := { s.planner with state := .aborting } }
            [.accept tag (.planner .aborting)] [])
      ∧ (s.planner.state = .running ∨ s.planner.state = .holding ∨ s.planner.state = .held
            ∨ (s.planner.state = .idle ∧ anyReference s = false) →
          activeMove s = false ∨ pathVelocity s = 0 →
          (∀ e rest, s.planner.queue = e :: rest → EventRoom s 2 →
            Completes (.abort tag []) s
              { s with
                axes := s.axes.map fun u => { u with claim := false }
                planner :=
                  { state := .idle, queue := [], head := none, causes := .empty, startTime := .empty
                    displaced := false, coolantWait := false, speedWait := false, retake := false, dwellLeft := none
                    context := none } }
              [.accept tag (.planner .idle)]
              [.entryDone e.tag e.body.kind .aborted, .flushed (rest.map Entry.tag)])
          ∧ (s.planner.queue = [] → EventRoom s 1 →
            Completes (.abort tag []) s
              { s with
                planner :=
                  { state := .idle, queue := [], head := none, causes := .empty, startTime := .empty
                    displaced := false, coolantWait := false, speedWait := false, retake := false, dwellLeft := none
                    context := none } }
              [.accept tag (.planner .idle)] [.flushed []])))
    ∧ (s.planner.state = .idle → s.gear.step = .idle → s.pendant.withdrawing = false → EventRoom s 2 →
        ∃ t, exec (.abort tag []) s = .next t
          ∧ t = { s with axes := t.axes, planner := idlePlanner [], link := t.link }
          ∧ Owes s t [.accept tag (.planner .idle)]
              (match s.planner.queue with
               | [] => [.flushed []]
               | e :: rest => [.entryDone e.tag e.body.kind .aborted, .flushed (rest.map Entry.tag)])
          ∧ (∀ a, t.axis a =
              { s.axis a with
                claim := (t.axis a).claim, motion := (t.axis a).motion, velocity := (t.axis a).velocity })
          ∧ (∀ a, (t.axis a).claim = (if s.planner.queue = [] then (s.axis a).claim else false))
          ∧ (∀ a, (s.axis a).motion = .reference .clampWait → (t.axis a).motion = .idle ∧ (t.axis a).velocity = 0)
          ∧ (∀ a, (s.axis a).motion = .reference .moving ∨ (s.axis a).motion = .reference .stopping →
              (t.axis a).motion = .reference .stopping ∧ (t.axis a).velocity = (s.axis a).velocity)
          ∧ (∀ a, (s.axis a).motion.isReference = false →
              (t.axis a).motion = (s.axis a).motion ∧ (t.axis a).velocity = (s.axis a).velocity))
    ∧ (s.gear.step ≠ .idle → s.coolant.tsc ≠ .suspended → s.coolant.tsc ≠ .blocked →
        ∃ t, exec (.abort tag []) s = .next t
          ∧ t =
              { s with
                axes := t.axes, planner := t.planner, spindle := t.spindle, gear := t.gear, pendant := t.pendant
                link := t.link }
          ∧ t.spindle.sProg = 0 ∧ t.spindle.sCmd = 0
          ∧ (s.planner.state = .idle → t.planner = idlePlanner [])
          ∧ (s.planner.state ≠ .idle → t.pendant = s.pendant)
          ∧ (s.planner.state = .aborting → t.planner = s.planner ∧ t.axes = s.axes)
          ∧ (s.planner.state = .running ∨ s.planner.state = .holding ∨ s.planner.state = .held →
              (activeMove s = true → pathVelocity s ≠ 0 →
                t.planner = { s.planner with state := .aborting } ∧ t.axes = s.axes)
              ∧ (activeMove s = false ∨ pathVelocity s = 0 → t.planner = idlePlanner []))
          ∧ (s.gear.creep.isSome = true → t.spindle.reference = 0 ∧ t.spindle.phase ≠ .creep)
          ∧ (s.gear.step = .stopping ∨ s.gear.step = .pause →
              t.gear =
                { s.gear with
                  step := .idle, target := none, owner := none, stroke := none, pauseTimer := none, creep := none
                  deferred := none, gearbox := deriveGearbox s.gear.switches })
          ∧ (s.gear.step = .stroke ∨ s.gear.step = .ending →
              t.gear = { s.gear with step := .ending, owner := none, deferred := none, creep := none }))

/-! ## Axes -/

/-- An interpolation period answers a next state from every state. It leaves every input level, every parameter, the
encoder counts, the modes and latches, the stop chain and the overrides as they were, moves no measured position
outside LOOP, and records what each axis shows (R5, R27, R70, R84, R200). An axis beyond its following-error limit is a
fault that stops every axis and aborts the program (R9). Where no head entry begins and no such fault stands, an axis
that follows its measured position has both positions there (R8). Any other has its direction turned by the commanded
increment, its backlash state ramped by backlash_rate toward the target where the ramp may run, and its output formed from
commanded position, pitch correction and backlash state, withheld while its clamp is not RELEASED; the difference goes out
as pulses with the drive on, and at rest says that neither moved (R6, R72, R77 to R79). With no request on the valve list
and no clamp_linger of 0 ms, a RELEASED clamp's linger timer runs while its axis is linger-idle (R97). -/
def Obligations.PeriodKeepsInputs : Prop :=
  ∀ s : State, ∃ t, exec .interpolationPeriod s = .next t
    ∧ t.clocks = { s.clocks with interpolation := 2 } ∧ t.pending = s.pending
    ∧ (∀ a, (t.axis a).params = (s.axis a).params ∧ (t.axis a).encoder = (s.axis a).encoder
        ∧ (t.axis a).mode = (s.axis a).mode ∧ (t.axis a).loopHeld = (s.axis a).loopHeld
        ∧ (t.axis a).latchPlus = (s.axis a).latchPlus ∧ (t.axis a).latchMinus = (s.axis a).latchMinus
        ∧ (t.axis a).plusOpen = (s.axis a).plusOpen ∧ (t.axis a).minusOpen = (s.axis a).minusOpen
        ∧ (t.axis a).driveFault = (s.axis a).driveFault
        ∧ ((s.axis a).mode ≠ .loop → (t.axis a).measured = (s.axis a).measured)
        ∧ (t.axis a).seen =
            ⟨(t.axis a).commanded, (t.axis a).output, (t.axis a).measured, pitchShown t a⟩)
    ∧ (∀ a, (t.compOf a).k = (s.compOf a).k ∧ (t.compOf a).base = (s.compOf a).base
        ∧ (t.compOf a).points = (s.compOf a).points)
    ∧ (∀ a, (t.clamp a).switchClosed = (s.clamp a).switchClosed)
    ∧ t.gear.switches = s.gear.switches ∧ t.gear.table = s.gear.table
    ∧ t.valve.pressureOk = s.valve.pressureOk ∧ t.valve.bypassLimit = s.valve.bypassLimit
    ∧ t.spindle.sMeas = s.spindle.sMeas ∧ t.spindle.windowCount = s.spindle.windowCount
    ∧ t.spindle.inverterFault = s.spindle.inverterFault ∧ t.spindle.stopped = s.spindle.stopped
    ∧ t.coolant.tankLow = s.coolant.tankLow ∧ t.coolant.tscMin = s.coolant.tscMin
    ∧ t.pendant.feedOverride = s.pendant.feedOverride ∧ t.pendant.spindleOverride = s.pendant.spindleOverride
    ∧ t.pendant.link = s.pendant.link ∧ t.pendant.lastGood = s.pendant.lastGood
    ∧ t.stop.estop = s.stop.estop ∧ t.stop.partTime = s.stop.partTime
    ∧ t.stop.channel1Open = s.stop.channel1Open ∧ t.stop.channel2Open = s.stop.channel2Open
    ∧ t.link.straps = s.link.straps ∧ t.link.framer = s.link.framer ∧ t.link.period = s.link.period
    ∧ (∀ a, driveEnable (periodOutputs s) a = true → ((periodOutputs s).axis a).errorExceeds = true →
        hasFault t .followingError (.axis a) = true ∧ driveEnable t a = false ∧ (t.axis a).referenced = false
          ∧ ((s.axis a).referenced = true → (t.axis a).commanded = (t.axis a).output)
          ∧ (∀ c, (t.axis c).motion = .idle ∧ (t.axis c).velocity = 0)
          ∧ t.planner.state = .idle ∧ t.planner.queue = [] ∧ t.planner.causes = .empty)
    ∧ (NothingStarts s → FollowsWell s →
        (∀ a, positionsFollow s a = true →
          (t.axis a).commanded = (s.axis a).measured ∧ (t.axis a).output = (s.axis a).measured
            ∧ (t.axis a).pulses = 0 ∧ ((t.axis a).atRest = true ↔ (s.axis a).commanded = (s.axis a).measured))
        ∧ (∀ a p, (s.axis a).params = some p → positionsFollow s a = false →
          ∃ (inc : Int) (goal : Nat),
            inc = (t.axis a).commanded - (s.axis a).commanded
              ∧ (t.compOf a).direction =
                  (if (s.axis a).compensated = true ∧ inc ≠ 0 then (if 0 < inc then .plus else .minus)
                  else (s.compOf a).direction)
              ∧ goal = (if (t.compOf a).direction = .plus then p.backlash else 0)
              ∧ (t.compOf a).b =
                  (if rampMayRun s a = false then (s.compOf a).b
                  else if (s.compOf a).b ≤ goal then min goal ((s.compOf a).b + p.backlashRate)
                  else max goal ((s.compOf a).b - p.backlashRate))
              ∧ (t.axis a).output =
                  (if clampReleased s a = false then (s.axis a).output
                  else if (s.axis a).compensated = false then (t.axis a).commanded
                  else if driveEnable s a = false then (s.axis a).output
                  else (t.axis a).commanded + pitchAt (s.compOf a) (t.axis a).commanded + (t.compOf a).b)
              ∧ (t.axis a).pulses =
                  (if driveEnable s a then ((t.axis a).output - (s.axis a).output).natAbs else 0)
              ∧ (driveEnable s a = true → (t.axis a).output ≠ (s.axis a).output →
                  ((t.axis a).directionOut = .plus ↔ (s.axis a).output < (t.axis a).output))
              ∧ ((s.axis a).mode = .loop →
                  (t.axis a).measured = (s.axis a).measured + ((t.axis a).output - (s.axis a).output))
              ∧ ((t.axis a).atRest = true ↔ inc = 0 ∧ (rampMayRun s a = true → (t.compOf a).b = goal)))
        ∧ (s.valve.requests = [] → (∀ a p, (s.axis a).params = some p → p.clampLinger ≠ 0) →
          ∀ a p, (s.axis a).params = some p →
            t.clamp a =
              { s.clamp a with
                linger :=
                  if p.clampFitted = true ∧ (s.axis a).mode ≠ .loop ∧ (s.clamp a).state = .released then
                    (if (t.axis a).lingerIdle then some ((s.clamp a).linger.getD p.clampLinger) else none)
                  else (s.clamp a).linger }))

/-- A period and the head entry. A period of an ACTIVE MOVE with a path, no following error and no range change in
progress: the travelled path grows by the new velocity, each moving axis is commanded to start + round(d × s / L_n), and at
the end of the path the entry leaves; a HOLDING planner brakes toward 0 and becomes HELD there (R27, R42, R56, R62, R63,
R64); an ABORTING one brakes so, and at 0 or at the end of the path the abort completes (R45, R46). Where the head alone
acts: IDLE, HELD and an empty queue do nothing, and HOLDING without an ACTIVE MOVE becomes HELD (R42). In RUNNING a QUEUED
head takes its start actions and checks, a STARTING one whose conditions hold becomes ACTIVE, and an ACTIVE one works, at
one period (R27): a MARK or END, an ACTIVE SPINDLE or COOLANT and a MOVE with no moving axis complete at once, a DWELL
counts 2 ms, an END leaves the planner in IDLE (R36, R37). A QUEUED SPINDLE passes its command, and waits where its flag
says so (R33); a QUEUED COOLANT passes its request and arms the coolant wait (R34); a STARTING SPINDLE or COOLANT whose
conditions hold completes (R33, R34); a QUEUED MOVE fixes its context, claims its axes and asks their clamps, and takes
its first step where they are RELEASED and, in PER_REV, the spindle is ready (R31, R32). A check that fails makes it HELD
(R40). A STARTING head whose conditions fail waits (R27); that the coolant wait holds back a MOVE with no moving axis too,
which by R31 has no start conditions at all, is the model's choice (log 34), and so is the field speedWait in which an
AT_SPEED that R30 adds is kept for whatever entry is the head (log 14). -/
def Obligations.MoveAdvances : Prop :=
  (∀ (s : State) (tag : Tag) (targets : PerAxis (Option Int)) (m : FeedMode) (feed : Nat) (rest : List Entry)
     (c : MoveContext),
     s.planner.queue = ⟨tag, .move targets m feed⟩ :: rest → s.planner.head = some .active →
     s.planner.context = some c → c.kind ≠ .null → c.travelled ≤ c.lengthN → s.gear.step = .idle → FollowsWell s →
     (∀ a l, c.legs.get a = some l →
       (s.axis a).configured = true ∧ (s.axis a).referenced = true ∧ (s.axis a).mode ≠ .parked
         ∧ (s.axis a).motion = .idle) →
       (s.planner.state = .running →
         ∃ t v, exec .interpolationPeriod s = .next t
           ∧ v = nextVelocity c (runningTarget m feed s.pendant.feedOverride s.spindle.sMeas c.vLim)
           ∧ (∀ a l, c.legs.get a = some l →
               (t.axis a).commanded = l.start + roundAway (l.d * (c.travelled + v : Nat)) c.lengthN)
           ∧ (c.travelled + v < c.lengthN →
               t.planner =
                 { s.planner with
                   context :=
                     some { c with
                       v := v, travelled := c.travelled + v
                       limiter :=
                         limiterFor c (uncappedVelocity m feed s.pendant.feedOverride s.spindle.sMeas) } })
           ∧ (c.travelled + v = c.lengthN →
               t.planner.queue = rest ∧ t.planner.state = .running ∧ t.planner.context = none
                 ∧ (∀ a, (t.axis a).claim = false)
                 ∧ ∀ a l, c.legs.get a = some l → c.lengthN ≠ 0 → (t.axis a).commanded = l.target))
       ∧ (s.planner.state = .holding →
         ∃ t v, exec .interpolationPeriod s = .next t ∧ v = nextVelocity c 0
           ∧ (∀ a l, c.legs.get a = some l →
               (t.axis a).commanded = l.start + roundAway (l.d * (c.travelled + v : Nat)) c.lengthN)
           ∧ (c.travelled + v < c.lengthN →
               t.planner.queue = s.planner.queue ∧ t.planner.state = (if v = 0 then .held else .holding)
                 ∧ t.planner.context = some { c with v := v, travelled := c.travelled + v, limiter := .feed })
           ∧ (c.travelled + v = c.lengthN → t.planner.queue = rest ∧ t.planner.state = .held)))
  ∧ (∀ (s : State) (tag : Tag) (targets : PerAxis (Option Int)) (m : FeedMode) (feed : Nat) (rest : List Entry)
      (c : MoveContext) (v : Nat),
      s.planner.queue = ⟨tag, .move targets m feed⟩ :: rest → s.planner.head = some .active →
      s.planner.context = some c → c.kind ≠ .null → c.travelled ≤ c.lengthN → Settled s → HeadAlone s →
      EventRoom s 2 → s.planner.state = .aborting → v = nextVelocity c 0 →
      ∃ t, exec .interpolationPeriod s = .next t ∧ OnlyMotion s t
        ∧ (c.travelled + v < c.lengthN → v ≠ 0 →
            t.planner =
                { s.planner with context := some { c with v := v, travelled := c.travelled + v, limiter := .feed } }
              ∧ Owes s t [] [])
        ∧ (c.travelled + v < c.lengthN → v = 0 →
            t.planner = idlePlanner [] ∧ Owes s t [] [.entryDone tag .move .aborted, .flushed (rest.map Entry.tag)]
              ∧ ∀ a, (t.axis a).claim = false)
        ∧ (c.travelled + v = c.lengthN →
            t.planner = idlePlanner []
              ∧ Owes s t [] [.entryDone tag .move .completed, .flushed (rest.map Entry.tag)]
              ∧ ∀ a, (t.axis a).claim = false))
  ∧ (∀ s : State, Settled s → HeadAlone s →
      s.planner.state = .idle ∨ s.planner.state = .held ∨ s.planner.queue = []
        ∨ (s.planner.state = .holding ∧ activeMove s = false) → s.planner.state ≠ .aborting →
      ∃ t, exec .interpolationPeriod s = .next t ∧ OnlyMotion s t ∧ Owes s t [] []
        ∧ t.planner =
            { s.planner with state := if s.planner.state = .holding then .held else s.planner.state })
  ∧ (∀ (s : State) (e : Entry) (rest : List Entry), Settled s → HeadAlone s → EventRoom s 1 →
      s.planner.state = .running → s.planner.queue = e :: rest →
      (s.planner.coolantWait = false → s.planner.speedWait = false →
        (e.body = .mark ∨ e.body = .endProgram
            ∨ (s.planner.head = some .active ∧ (e.body.kind = .spindle ∨ e.body.kind = .coolant)) →
          ∃ t, exec .interpolationPeriod s = .next t ∧ OnlyMotion s t
            ∧ Owes s t [] [.entryDone e.tag e.body.kind .completed] ∧ (∀ a, (t.axis a).claim = false)
            ∧ t.planner = (if e.body = .endProgram then idlePlanner rest else headGone s.planner rest))
        ∧ (∀ (time : Nat) (left : Int), e.body = .dwell time → left = s.planner.dwellLeft.getD time - 2 →
          ∃ t, exec .interpolationPeriod s = .next t ∧ OnlyMotion s t
            ∧ (0 < left →
                t.planner = { s.planner with head := some .active, dwellLeft := some left } ∧ Owes s t [] [])
            ∧ (left ≤ 0 →
                t.planner = headGone s.planner rest ∧ Owes s t [] [.entryDone e.tag .dwell .completed]))
        ∧ (∀ speed d forced wait, e.body = .spindle speed d forced wait → s.planner.head = some .queued →
          s.planner.causes = .empty → s.gear.deferred = none →
          (speed ≠ 0 → hasSpindleFault s = true →
            ∃ t, exec .interpolationPeriod s = .next t ∧ OnlyMotion s t ∧ Owes s t [] []
              ∧ t.planner.state = .held ∧ t.planner.head = some .starting
              ∧ t.planner.causes = { CauseSet.empty with spindle := true } ∧ t.planner.queue = s.planner.queue)
          ∧ (speed = 0 ∨ hasSpindleFault s = false → forced = none →
            speed = 0 ∨ (∃ row, currentRow s = some row ∧ row.min ≤ speed ∧ speed ≤ row.max) →
            ∃ t, exec .interpolationPeriod s = .next t ∧ OnlyMotion { s with spindle := t.spindle } t
              ∧ t.spindle.sProg = speed ∧ t.spindle.commandedDir = d ∧ t.spindle.stoppedByOperator = false
              ∧ t.spindle.sCmd = (commandedSpeed t t.spindle).1
              ∧ (if wait = false ∨ (if speed = 0 then t.spindle.stopped else t.spindle.atSpeed) = true then
                  t.planner = headGone s.planner rest ∧ Owes s t [] [.entryDone e.tag .spindle .completed]
                else t.planner = { s.planner with head := some .starting } ∧ Owes s t [] [])))
        ∧ (∀ m wait, e.body = .coolant m wait → s.planner.head = some .queued → s.planner.causes = .empty →
          s.stop.estop = .armed →
          ∃ t, exec .interpolationPeriod s = .next t
            ∧ OnlyMotion { s with spindle := t.spindle, coolant := t.coolant } t
            ∧ t.coolant.floodRequested = m.asksFlood ∧ t.coolant.tscRequested = m.asksTsc
            ∧ t.coolant.flood = (if m.asksFlood then (if levelInhibit s then .inhibited else .on) else .off)
            ∧ t.spindle.sProg = s.spindle.sProg
            ∧ (wait = false ∨ m.asksTsc = false ∨ t.coolant.tsc = .ready →
                t.planner = headGone s.planner rest ∧ Owes s t [] [.entryDone e.tag .coolant .completed])
            ∧ (wait = true → m.asksTsc = true → t.coolant.tsc = .faulted ∨ t.coolant.tsc = .blocked →
                t.planner.state = .held ∧ t.planner.head = some .starting ∧ t.planner.coolantWait = true
                  ∧ t.planner.causes = { CauseSet.empty with coolant := true } ∧ Owes s t [] [])
            ∧ (wait = true → m.asksTsc = true → t.coolant.tsc ≠ .ready → t.coolant.tsc ≠ .faulted →
                t.coolant.tsc ≠ .blocked →
                t.planner = { s.planner with head := some .starting, coolantWait := true } ∧ Owes s t [] [])))
      ∧ (s.planner.head = some .starting →
          ((s.planner.coolantWait = true ∧ s.coolant.tsc ≠ .ready)
            ∨ (s.planner.speedWait = true ∧ s.spindle.atSpeed = false)
            ∨ (∃ speed d forced, e.body = .spindle speed d forced true
                ∧ (if speed = 0 then s.spindle.stopped else s.spindle.atSpeed) = false)
            ∨ (∃ targets m feed c, e.body = .move targets m feed ∧ s.planner.context = some c
                ∧ ((∃ a, (c.legs.get a).isSome = true ∧ clampReleased s a = false)
                  ∨ (m = .perRev ∧ c.moves = true ∧ s.spindle.atSpeed = false)))) →
          ∃ t, exec .interpolationPeriod s = .next t ∧ OnlyMotion s t ∧ Owes s t [] [] ∧ t.planner = s.planner)
      ∧ (s.planner.head = some .starting → s.planner.coolantWait = false ∨ s.coolant.tsc = .ready →
          s.planner.speedWait = false ∨ s.spindle.atSpeed = true →
          (∃ speed d forced wait, e.body = .spindle speed d forced wait ∧ s.gear.deferred = none
              ∧ (speed = 0 ∨ s.gear.gearbox.inRange = true)
              ∧ (wait = false ∨ (if speed = 0 then s.spindle.stopped else s.spindle.atSpeed) = true))
            ∨ (∃ m wait, e.body = .coolant m wait) →
          ∃ t, exec .interpolationPeriod s = .next t ∧ OnlyMotion s t
            ∧ Owes s t [] [.entryDone e.tag e.body.kind .completed] ∧ (∀ a, (t.axis a).claim = false)
            ∧ t.planner = headGone s.planner rest))
  ∧ (∀ (s : State) (tag : Tag) (targets : PerAxis (Option Int)) (m : FeedMode) (feed : Nat) (rest : List Entry)
      (c : MoveContext) (found : CauseSet), Settled s → HeadAlone s → EventRoom s 1 → s.planner.state = .running →
      s.planner.queue = ⟨tag, .move targets m feed⟩ :: rest → s.planner.coolantWait = false →
      s.planner.speedWait = false → s.planner.causes = .empty →
      (s.planner.head = some .queued ∧ s.planner.context = none ∧ c = newContext s targets)
        ∨ (s.planner.head = some .starting ∧ s.planner.context = some c) →
      found = (if s.planner.head = some .queued then startCauses s (.move targets m feed) (some c) false else .empty) →
      c.travelled ≤ c.lengthN →
      (∀ a l, c.legs.get a = some l →
        (s.axis a).configured = true ∧ (s.axis a).referenced = true ∧ (s.axis a).mode ≠ .parked) →
        (found.hasCondition = false → (∀ a l, c.legs.get a = some l → clampReleased s a = true) →
          (m = .perRev → c.moves = true →
            s.gear.gearbox.inRange = true ∧ s.spindle.sCmd ≠ 0 ∧ s.spindle.atSpeed = true) →
          ∃ t v, exec .interpolationPeriod s = .next t ∧ OnlyMotion s t
            ∧ v = nextVelocity c (runningTarget m feed s.pendant.feedOverride s.spindle.sMeas c.vLim)
            ∧ (c.kind ≠ .null → ∀ a l, c.legs.get a = some l →
                (t.axis a).commanded = l.start + roundAway (l.d * (c.travelled + v : Nat)) c.lengthN)
            ∧ (c.kind ≠ .null → c.travelled + v < c.lengthN → Owes s t [] []
                ∧ (s.planner.head = some .queued → ∀ a l, c.legs.get a = some l → (t.axis a).claim = true)
                ∧ t.planner =
                  { s.planner with
                    head := some .active
                    context :=
                      some { c with
                        v := v, travelled := c.travelled + v
                        limiter :=
                          limiterFor c (uncappedVelocity m feed s.pendant.feedOverride s.spindle.sMeas) } })
            ∧ (c.kind = .null ∨ c.travelled + v = c.lengthN →
                Owes s t [] [.entryDone tag .move .completed] ∧ t.planner = headGone s.planner rest
                  ∧ ∀ a, (t.axis a).claim = false))
        ∧ (s.planner.head = some .queued → found.hasCondition = true ∨ (∃ a l, c.legs.get a = some l
              ∧ clampReleased s a = false ∧ (s.clamp a).state = .engaged ∧ (s.clamp a).switchClosed = false) →
          ∃ t, exec .interpolationPeriod s = .next t ∧ OnlyMotion s t ∧ Owes s t [] []
            ∧ t.planner = checkedPlanner s { s.planner with head := some .starting, context := some c } found
            ∧ (∀ a l, c.legs.get a = some l → (t.axis a).claim = true
                ∧ (t.axis a).commanded = (s.axis a).commanded
                ∧ (clampReleased s a = false → (s.clamp a).state = .engaged → (s.clamp a).switchClosed = false →
                    (t.clamp a).state = .releaseWait ∨ (t.clamp a).state = .releasing))))

/-- Local motion. One step never leaves the soft limits of a referenced axis, never exceeds the larger of its velocity and
its target, and never speeds up by more than accel_n in a period; the goal of a jog is that of its latest demand, clamped
into the soft limits of a referenced axis, and the commanded position toward a latched end (R12, R20, R22). A period with
the planner in IDLE or HELD and no axis beyond its following-error limit takes one such step of an axis in MOVING or
STOPPING: a jog toward that goal at the jog target, a search toward its goal at ref_n, and toward no goal in STOPPING (R14,
R20). A STOPPING run at velocity 0 and at rest ends; a search at its goal raises REF_FAILED and ends; a jog at velocity 0
and at rest ends with its demand a stop, or a handwheel goal that it has reached (R14, R15, R22). A jog that moves an axis
of a HELD program marks it displaced (R21, R44). In CLAMP_WAIT nothing moves (R14, R19). The order of these stages in a
period is the model's reading (log 12), and so is that an aborted run whose velocity is 0 waits for at rest as well, where
R15 has it end with the velocity (log 51). -/
def Obligations.LocalStepKeepsLimits : Prop :=
  (∀ (p : AxisParams) (goal : Option Int) (target : Nat) (u : AxisUnit), p.softMin ≤ p.softMax →
    (u.referenced = true →
      p.softMin ≤ (motionStep p goal target u).commanded ∧ (motionStep p goal target u).commanded ≤ p.softMax)
    ∧ (motionStep p goal target u).velocity ≤ max u.velocity target
    ∧ (motionStep p goal target u).velocity ≤ u.velocity + p.accelN
    ∧ (u.referenced = false →
        (motionStep p goal target u).commanded = roundAway (motionStep p goal target u).p 1000))
  ∧ (∀ (a : Axis) (p : AxisParams) (u : AxisUnit),
      (u.demand = .stop → jogGoal a u p = none)
      ∧ ∀ raw,
          (∃ g, u.demand = .handwheel g ∧ raw = if u.referenced then max p.softMin (min g p.softMax) else g)
            ∨ (u.demand = .button .plus ∧ raw = if u.referenced then p.softMax else u.commanded + travelTop a)
            ∨ (u.demand = .button .minus ∧ raw = if u.referenced then p.softMin else u.commanded - travelTop a) →
          jogGoal a u p =
            some
              (if (u.latchPlus = true ∧ u.commanded < raw) ∨ (u.latchMinus = true ∧ raw < u.commanded) then u.commanded
              else raw))
  ∧ (∀ (s : State) (a : Axis) (p : AxisParams), Settled s → FollowsWell s →
      s.planner.state = .idle ∨ s.planner.state = .held → (s.axis a).params = some p → positionsFollow s a = false →
      ((s.axis a).motion = .jog .clampWait ∨ (s.axis a).motion = .reference .clampWait →
        ∃ t, exec .interpolationPeriod s = .next t ∧ (t.axis a).commanded = (s.axis a).commanded)
      ∧ ∀ goal target u,
          ((s.axis a).motion = .jog .moving ∧ goal = jogGoal a (s.axis a) p
              ∧ target = min (roundUp (p.jogFeed * s.pendant.feedOverride) 3) p.vmaxN)
            ∨ ((s.axis a).motion = .reference .moving ∧ goal = some (s.axis a).searchGoal ∧ target = p.refN)
            ∨ ((s.axis a).motion = .jog .stopping ∧ goal = none ∧ target = 0)
            ∨ ((s.axis a).motion = .reference .stopping ∧ goal = none ∧ target = 0) →
          u = motionStep p goal target (s.axis a) →
          ∃ t, exec .interpolationPeriod s = .next t
            ∧ (t.axis a).commanded = u.commanded ∧ (t.axis a).p = u.p ∧ (t.axis a).heading = u.heading
            ∧ (t.axis a).demand = (s.axis a).demand ∧ (t.axis a).referenced = (s.axis a).referenced
            ∧ t.planner.queue = s.planner.queue ∧ t.planner.state = s.planner.state
            ∧ ((s.axis a).motion.isJog = true → u.commanded ≠ (s.axis a).commanded → s.planner.state = .held →
                headInProgress s = true → t.planner.displaced = true)
            ∧ ((s.axis a).motion = .reference .moving →
                if u.velocity = 0 ∧ u.p = (s.axis a).searchGoal * 1000 then
                  (t.axis a).motion = .idle ∧ (t.axis a).velocity = 0 ∧ hasFault t .refFailed (.axis a) = true
                else (t.axis a).motion = .reference .moving ∧ (t.axis a).velocity = u.velocity)
            ∧ ((s.axis a).motion = .reference .stopping →
                if u.velocity = 0 ∧ (t.axis a).atRest = true then
                  (t.axis a).motion = .idle ∧ (t.axis a).velocity = 0
                else (t.axis a).motion = .reference .stopping ∧ (t.axis a).velocity = u.velocity)
            ∧ ((s.axis a).motion = .jog .moving ∨ (s.axis a).motion = .jog .stopping →
                ∀ done : Prop,
                  (done ↔
                    u.velocity = 0 ∧ (t.axis a).atRest = true
                      ∧ ((s.axis a).demand = .stop
                        ∨ ∃ g x, (s.axis a).demand = .handwheel g ∧ jogGoal a (t.axis a) p = some x
                            ∧ u.p = x * 1000)) →
                  (done → (t.axis a).motion = .idle ∧ (t.axis a).velocity = 0)
                  ∧ (¬done → (t.axis a).motion = (s.axis a).motion ∧ (t.axis a).velocity = u.velocity)))

/-- An edge of an axis encoder is one count up or down, added to the encoder count and, outside LOOP, to the measured
position, with nothing else changed; the first reference mark in MOVING ends the search, and no other mark is acted
on (R5, R14). -/
def Obligations.EncoderAndMarkMeasure : Prop :=
  ∀ (s : State) (a : Axis), Settled s →
    (∀ aLeads : Bool,
      Completes (.encoderEdge a aLeads) s
        (s.setAxis a
          { s.axis a with
            encoder := (s.axis a).encoder + (if aLeads then 1 else -1)
            measured :=
              if (s.axis a).mode = .loop then (s.axis a).measured
              else (s.axis a).measured + (if aLeads then 1 else -1) })
        [] [])
    ∧ (∀ p, (s.axis a).params = some p → (s.axis a).motion = .reference .moving →
      Completes (.referenceMark a) s
        ((s.setAxis a
            { s.axis a with
              commanded := p.refValue, p := p.refValue * 1000
              output := p.refValue + pitchAt (s.compOf a) p.refValue
              measured := p.refValue + pitchAt (s.compOf a) p.refValue
              referenced := true, motion := .reference .stopping }).setComp
          a { s.compOf a with b := 0, direction := .minus })
        [] [])
    ∧ ((s.axis a).motion ≠ .reference .moving → Completes (.referenceMark a) s s [] [])

/-- An accepted Reference: in LOOP it completes at once at ref_value; in NORMAL the axis loses its reference and
searches at once where its clamp counts as RELEASED, or waits for a release that is granted where the valve bank is
free (R3, R13, R14, R18, R94, R95, R96). -/
def Obligations.ReferenceOrderTaken : Prop :=
  ∀ (s : State) (tag : Tag) (a : Axis) (p : AxisParams), Settled s → ReplyRoom s →
    (a = .b → s.link.straps.bFitted = true) → (s.axis a).params = some p → s.stop.estop = .armed →
    s.pendant.site = .host → s.planner.state = .idle → s.planner.queue = [] → (s.axis a).atRest = true →
    (s.axis a).claim = false → (s.axis a).motion = .idle → (s.axis a).latch p.refDirection = false →
      ((s.axis a).mode = .loop →
        Completes (.reference tag [axisByte a]) s
          ((s.setAxis a
              { s.axis a with
                commanded := p.refValue, output := p.refValue, measured := p.refValue
                referenced := true, loopHeld := some false }).setComp
            a { s.compOf a with b := 0, direction := .minus })
          [.accept tag (.axisMode a .loop)] [])
      ∧ ((s.axis a).mode = .normal → driveEnable s a = true → s.valve.requests = [] →
          (p.clampFitted = false ∨ (s.clamp a).state = .released) →
          ∃ t x, exec (.reference tag [axisByte a]) s = .next t
            ∧ x = (if (s.axis a).referenced then (s.axis a).output else (s.axis a).commanded)
            ∧ t = { s with axes := t.axes, comp := t.comp, clamps := t.clamps, link := t.link }
            ∧ t.axes =
                s.axes.set a
                  { s.axis a with
                    referenced := false, commanded := x, motion := .reference .moving, velocity := 0
                    p := x * 1000, searchGoal := x + signed p.refDirection p.refSearchDistance }
            ∧ t.comp =
                (if (s.axis a).referenced then
                  s.comp.set a { s.compOf a with b := 0, direction := .minus } else s.comp)
            ∧ t.clamps = s.clamps.set a { s.clamp a with linger := none }
            ∧ Owes s t [.accept tag (.axisMode a .normal)] [])
      ∧ ((s.axis a).mode = .normal → driveEnable s a = true → s.valve.requests = [] → p.clampFitted = true →
          (s.clamp a).state = .engaged → (s.clamp a).switchClosed = false → s.valve.pressureOk = true →
          ∃ t, exec (.reference tag [axisByte a]) s = .next t
            ∧ (t.axis a).motion = .reference .clampWait ∧ (t.axis a).referenced = false
            ∧ t.clamps = s.clamps.set a { s.clamp a with state := .releasing, linger := none }
            ∧ t.valve = { s.valve with requests := [⟨.release a, 0, .active s.valve.clampLimit⟩] }
            ∧ (∀ c, c ≠ a → t.axis c = s.axis c)
            ∧ t = { s with axes := t.axes, comp := t.comp, clamps := t.clamps, valve := t.valve, link := t.link }
            ∧ Owes s t [.accept tag (.axisMode a .normal)] [])

/-- An accepted Park: on, the positions follow the measured one; off, a referenced axis is seated again or loses its
reference beyond its soft limits; a mode the axis has already is accepted with no change. The clamp is one that
parking does not engage, and the drive-fault input is inactive (R16, R17, R82). -/
def Obligations.ParkChangesMode : Prop :=
  ∀ (s : State) (tag : Tag) (a : Axis), Settled s → ReplyRoom s → (a = .b → s.link.straps.bFitted = true) →
    (s.axis a).configured = true → s.planner.state = .idle → s.planner.queue = [] →
    (s.axis a).atRest = true → (s.axis a).claim = false → (s.axis a).motion = .idle →
      ((s.axis a).mode = .normal → (clampTakesPart s a = true → (s.clamp a).state ≠ .released) →
        Completes (.park tag [axisByte a, 1]) s
          ((s.setAxis a
              { s.axis a with
                mode := .parked, commanded := (s.axis a).measured, output := (s.axis a).measured }).setComp
            a { s.compOf a with b := 0, direction := .minus })
          [.accept tag (.axisMode a .parked)] [])
      ∧ ((s.axis a).mode = .normal → Completes (.park tag [axisByte a, 0]) s s [.accept tag (.axisMode a .normal)] [])
      ∧ ((s.axis a).mode = .parked → Completes (.park tag [axisByte a, 1]) s s [.accept tag (.axisMode a .parked)] [])
      ∧ ((s.axis a).mode = .loop → Completes (.park tag [axisByte a, 1]) s s [.refuse tag .busy 0x1C] [])
      ∧ (∀ x, (s.axis a).mode = .parked → (s.axis a).driveFault = false →
          x = (s.axis a).measured - pitchAt (s.compOf a) (s.axis a).measured →
          ((s.axis a).referenced = true → withinSoft (s.axis a) x = true →
            Completes (.park tag [axisByte a, 0]) s
              ((s.setAxis a
                  { s.axis a with
                    mode := .normal, commanded := x, output := x + pitchAt (s.compOf a) x }).setComp
                a { s.compOf a with b := 0, direction := .minus })
              [.accept tag (.axisMode a .normal)] [])
          ∧ ((s.axis a).referenced = true → withinSoft (s.axis a) x = false →
            Completes (.park tag [axisByte a, 0]) s
              ((s.setAxis a
                  { s.axis a with
                    mode := .normal, referenced := false
                    commanded := (s.axis a).measured, output := (s.axis a).measured }).setComp
                a { s.compOf a with b := 0, direction := .minus })
              [.accept tag (.axisMode a .normal)] [])
          ∧ ((s.axis a).referenced = false →
            Completes (.park tag [axisByte a, 0]) s (s.setAxis a { s.axis a with mode := .normal })
              [.accept tag (.axisMode a .normal)] []))

/-- An accepted Loop: on, the axis keeps its reference aside and simulates from its commanded position; off, the
measured position is the encoder count again and a reference that was held is seated or lost. An axis that comes out
unreferenced takes its measured position (log 13). The drive-fault input is inactive (R16, R17, R18, R82). -/
def Obligations.LoopChangesMode : Prop :=
  ∀ (s : State) (tag : Tag) (a : Axis), Settled s → ReplyRoom s → (a = .b → s.link.straps.bFitted = true) →
    (s.axis a).configured = true → s.planner.state = .idle → s.planner.queue = [] →
    (s.axis a).atRest = true → (s.axis a).claim = false → (s.axis a).motion = .idle →
      ((s.axis a).mode = .normal →
        Completes (.loop tag [axisByte a, 1]) s
          ((s.setAxis a
              { s.axis a with
                mode := .loop, loopHeld := some (s.axis a).referenced
                output := (s.axis a).commanded, measured := (s.axis a).commanded }).setComp
            a { s.compOf a with b := 0, direction := .minus })
          [.accept tag (.axisMode a .loop)] [])
      ∧ ((s.axis a).mode = .normal → Completes (.loop tag [axisByte a, 0]) s s [.accept tag (.axisMode a .normal)] [])
      ∧ ((s.axis a).mode = .loop → Completes (.loop tag [axisByte a, 1]) s s [.accept tag (.axisMode a .loop)] [])
      ∧ ((s.axis a).mode = .parked → Completes (.loop tag [axisByte a, 1]) s s [.refuse tag .busy 0x1D] [])
      ∧ (∀ x, (s.axis a).mode = .loop → (s.axis a).driveFault = false →
          x = (s.axis a).encoder - pitchAt (s.compOf a) (s.axis a).encoder →
          ((s.axis a).loopHeld = some true → withinSoft (s.axis a) x = true →
            Completes (.loop tag [axisByte a, 0]) s
              ((s.setAxis a
                  { s.axis a with
                    mode := .normal, loopHeld := none, referenced := true, measured := (s.axis a).encoder
                    commanded := x, output := x + pitchAt (s.compOf a) x }).setComp
                a { s.compOf a with b := 0, direction := .minus })
              [.accept tag (.axisMode a .normal)] [])
          ∧ ((s.axis a).loopHeld = some false ∨ ((s.axis a).loopHeld = some true ∧ withinSoft (s.axis a) x = false) →
            Completes (.loop tag [axisByte a, 0]) s
              ((s.setAxis a
                  { s.axis a with
                    mode := .normal, loopHeld := none, referenced := false, measured := (s.axis a).encoder
                    commanded := (s.axis a).encoder, output := (s.axis a).encoder }).setComp
                a { s.compOf a with b := 0, direction := .minus })
              [.accept tag (.axisMode a .normal)] []))

/-- An accepted Set Axis puts its record in force and changes nothing else, but that a clamp that becomes fitted is
read from its switch. At a first record the switches are closed and the drive-fault input is inactive (R1, R2, R93). -/
def Obligations.SetAxisReplacesRecord : Prop :=
  ∀ (s : State) (tag : Tag) (bytes : List Byte) (a : Axis) (p : AxisParams), Settled s → ReplyRoom s →
    setAxisLength bytes = true → setAxisOperand bytes = some (a, p) → (a = .b → s.link.straps.bFitted = true) →
    setAxisBusy a p s = false →
    ((s.axis a).configured = true
      ∨ ((s.axis a).plusOpen = false ∧ (s.axis a).minusOpen = false ∧ (s.axis a).driveFault = false)) →
      Completes (.setAxis tag bytes) s
        { s with
          axes := s.axes.set a { s.axis a with params := some p }
          clamps :=
            if p.clampFitted && !clampTakesPart s a then
              s.clamps.set a
                ⟨if (s.clamp a).switchClosed then .settling else .engaged, false, none, (s.clamp a).switchClosed⟩
            else s.clamps }
        [.accept tag (.axisMode a (s.axis a).mode)] []

/-- A record that Set Axis accepts has its soft limits in order and inside the travel, every other field in its range,
its internal forms rounded as R2 gives, and room to stop a reference run inside the soft limits (R1, R2; the
places of the bytes are the model's, log 8). -/
def Obligations.SetAxisRecordChecked : Prop :=
  ∀ (bytes : List Byte) (a : Axis) (p : AxisParams), setAxisOperand bytes = some (a, p) →
    0 ≤ p.softMin ∧ p.softMin < p.softMax ∧ p.softMax ≤ travelTop a
      ∧ p.softMin ≤ p.refValue ∧ p.refValue ≤ p.softMax
      ∧ 1 ≤ p.vmax ∧ p.vmax ≤ 20000 ∧ 1 ≤ p.accel ∧ p.accel ≤ 2000 ∧ 1 ≤ p.jogFeed ∧ p.jogFeed ≤ p.vmax
      ∧ 1 ≤ p.refSearchDistance ∧ p.refSearchDistance ≤ travelTop a
      ∧ 1 ≤ p.backlashRate ∧ p.backlashRate ≤ 20 ∧ p.clampLinger ≤ 10000
      ∧ 1 ≤ p.refSearchFeed ∧ p.refSearchFeed ≤ p.vmax ∧ 10 ≤ p.feLimit ∧ p.feLimit ≤ 10000 ∧ p.backlash ≤ 200
      ∧ 6 * p.vmaxN ≤ 200 * p.vmax + 3 ∧ 200 * p.vmax < 6 * p.vmaxN + 3
      ∧ 6 * p.refN ≤ 200 * p.refSearchFeed + 3 ∧ 200 * p.refSearchFeed < 6 * p.refN + 3
      ∧ p.accelN = 4 * p.accel
      ∧ (p.refDirection = .plus →
          (p.refN * (p.refN + p.accelN) : Int) ≤ 2 * p.accelN * 1000 * (p.softMax - p.refValue))
      ∧ (p.refDirection = .minus →
          (p.refN * (p.refN + p.accelN) : Int) ≤ 2 * p.accelN * 1000 * (p.refValue - p.softMin))

/-- An accepted Load Compensation writes its chunk and, at index 0, the window with every other point 0; nothing else
changes (R75, R76). -/
def Obligations.LoadCompensationWrites : Prop :=
  ∀ (s : State) (tag : Tag) (bytes : List Byte) (l : CompLoad), Settled s → ReplyRoom s →
    bytes.length = loadLength bytes → compLoad bytes = some l → (l.axis = .b → s.link.straps.bFitted = true) →
    (s.axis l.axis).configured = true → tableLocked (s.axis l.axis) = false →
    (s.compOf l.axis).points.length = 129 →
      ∃ c, Completes (.loadCompensation tag bytes) s (s.setComp l.axis c)
          [.accept tag (.compensation l.axis c.base c.k (l.start + l.points.length - 1))] []
        ∧ c.points.length = 129 ∧ c.b = (s.compOf l.axis).b ∧ c.direction = (s.compOf l.axis).direction
        ∧ (∀ j, j < l.points.length → c.points[l.start + j]? = l.points[j]?)
        ∧ (∀ j, j < 129 → j < l.start ∨ l.start + l.points.length ≤ j →
            c.points[j]? = if l.window.isSome then some 0 else (s.compOf l.axis).points[j]?)
        ∧ (∀ base k, l.window = some (base, k) → c.base = base ∧ c.k = k)
        ∧ (l.window = none → c.base = (s.compOf l.axis).base ∧ c.k = (s.compOf l.axis).k)

/-- The drive-fault input: a level that does not change does nothing; on a configured NORMAL axis activity raises
DRIVE_FAULT, stops every axis, aborts the program and costs the axis its reference and its drive; elsewhere only the
level and the entry's condition flag follow (R7, R9, R10, R47, R186, log 4). -/
def Obligations.DriveFaultStops : Prop :=
  ∀ (s : State) (a : Axis), Settled s →
    Completes (.driveFaultInput a (s.axis a).driveFault) s s [] []
    ∧ (∀ v, (s.axis a).driveFault ≠ v → (v = false ∨ (s.axis a).configured = false ∨ (s.axis a).mode ≠ .normal) →
        Completes (.driveFaultInput a v) s
          { s.setAxis a { s.axis a with driveFault := v } with
            stop :=
              { s.stop with
                faults :=
                  s.stop.faults.map fun f =>
                    if f.code = .driveFault ∧ f.qualifier = .axis a then { f with condition := v } else f } }
          [] [])
    ∧ ((s.axis a).driveFault = false → (s.axis a).configured = true → (s.axis a).mode = .normal →
        ∃ t, exec (.driveFaultInput a true) s = .next t
          ∧ hasFault t .driveFault (.axis a) = true ∧ (t.axis a).driveFault = true
          ∧ (t.axis a).referenced = false ∧ driveEnable t a = false
          ∧ ((s.axis a).referenced = true → (t.axis a).commanded = (s.axis a).output)
          ∧ (∀ c, (t.axis c).motion = .idle ∧ (t.axis c).velocity = 0)
          ∧ (∀ c, c ≠ a → (t.axis c).commanded = (s.axis c).commanded
              ∧ (t.axis c).referenced = (s.axis c).referenced)
          ∧ (∀ c, (t.axis c).output = (s.axis c).output ∧ (t.axis c).measured = (s.axis c).measured)
          ∧ t.planner.state = .idle ∧ t.planner.queue = [] ∧ t.planner.causes = .empty
          ∧ t.clamps = s.clamps ∧ t.stop.estop = s.stop.estop
          ∧ (s.gear.step = .idle → t.gear = s.gear ∧ t.spindle = s.spindle ∧ t.coolant = s.coolant
              ∧ t.valve = s.valve))

/-- An overtravel switch that opens on a configured axis raises OVERTRAVEL for its end, latches the end, stops every
axis and aborts the program, with every reference kept; closing it leaves the latch (R10, R11, R12, R47, log 4). -/
def Obligations.OvertravelLatches : Prop :=
  ∀ (s : State) (a : Axis) (d : Sign), Settled s →
    Completes (.overtravelSwitchChange a d ((s.axis a).switchOpen d)) s s [] []
    ∧ ((s.axis a).switchOpen d = true →
        ∃ t, exec (.overtravelSwitchChange a d false) s = .next t ∧ (t.axis a).switchOpen d = false
          ∧ (∀ c e, (t.axis c).latch e = (s.axis c).latch e) ∧ t.planner = s.planner
          ∧ (∀ f ∈ t.stop.faults, f.code = .overtravel → f.qualifier = .axisEnd a d → f.condition = false)
          ∧ t = { s with axes := t.axes, stop := t.stop, link := t.link })
    ∧ ((s.axis a).switchOpen d = false → (s.axis a).configured = true →
        ∃ t, exec (.overtravelSwitchChange a d true) s = .next t
          ∧ hasFault t .overtravel (.axisEnd a d) = true ∧ (t.axis a).switchOpen d = true
          ∧ (t.axis a).latch d = true
          ∧ (∀ c e, c ≠ a ∨ e ≠ d → (t.axis c).latch e = (s.axis c).latch e)
          ∧ (∀ c, (t.axis c).motion = .idle ∧ (t.axis c).velocity = 0
              ∧ (t.axis c).commanded = (s.axis c).commanded ∧ (t.axis c).output = (s.axis c).output
              ∧ (t.axis c).measured = (s.axis c).measured ∧ (t.axis c).referenced = (s.axis c).referenced)
          ∧ t.planner.state = .idle ∧ t.planner.queue = [] ∧ t.comp = s.comp ∧ t.clamps = s.clamps
          ∧ (s.gear.step = .idle → t.gear = s.gear ∧ t.spindle = s.spindle ∧ t.coolant = s.coolant
              ∧ t.valve = s.valve))
    ∧ ((s.axis a).switchOpen d = false → (s.axis a).configured = false →
        ∃ t, exec (.overtravelSwitchChange a d true) s = .next t ∧ (t.axis a).switchOpen d = true
          ∧ (∀ c e, (t.axis c).latch e = (s.axis c).latch e) ∧ t.planner = s.planner
          ∧ t = { s with axes := t.axes, stop := t.stop, link := t.link })

/-! ## Settings and queries -/

/-- An accepted setting order replaces its own parameters and what is formed from them: dac_target for a new
motor_max, S_cmd for a new gear table and for a new union_limit under a ceiling; a BLOCKED TSC is judged again (R86,
R105, R108, R121, R143, R152). The order of the fields in the payloads of these orders, with the places and the bytes of
build_action among them, is the model's choice (log 8). -/
def Obligations.SettingOrdersReplace : Prop :=
  ∀ (s : State) (tag : Tag), Settled s → ReplyRoom s →
    (∀ bypass clampMs forkMs, bypass ≤ 7 → 200 ≤ clampMs → clampMs ≤ 10000 → 200 ≤ forkMs → forkMs ≤ 10000 →
      Completes (.setValveParams tag (leBytes 1 bypass ++ leBytes 2 clampMs ++ leBytes 2 forkMs)) s
        { s with valve := { s.valve with bypassLimit := bypass, clampLimit := clampMs, forkLimit := forkMs } }
        [.accept tag .empty] [])
    ∧ (∀ motor ramp tol, 500 ≤ motor → motor ≤ 6000 → 1 ≤ ramp → ramp ≤ 200 → 1 ≤ tol → tol ≤ 20 →
      (motor = s.spindle.motorMax ∨ s.spindle.reference = 0 →
        ∃ t, exec (.setSpindleParams tag (leBytes 2 motor ++ leBytes 1 ramp ++ leBytes 1 tol)) s = .next t
          ∧ t = { s with spindle := t.spindle, link := t.link } ∧ Owes s t [.accept tag .empty] []
          ∧ t.spindle =
              { s.spindle with
                motorMax := motor, ramp := ramp, tolerance := tol, dacTarget := t.spindle.dacTarget
                speedClamped := t.spindle.speedClamped }
          ∧ (s.spindle.phase = .creep → t.spindle.dacTarget = roundUp (s.gear.creepSpeed * 4095) motor)
          ∧ (s.spindle.phase = .reversing ∨ (s.spindle.phase = .run ∧ s.spindle.sCmd = 0) →
              t.spindle.dacTarget = 0)
          ∧ (∀ row, s.spindle.phase = .run → currentRow s = some row → s.spindle.sCmd ≠ 0 →
              t.spindle.dacTarget =
                min (roundUp (roundUp (s.spindle.sCmd * row.num) row.den * 4095) motor) 4095))
      ∧ (motor ≠ s.spindle.motorMax → s.spindle.reference ≠ 0 →
        Completes (.setSpindleParams tag (leBytes 2 motor ++ leBytes 1 ramp ++ leBytes 1 tol)) s s
          [.refuse tag .busy 0x23] []))
    ∧ (∀ (g : GearTable) (auto : Bool) (creep retry : Nat) (bytes : List Byte),
      (∀ r, rowFits (g.row r)) → 10 ≤ creep → creep ≤ 120 → retry ≤ 8 →
      bytes = rowBytes g.i ++ rowBytes g.ii ++ rowBytes g.iii ++ rowBytes g.iv ++ [flagByte auto]
        ++ leBytes 1 creep ++ leBytes 1 retry →
      (s.gear.step = .idle → s.coolant.tsc ≠ .blocked →
        ∃ t, exec (.setGears tag bytes) s = .next t
          ∧ t =
              { s with
                gear :=
                  { s.gear with table := some g, autoRange := auto, creepSpeed := creep, retryLimit := retry }
                spindle := t.spindle
                link := t.link }
          ∧ Owes s t [.accept tag .empty] [] ∧ t.spindle.sProg = s.spindle.sProg
          ∧ t.spindle.reference = s.spindle.reference ∧ t.spindle.sCmd = (commandedSpeed t t.spindle).1)
      ∧ (s.gear.step ≠ .idle → Completes (.setGears tag bytes) s s [.refuse tag .busy 0x22] []))
    ∧ (∀ (tscMin build purge limit : Nat) (act : BuildAction) (bytes : List Byte),
      50 ≤ tscMin → tscMin ≤ 1000 → 500 ≤ build → build ≤ 20000 → purge ≤ 10000 → 100 ≤ limit → limit ≤ 3000 →
      bytes = leBytes 2 tscMin ++ leBytes 2 build ++ [BuildAction.byte act] ++ leBytes 2 purge ++ leBytes 2 limit →
      (s.coolant.tsc ≠ .blocked →
        ∃ t, exec (.setCoolantParams tag bytes) s = .next t
          ∧ t =
              { s with
                coolant :=
                  { s.coolant with
                    tscMin := tscMin, buildLimit := build, buildAction := act, purgeTime := purge
                    unionLimit := limit, buildRun := 0, lossCount := 0 }
                spindle := t.spindle
                link := t.link }
          ∧ Owes s t [.accept tag .empty] []
          ∧ (tscPump s = false → t.spindle = s.spindle)
          ∧ (tscPump s = true → t.spindle.sCmd = (commandedSpeed t t.spindle).1))
      ∧ (∀ row, s.coolant.tsc = .blocked → currentRow s = some row → row.min ≤ limit →
        ∃ t, exec (.setCoolantParams tag bytes) s = .next t ∧ Owes s t [.accept tag .empty] []
          ∧ t = { s with coolant := t.coolant, spindle := t.spindle, link := t.link }
          ∧ t.coolant.tsc = .building ∧ t.coolant.buildTimer = some build ∧ t.coolant.filtered = 0
          ∧ unionCeiling t = some limit ∧ t.spindle.sCmd = (commandedSpeed t t.spindle).1))

/-- Set Overrides is taken while the pendant link is NONE or LOST, and S_cmd is formed where the spindle override
changes; Set Pendant Text replaces both lines, sends them from the first chunk and may set hw_limit (R166, R165, R106,
R177; the layout of the text's payload is the model's, log 8). -/
def Obligations.OverridesAndTextTaken : Prop :=
  ∀ (s : State) (tag : Tag), Settled s → ReplyRoom s →
    (∀ feed spindle, feed ≤ 15 → 5 ≤ spindle → spindle ≤ 12 →
      (s.pendant.link = .lost ∨ s.pendant.link = .absent →
        ∃ t, exec (.setOverrides tag (leBytes 1 (10 * feed) ++ leBytes 1 (10 * spindle))) s = .next t
          ∧ t =
              { s with
                pendant := { s.pendant with feedOverride := 10 * feed, spindleOverride := 10 * spindle }
                spindle := t.spindle
                link := t.link }
          ∧ Owes s t [.accept tag (.overrides (10 * feed) (10 * spindle))] []
          ∧ (s.pendant.spindleOverride = 10 * spindle → t.spindle = s.spindle)
          ∧ (s.pendant.spindleOverride ≠ 10 * spindle → t.spindle.sCmd = (commandedSpeed t t.spindle).1))
      ∧ (s.pendant.link = .waiting ∨ s.pendant.link = .online →
        Completes (.setOverrides tag (leBytes 1 (10 * feed) ++ leBytes 1 (10 * spindle))) s s
          [.refuse tag .busy 0x26] []))
    ∧ (∀ (line1 line2 : List Byte) (hw : Option Nat), line1.length ≤ 20 → line2.length ≤ 20 →
      (∀ n, hw = some n → 1000 ≤ n ∧ n ≤ 100000) →
      (s.link.straps.pendantFitted = true →
        Completes (.setPendantText tag (textBytes line1 line2 hw)) s
          { s with
            pendant :=
              { s.pendant with
                line1 := displayed line1, line2 := displayed line2, chunk := 0
                hwLimit := hw.getD s.pendant.hwLimit } }
          [.accept tag .empty] [])
      ∧ (s.link.straps.pendantFitted = false →
        Completes (.setPendantText tag (textBytes line1 line2 hw)) s s [.refuse tag .notFitted 0x27] []))

/-- A query answers from the state and changes nothing: positions and pitch correction as the last period left them,
up to 24 fault entries from an index, and the identity of the part (R84, R202, R203). -/
def Obligations.QueriesChangeNothing : Prop :=
  ∀ (s : State) (tag : Tag), Settled s → ReplyRoom s →
    (∀ n, n ≤ 7 → ∃ r, statusOf s n = some r ∧ Completes (.getStatus tag (leBytes 1 n)) s s [.accept tag r] [])
    ∧ (∀ n, 7 < n → n ≤ 255 → Completes (.getStatus tag (leBytes 1 n)) s s [.refuse tag .badField 0x30] [])
    ∧ (∀ a, (a = .b → s.link.straps.bFitted = true) →
        ∃ r, Completes (.getAxis tag [axisByte a]) s s [.accept tag (.axisStatus r)] []
          ∧ r.axis = a ∧ r.commanded = (s.axis a).seen.commanded ∧ r.output = (s.axis a).seen.output
          ∧ r.pitch = (s.axis a).seen.pitch ∧ r.measured = (s.axis a).measured ∧ r.encoder = (s.axis a).encoder
          ∧ r.referenced = (s.axis a).referenced ∧ r.mode = (s.axis a).mode ∧ r.params = (s.axis a).params
          ∧ r.clamp = (s.clamp a).state ∧ r.b = (s.compOf a).b ∧ r.driveEnable = driveEnable s a)
    ∧ (s.link.straps.bFitted = false → Completes (.getAxis tag [4]) s s [.refuse tag .notFitted 0x31] [])
    ∧ (∀ n, n ≤ 63 →
        Completes (.getFaults tag (leBytes 1 n)) s s
          [.accept tag (.faults s.stop.partTime s.stop.faults.length n ((s.stop.faults.drop n).take 24))] [])
    ∧ Completes (.getIdent tag []) s s [.accept tag (.ident 0x0174 0x0046 1 s.link.straps)] []

/-! ## Spindle and gears -/

/-- An accepted Spindle Set with a speed of the current range, with 0, with the range in hand forced, with no automatic
range, or with the nearest range in hand, sets the command record and forms S_cmd, turning the direction at a standstill or
REVERSING above it; one that selects another range, forced or by the speed rule, begins a change to it, with the spindle at
0 and TSC SUSPENDED; refused BUSY where the planner, a change or a spindle fault stands against it (R106, R107, R109, R111,
R128, R130, R131, R152). -/
def Obligations.SpindleSetTaken : Prop :=
  ∀ (s : State) (tag : Tag) (speed : Nat) (d : Rotation) (forced : Option GearRange) (bytes : List Byte),
    Settled s → ReplyRoom s → speed ≤ 3000 → bytes = leBytes 2 speed ++ [Rotation.byte d, forcedByte forced] →
    s.gear.table.isSome = true → s.stop.estop = .armed → s.pendant.site = .host →
      (s.planner.state ≠ .idle ∨ s.gear.step ≠ .idle ∨ (speed ≠ 0 ∧ hasSpindleFault s = true) →
        Completes (.spindleSet tag bytes) s s [.refuse tag .busy 0x18] [])
      ∧ (s.planner.state = .idle → s.gear.step = .idle → speed = 0 ∨ hasSpindleFault s = false →
        s.valve.requests = [] →
          ((forced = none ∧ (speed = 0 ∨ ∃ row, currentRow s = some row ∧ row.min ≤ speed ∧ speed ≤ row.max))
              ∨ (∃ r, forced = some r ∧ s.gear.gearbox = .range r)
              ∨ (∃ r, forced = none ∧ s.gear.gearbox = .range r
                ∧ (s.gear.autoRange = false ∨ ∃ g, s.gear.table = some g ∧ Selected g speed r)) →
            ∃ t, exec (.spindleSet tag bytes) s = .next t ∧ t = { s with spindle := t.spindle, link := t.link }
              ∧ Owes s t [.accept tag (.spindle t.spindle.sCmd s.gear.gearbox)] []
              ∧ t.spindle.sProg = speed ∧ t.spindle.commandedDir = d ∧ t.spindle.stoppedByOperator = false
              ∧ t.spindle.sCmd = (commandedSpeed t t.spindle).1
              ∧ t.spindle.reference = s.spindle.reference ∧ t.spindle.sMeas = s.spindle.sMeas
              ∧ t.spindle.stopped = s.spindle.stopped ∧ t.spindle.windowCount = s.spindle.windowCount
              ∧ t.spindle.motorMax = s.spindle.motorMax ∧ t.spindle.ramp = s.spindle.ramp
              ∧ (s.spindle.phase = .run → t.spindle.sCmd ≠ 0 → s.spindle.directionOut ≠ d →
                  s.spindle.stopped = true → t.spindle.directionOut = d ∧ t.spindle.phase = .run)
              ∧ (s.spindle.phase = .run → t.spindle.sCmd ≠ 0 → s.spindle.directionOut ≠ d →
                  s.spindle.stopped = false →
                  t.spindle.directionOut = s.spindle.directionOut ∧ t.spindle.phase = .reversing
                    ∧ t.spindle.dacTarget = 0 ∧ t.spindle.atSpeed = false))
          ∧ (∀ r, s.gear.gearbox ≠ .range r → s.gear.held = false → headIsPerRev s = false →
            s.spindle.stopped = false →
            (forced = some r
              ∨ (forced = none ∧ 0 < speed ∧ (s.gear.gearbox = .neutral ∨ s.gear.gearbox = .unknown)
                ∧ ∃ g, s.gear.table = some g ∧ (g.row r).min ≤ speed ∧ speed ≤ (g.row r).max
                  ∧ ∀ q, (GearRange.byte q).toNat < (GearRange.byte r).toNat →
                      ¬((g.row q).min ≤ speed ∧ speed ≤ (g.row q).max))
              ∨ (forced = none ∧ 0 < speed
                ∧ ∃ g, s.gear.table = some g ∧ Selected g speed r
                  ∧ (s.gear.gearbox = .neutral ∨ s.gear.gearbox = .unknown
                    ∨ ∃ r0, s.gear.gearbox = .range r0 ∧ s.gear.autoRange = true
                      ∧ ¬((g.row r0).min ≤ speed ∧ speed ≤ (g.row r0).max)))) →
            ∃ t, exec (.spindleSet tag bytes) s = .next t
              ∧ t = { s with gear := t.gear, spindle := t.spindle, coolant := t.coolant, link := t.link }
              ∧ Owes s t [.accept tag (.spindle 0 .shifting)] []
              ∧ t.gear =
                  { s.gear with
                    gearbox := .shifting, step := .stopping, target := some (.range r), owner := some .order
                    attempts := 0, stroke := none }
              ∧ t.spindle.sProg = speed ∧ t.spindle.sCmd = 0
              ∧ t.spindle.reference = (if s.gear.gearbox.inRange then 0 else s.spindle.reference)
              ∧ t.coolant.tsc = (if tscPump s then .suspended else s.coolant.tsc)))

/-- An accepted Gear Set: nothing to do in its own target; in STOPPING a new target; with the spindle turning a change
begins and waits for STOPPED; with STOPPED set and the valve bank free its first stroke is granted at once, with a
creep where it engages; behind ACTIVE strokes that leave less than its 2 units it waits, with no creep. In STROKE a new
target is taken and nothing else, in PAUSE it is planned and its stroke requested at once (R87, R89, R112, R131, R132, R133,
R137). -/
def Obligations.GearSetBeginsChange : Prop :=
  ∀ (s : State) (tag : Tag) (g : GearTarget), Settled s → ReplyRoom s → s.gear.table.isSome = true →
    s.stop.estop = .armed → s.pendant.site = .host →
      (s.planner.state ≠ .idle ∨ headIsPerRev s = true ∨ s.gear.held = true ∨ s.gear.step = .ending →
        Completes (.gearSet tag [GearTarget.byte g]) s s [.refuse tag .busy 0x19] [])
      ∧ (s.planner.state = .idle → headIsPerRev s = false → s.gear.held = false → s.valve.requests = [] →
        (s.gear.step = .idle → s.gear.gearbox = g.state →
          Completes (.gearSet tag [GearTarget.byte g]) s s [.accept tag (.gear s.gear.gearbox .idle)] [])
        ∧ (s.gear.step = .stopping → s.gear.target ≠ some g →
          Completes (.gearSet tag [GearTarget.byte g]) s
            { s with gear := { s.gear with target := some g, owner := some .order, attempts := 0 } }
            [.accept tag (.gear s.gear.gearbox .stopping)] [])
        ∧ (s.gear.step = .idle → s.gear.gearbox ≠ g.state → s.spindle.stopped = false →
          ∃ t, exec (.gearSet tag [GearTarget.byte g]) s = .next t
            ∧ t = { s with gear := t.gear, spindle := t.spindle, coolant := t.coolant, link := t.link }
            ∧ Owes s t [.accept tag (.gear .shifting .stopping)] []
            ∧ t.gear =
                { s.gear with
                  gearbox := .shifting, step := .stopping, target := some g, owner := some .order, attempts := 0
                  stroke := none }
            ∧ t.spindle.sProg = s.spindle.sProg ∧ t.spindle.sCmd = 0
            ∧ t.spindle.reference = (if s.gear.gearbox.inRange then 0 else s.spindle.reference)
            ∧ t.coolant.tsc = (if tscPump s then .suspended else s.coolant.tsc))
        ∧ (∀ k, s.gear.step = .idle → s.gear.gearbox ≠ g.state → s.spindle.stopped = true →
          s.valve.pressureOk = true → planStroke s.gear.switches g = some k → confirmed s (.fork k) = false →
          ∃ t, exec (.gearSet tag [GearTarget.byte g]) s = .next t
            ∧ t =
                { s with
                  gear := t.gear, spindle := t.spindle, coolant := t.coolant, valve := t.valve, link := t.link }
            ∧ Owes s t [.accept tag (.gear .shifting .stroke)] []
            ∧ t.gear =
                { s.gear with
                  gearbox := .shifting, step := .stroke, target := some g, owner := some .order, attempts := 0
                  stroke := some k, engaging := strokeEngages s.gear.switches k
                  creep := if strokeEngages s.gear.switches k then some ⟨.cw, 250⟩ else s.gear.creep }
            ∧ t.valve = { s.valve with requests := [⟨.fork k, 0, .active s.valve.forkLimit⟩] }
            ∧ t.spindle.sProg = s.spindle.sProg ∧ t.spindle.sCmd = 0
            ∧ (strokeEngages s.gear.switches k = true →
                t.spindle.phase = .creep ∧ t.spindle.directionOut = .cw
                  ∧ t.spindle.reference =
                      if spindleEnable s then roundUp (s.gear.creepSpeed * 4095) s.spindle.motorMax else 0)
            ∧ (strokeEngages s.gear.switches k = false →
                t.spindle.reference = (if s.gear.gearbox.inRange then 0 else s.spindle.reference))))
      ∧ (s.planner.state = .idle → headIsPerRev s = false → s.gear.held = false →
        (s.gear.step = .stopping ∨ s.gear.step = .stroke ∨ s.gear.step = .pause → s.gear.target = some g →
          Completes (.gearSet tag [GearTarget.byte g]) s s
            [.accept tag (.gear s.gear.gearbox s.gear.step)] [])
        ∧ (s.gear.step = .stroke → s.gear.target ≠ some g →
          Completes (.gearSet tag [GearTarget.byte g]) s
            { s with gear := { s.gear with target := some g, owner := some .order, attempts := 0 } }
            [.accept tag (.gear s.gear.gearbox .stroke)] [])
        ∧ (∀ k, s.gear.step = .pause → s.gear.target ≠ some g → planStroke s.gear.switches g = some k →
          s.valve.requests = [] → s.valve.pressureOk = true → confirmed s (.fork k) = false →
          ∃ t, exec (.gearSet tag [GearTarget.byte g]) s = .next t
            ∧ t = { s with gear := t.gear, spindle := t.spindle, valve := t.valve, link := t.link }
            ∧ Owes s t [.accept tag (.gear s.gear.gearbox .stroke)] []
            ∧ t.gear =
                { s.gear with
                  step := .stroke, target := some g, owner := some .order, attempts := 0, pauseTimer := none
                  stroke := some k, engaging := strokeEngages s.gear.switches k
                  creep := if strokeEngages s.gear.switches k then some ⟨.cw, 250⟩ else s.gear.creep }
            ∧ t.valve = { s.valve with requests := [⟨.fork k, 0, .active s.valve.forkLimit⟩] }
            ∧ t.spindle.sProg = s.spindle.sProg
            ∧ (strokeEngages s.gear.switches k = true → t.spindle.phase = .creep)
            ∧ (strokeEngages s.gear.switches k = false → t.spindle = s.spindle))
        ∧ (s.gear.step = .pause → s.gear.target ≠ some g → planStroke s.gear.switches g = none →
          s.coolant.tsc ≠ .suspended → s.coolant.tsc ≠ .blocked →
          ∃ t, exec (.gearSet tag [GearTarget.byte g]) s = .next t
            ∧ t = { s with gear := t.gear, spindle := t.spindle, link := t.link }
            ∧ t.gear =
                { s.gear with
                  step := .idle, target := none, owner := none, stroke := none, attempts := 0, pauseTimer := none
                  gearbox := deriveGearbox s.gear.switches }
            ∧ t.spindle.sCmd = (commandedSpeed t t.spindle).1
            ∧ Owes s t [.accept tag (.gear t.gear.gearbox .idle)] [])
        ∧ (∀ k, s.gear.step = .idle → s.gear.gearbox ≠ g.state → s.spindle.stopped = true →
          s.valve.pressureOk = true → planStroke s.gear.switches g = some k → 2 ≤ flowInUse s.valve.requests →
          (∀ r ∈ s.valve.requests, r.isActive = true ∧ confirmed s r.stroke = false) →
          ∃ t, exec (.gearSet tag [GearTarget.byte g]) s = .next t
            ∧ t =
                { s with
                  gear := t.gear, spindle := t.spindle, coolant := t.coolant, valve := t.valve, link := t.link }
            ∧ Owes s t [.accept tag (.gear .shifting .stroke)] []
            ∧ t.gear =
                { s.gear with
                  gearbox := .shifting, step := .stroke, target := some g, owner := some .order, attempts := 0
                  stroke := some k, engaging := strokeEngages s.gear.switches k }
            ∧ t.valve = { s.valve with requests := s.valve.requests ++ [⟨.fork k, 0, .waiting⟩] }
            ∧ t.spindle.sProg = s.spindle.sProg ∧ t.spindle.sCmd = 0
            ∧ (s.spindle.phase ≠ .creep → t.spindle.phase ≠ .creep)))

/-- At a reference update the reference moves toward dac_target by at most spindle_ramp, where the enable is on, the
gearbox in a range and no creep runs; an edge of the spindle encoder is one signed count of the window (R110, R113,
R114). -/
def Obligations.ReferenceRampsEdgesCount : Prop :=
  ∀ s : State, Settled s →
    Completes .referenceUpdate s
      { s with
        clocks := { s.clocks with referenceUpdate := 10 }
        spindle :=
          { s.spindle with
            reference :=
              if spindleEnable s = true ∧ s.gear.gearbox.inRange = true ∧ s.spindle.phase ≠ .creep then
                if s.spindle.dacTarget ≤ s.spindle.reference then
                  max s.spindle.dacTarget (s.spindle.reference - s.spindle.ramp)
                else min s.spindle.dacTarget (s.spindle.reference + s.spindle.ramp)
              else s.spindle.reference } }
      [] []
    ∧ ∀ clockwise : Bool,
        Completes (.spindleEncoderEdge clockwise) s
          { s with
            spindle :=
              { s.spindle with windowCount := s.spindle.windowCount + (if clockwise then 1 else -1) } }
          [] []

/-- A speed window's end: S_meas from the count, the low-window count and STOPPED in every state; AT_SPEED in RUN;
the stall count, and at its thirtieth window SPINDLE_STALL with its actions; the turn of a REVERSING spindle that has
stopped; the first stroke of a change that waited for STOPPED (R111, R114, R115, R116, R117, R131). That the turn leaves
the reference as it stands, 0 or not, is the model's choice (log 44), and so is the order of the rules at a window's end,
by which AT_SPEED is judged before the turn and is clear after it (log 17). -/
def Obligations.SpeedWindowMeasures : Prop :=
  ∀ (s : State) (speed : Nat), Settled s → speed = roundUp (s.spindle.windowCount.natAbs * 600) 4096 →
    (∃ t, exec .speedWindowEnd s = .next t
      ∧ t.spindle.sMeas = speed ∧ t.spindle.windowCount = 0
      ∧ t.spindle.lowCount = (if speed ≤ 2 then min 2 (s.spindle.lowCount + 1) else 0)
      ∧ (t.spindle.stopped = true ↔ t.spindle.lowCount = 2)
      ∧ t.spindle.motorMax = s.spindle.motorMax ∧ t.spindle.ramp = s.spindle.ramp
      ∧ t.spindle.tolerance = s.spindle.tolerance ∧ t.clocks = { s.clocks with speedWindow := 100 }
      ∧ t.stop.estop = s.stop.estop ∧ t.comp = s.comp)
    ∧ (s.gear.step ≠ .stopping → s.spindle.phase = .run →
      s.spindle.sCmd = 0 ∨ spindleEnable s = false ∨ 2 < speed →
        ∃ t, exec .speedWindowEnd s = .next t
          ∧ t = { s with spindle := t.spindle, clocks := t.clocks, link := t.link } ∧ Owes s t [] []
          ∧ t.spindle =
              { s.spindle with
                sMeas := speed, windowCount := 0, lowCount := t.spindle.lowCount, stopped := t.spindle.stopped
                atSpeed := t.spindle.atSpeed, stallCount := 0 }
          ∧ (t.spindle.atSpeed = true ↔
              s.spindle.sCmd ≠ 0 ∧ s.spindle.directionOut = s.spindle.commandedDir
                ∧ speed ≤ s.spindle.sCmd + max 2 (s.spindle.sCmd * s.spindle.tolerance / 100)
                ∧ s.spindle.sCmd ≤ speed + max 2 (s.spindle.sCmd * s.spindle.tolerance / 100)))
    ∧ (s.gear.step ≠ .stopping → s.spindle.phase = .run → s.spindle.sCmd ≠ 0 → spindleEnable s = true → speed ≤ 2 →
        (s.spindle.stallCount < 29 →
          ∃ t, exec .speedWindowEnd s = .next t
            ∧ t = { s with spindle := t.spindle, clocks := t.clocks, link := t.link }
            ∧ t.spindle.stallCount = s.spindle.stallCount + 1 ∧ t.spindle.sProg = s.spindle.sProg
            ∧ t.spindle.reference = s.spindle.reference)
        ∧ (29 ≤ s.spindle.stallCount →
          ∃ t, exec .speedWindowEnd s = .next t
            ∧ t =
                { s with
                  spindle := t.spindle, planner := t.planner, stop := t.stop, clocks := t.clocks, link := t.link }
            ∧ hasFault t .spindleStall .absent = true ∧ spindleEnable t = false
            ∧ t.spindle.sProg = 0 ∧ t.spindle.sCmd = 0 ∧ t.spindle.reference = 0
            ∧ (s.planner.state = .idle → t.planner = s.planner)
            ∧ (s.planner.state = .running → t.planner.causes.spindle = true)))
    ∧ (s.gear.step ≠ .stopping → s.spindle.phase = .reversing → speed ≤ 2 → 1 ≤ s.spindle.lowCount →
        ∃ t, exec .speedWindowEnd s = .next t ∧ t.spindle.phase = .run
          ∧ t.spindle.directionOut = s.spindle.commandedDir ∧ t.spindle.stopped = true
          ∧ t.spindle.atSpeed = false ∧ t.spindle.reference = s.spindle.reference)
    ∧ (∀ g k, s.gear.step = .stopping → s.gear.target = some g → s.spindle.sCmd = 0 → speed ≤ 2 →
        1 ≤ s.spindle.lowCount → s.valve.requests = [] → s.stop.estop = .armed → s.valve.pressureOk = true →
        planStroke s.gear.switches g = some k → confirmed s (.fork k) = false →
        ∃ t, exec .speedWindowEnd s = .next t ∧ t.gear.step = .stroke ∧ t.gear.stroke = some k
          ∧ t.gear.target = some g ∧ t.valve.requests = [⟨.fork k, 0, .active s.valve.forkLimit⟩])

/-- The inverter fault input: a level that does not change does nothing; a fall, and a rise while the chain is not
ARMED, move the level and the entry's condition flag alone; a rise in ARMED raises SPINDLE_FAULT, brings the spindle
to 0 at once and raises SPINDLE to the planner, which notes that an ACTIVE PER_REV MOVE takes its start conditions again
(R39, R67, R113, R117, R186, log 4, log 41). -/
def Obligations.InverterFaultStopsSpindle : Prop :=
  ∀ s : State, Settled s →
    Completes (.inverterFaultInput s.spindle.inverterFault) s s [] []
    ∧ (∀ v, s.spindle.inverterFault ≠ v → v = false ∨ s.stop.estop ≠ .armed →
        Completes (.inverterFaultInput v) s
          { s with
            spindle := { s.spindle with inverterFault := v }
            stop :=
              { s.stop with
                faults :=
                  s.stop.faults.map fun f =>
                    if f.code = .spindleFault ∧ f.qualifier = .absent then { f with condition := v } else f } }
          [] [])
    ∧ (s.spindle.inverterFault = false → s.stop.estop = .armed →
        ∃ t, exec (.inverterFaultInput true) s = .next t
          ∧ t = { s with spindle := t.spindle, planner := t.planner, stop := t.stop, link := t.link }
          ∧ hasFault t .spindleFault .absent = true ∧ spindleEnable t = false
          ∧ t.spindle.inverterFault = true ∧ t.spindle.sProg = 0 ∧ t.spindle.sCmd = 0
          ∧ t.spindle.reference = 0 ∧ t.spindle.stoppedByOperator = false ∧ t.spindle.stallCount = 0
          ∧ t.spindle.phase ≠ .reversing
          ∧ (s.planner.state = .idle ∨ s.planner.state = .aborting → t.planner = s.planner)
          ∧ (s.planner.state = .running → s.planner.head = some .active →
              t.planner.state = .holding ∧ t.planner.causes = { s.planner.causes with spindle := true }
                ∧ (headIsPerRev s = true → t.planner.retake = true))
          ∧ (s.planner.state = .running → s.planner.head ≠ some .active →
              t.planner.state = .held ∧ t.planner.causes = { s.planner.causes with spindle := true }))

/-- A fork switch that changes. With no change in progress: in a range it is a slip, with the gearbox held UNKNOWN and
the spindle at 0; in NEUTRAL and UNKNOWN the gearbox is derived anew; where the gearbox is held, or in STOPPING and
PAUSE, the level alone follows (R110, R125, R126, R127, log 4). In STROKE and ENDING with the fork's request alone on the
valve list: a level that does not show the target follows alone; one that does ends the stroke, with its creep. In STROKE
the change then settles at the position the switches show, or requests its next stroke with the attempts from 0, or takes
a plan of the stroke that succeeded as a failed attempt, a pause of 500 ms or GEAR_FAULT at retry_limit; in ENDING it ends
(R90, R91, R124, R134, R135, R136, R139). TSC is neither SUSPENDED nor BLOCKED there, and the planner holds no PER_REV
MOVE. -/
def Obligations.ForkSwitchSlips : Prop :=
  ∀ (s : State) (k : ForkSwitch), Settled s →
    Completes (.forkSwitchChange k (ForkSwitches.level s.gear.switches k)) s s [] []
    ∧ (∀ v, ForkSwitches.level s.gear.switches k ≠ v →
        s.gear.step = .stopping ∨ s.gear.step = .pause ∨ (s.gear.step = .idle ∧ s.gear.held = true) →
        Completes (.forkSwitchChange k v) s
          { s with gear := { s.gear with switches := ForkSwitches.put s.gear.switches k v } } [] [])
    ∧ (∀ v r, ForkSwitches.level s.gear.switches k ≠ v → s.gear.step = .idle → s.gear.held = false →
        s.gear.gearbox = .range r → s.coolant.tsc ≠ .blocked →
        ∃ t, exec (.forkSwitchChange k v) s = .next t
          ∧ t =
              { s with gear := t.gear, spindle := t.spindle, planner := t.planner, stop := t.stop, link := t.link }
          ∧ t.gear =
              { s.gear with switches := ForkSwitches.put s.gear.switches k v, held := true, gearbox := .unknown }
          ∧ hasFault t .gearSlip (.fork (ForkSwitch.fork k)) = true
          ∧ t.spindle.sProg = 0 ∧ t.spindle.sCmd = 0 ∧ t.spindle.reference = 0
          ∧ (s.planner.state = .idle → t.planner = s.planner)
          ∧ (s.planner.state = .running → t.planner.causes.gear = true))
    ∧ (∀ v, ForkSwitches.level s.gear.switches k ≠ v → s.gear.step = .idle → s.gear.held = false →
        s.gear.gearbox = .neutral ∨ s.gear.gearbox = .unknown → s.coolant.tsc ≠ .blocked →
        ∃ t, exec (.forkSwitchChange k v) s = .next t
          ∧ t = { s with gear := t.gear, spindle := t.spindle, link := t.link } ∧ Owes s t [] []
          ∧ t.gear =
              { s.gear with
                switches := ForkSwitches.put s.gear.switches k v, gearbox := deriveGearbox (ForkSwitches.put s.gear.switches k v) }
          ∧ t.spindle.sProg = s.spindle.sProg ∧ t.spindle.reference = s.spindle.reference
          ∧ t.spindle.sCmd = (commandedSpeed t t.spindle).1)
    ∧ (∀ v k0 k1 b n w, ForkSwitches.level s.gear.switches k ≠ v →
        s.gear.step = .stroke ∨ s.gear.step = .ending → s.valve.requests = [⟨.fork k0, b, .active n⟩] →
        s.gear.stroke = some k1 → s.coolant.tsc ≠ .suspended → s.coolant.tsc ≠ .blocked → headIsPerRev s = false →
        w = ForkSwitches.put s.gear.switches k v →
        (confirmed { s with gear := { s.gear with switches := w } } (.fork k0) = false →
          Completes (.forkSwitchChange k v) s { s with gear := { s.gear with switches := w } } [] [])
        ∧ (confirmed { s with gear := { s.gear with switches := w } } (.fork k0) = true →
          (∀ g, s.gear.step = .stroke → s.gear.target = some g → planStroke w g = none →
            ∃ t, exec (.forkSwitchChange k v) s = .next t
              ∧ t = { s with gear := t.gear, spindle := t.spindle, valve := t.valve, link := t.link } ∧ Owes s t [] []
              ∧ t.valve = { s.valve with requests := [] }
              ∧ t.gear =
                  { s.gear with
                    switches := w, step := .idle, target := none, owner := none, stroke := none, attempts := 0
                    creep := none, gearbox := deriveGearbox w }
              ∧ t.spindle.sProg = s.spindle.sProg ∧ t.spindle.sCmd = (commandedSpeed t t.spindle).1
              ∧ (s.gear.creep.isSome = true → t.spindle.reference = 0 ∧ t.spindle.phase ≠ .creep))
          ∧ (∀ g k2, s.gear.step = .stroke → s.gear.target = some g → planStroke w g = some k2 → k2 ≠ k1 →
            s.valve.pressureOk = true → s.stop.estop = .armed →
            confirmed { s with gear := { s.gear with switches := w } } (.fork k2) = false →
            ∃ t, exec (.forkSwitchChange k v) s = .next t
              ∧ t = { s with gear := t.gear, spindle := t.spindle, valve := t.valve, link := t.link } ∧ Owes s t [] []
              ∧ t.valve = { s.valve with requests := [⟨.fork k2, 0, .active s.valve.forkLimit⟩] }
              ∧ t.gear =
                  { s.gear with
                    switches := w, stroke := some k2, engaging := strokeEngages w k2, attempts := 0
                    creep := if strokeEngages w k2 then some ⟨.cw, 250⟩ else none }
              ∧ t.spindle.sProg = s.spindle.sProg)
          ∧ (∀ g, s.gear.step = .stroke → s.gear.target = some g → planStroke w g = some k1 →
            (s.gear.retryLimit = 0 ∨ s.gear.attempts + 1 < s.gear.retryLimit →
              ∃ t, exec (.forkSwitchChange k v) s = .next t
                ∧ t = { s with gear := t.gear, spindle := t.spindle, valve := t.valve, link := t.link } ∧ Owes s t [] []
                ∧ t.valve = { s.valve with requests := [] }
                ∧ t.gear =
                    { s.gear with
                      switches := w, step := .pause, pauseTimer := some 500
                      attempts := min 255 (s.gear.attempts + 1), creep := none }
                ∧ (s.gear.creep = none → t.spindle = s.spindle)
                ∧ (s.gear.creep.isSome = true → t.spindle.reference = 0 ∧ t.spindle.phase ≠ .creep))
            ∧ (s.gear.retryLimit ≠ 0 → s.gear.retryLimit ≤ 8 → s.gear.retryLimit ≤ s.gear.attempts + 1 →
              ∃ t, exec (.forkSwitchChange k v) s = .next t
                ∧ hasFault t .gearFault (.fork (ForkStroke.fork k1)) = true
                ∧ t.gear =
                    { s.gear with
                      switches := w, step := .idle, target := none, owner := none, stroke := none, creep := none
                      attempts := min 255 (s.gear.attempts + 1), held := true, gearbox := .unknown }
                ∧ t.spindle.sProg = 0 ∧ t.spindle.sCmd = 0
                ∧ t.valve = { s.valve with requests := [] } ∧ t.axes = s.axes ∧ t.clamps = s.clamps ∧ t.comp = s.comp
                ∧ t.coolant = s.coolant
                ∧ (s.planner.state = .running → t.planner.causes.gear = true)))
          ∧ (s.gear.step = .ending → s.gear.deferred = none →
            ∃ t, exec (.forkSwitchChange k v) s = .next t
              ∧ t = { s with gear := t.gear, spindle := t.spindle, valve := t.valve, link := t.link } ∧ Owes s t [] []
              ∧ t.valve = { s.valve with requests := [] }
              ∧ t.gear =
                  { s.gear with
                    switches := w, step := .idle, target := none, owner := none, stroke := none, pauseTimer := none
                    gearbox := deriveGearbox w }
              ∧ t.spindle.sProg = s.spindle.sProg ∧ t.spindle.sCmd = (commandedSpeed t t.spindle).1)))

/-- The alternation turns a creep; a retry pause's end plans afresh: the same stroke again with its attempts kept, a
different one from 0, or the change settles at the position that the switches show (R112, R132, R133, R135, R136,
log 3). -/
def Obligations.CreepAndPauseExpire : Prop :=
  ∀ s : State, Settled s →
    (s.gear.creep = none → Completes .creepAlternation s s [] [])
    ∧ (∀ c, s.gear.creep = some c →
        Completes .creepAlternation s
          { s with
            gear := { s.gear with creep := some ⟨otherRotation c.direction, 250⟩ }
            spindle :=
              { s.spindle with
                directionOut := otherRotation c.direction
                dacTarget := roundUp (s.gear.creepSpeed * 4095) s.spindle.motorMax
                reference :=
                  if spindleEnable s then roundUp (s.gear.creepSpeed * 4095) s.spindle.motorMax else 0 } }
          [] [])
    ∧ (s.gear.pauseTimer = none → Completes .pauseTimerExpiry s s [] [])
    ∧ (∀ n g k, s.gear.pauseTimer = some n → s.gear.target = some g → planStroke s.gear.switches g = some k →
        s.valve.requests = [] → s.valve.pressureOk = true → s.stop.estop = .armed → confirmed s (.fork k) = false →
        ∃ t, exec .pauseTimerExpiry s = .next t
          ∧ t = { s with gear := t.gear, spindle := t.spindle, valve := t.valve, link := t.link } ∧ Owes s t [] []
          ∧ t.valve = { s.valve with requests := [⟨.fork k, 0, .active s.valve.forkLimit⟩] }
          ∧ t.gear =
              { s.gear with
                step := .stroke, stroke := some k, engaging := strokeEngages s.gear.switches k, pauseTimer := none
                attempts := if s.gear.stroke = some k then s.gear.attempts else 0
                creep := if strokeEngages s.gear.switches k then some ⟨.cw, 250⟩ else s.gear.creep })
    ∧ (∀ n g, s.gear.pauseTimer = some n → s.gear.target = some g → planStroke s.gear.switches g = none →
        s.valve.requests = [] →
        ∃ t, exec .pauseTimerExpiry s = .next t ∧ t.valve = s.valve ∧ t.axes = s.axes ∧ t.stop = s.stop
          ∧ t.gear =
              { s.gear with
                step := .idle, target := none, owner := none, stroke := none, attempts := 0, pauseTimer := none
                gearbox := deriveGearbox s.gear.switches }
          ∧ t.spindle.sCmd = (commandedSpeed t t.spindle).1)

/-! ## Coolant -/

/-- An accepted Coolant Set in IDLE: the requests, the flood state by the level inhibit, and the TSC state by the table
of R145 with the start judgement of R146; S_cmd is formed where the union ceiling is set or removed, and the spindle is as
it was where it is not; refused BUSY while a program runs and NOT_FITTED without TSC (R106, R145, R146, R150, R151,
R156). -/
def Obligations.CoolantSetPlaces : Prop :=
  ∀ (s : State) (tag : Tag) (m : CoolantMode), Settled s → ReplyRoom s →
    (m.asksTsc = true → s.link.straps.tscFitted = false →
      Completes (.coolantSet tag [CoolantMode.byte m]) s s [.refuse tag .notFitted 0x1A] [])
    ∧ ((m.asksTsc = true → s.link.straps.tscFitted = true) → s.stop.estop = .armed → s.pendant.site = .host →
      (s.planner.state = .running ∨ s.planner.state = .holding ∨ s.planner.state = .aborting →
        Completes (.coolantSet tag [CoolantMode.byte m]) s s [.refuse tag .busy 0x1A] [])
      ∧ (s.planner.state = .idle →
        ∃ t, exec (.coolantSet tag [CoolantMode.byte m]) s = .next t
          ∧ t = { s with coolant := t.coolant, spindle := t.spindle, link := t.link }
          ∧ Owes s t [.accept tag (.coolant t.coolant.flood t.coolant.tsc)] []
          ∧ t.coolant.floodRequested = m.asksFlood ∧ t.coolant.tscRequested = m.asksTsc
          ∧ t.coolant.flood = (if m.asksFlood then (if levelInhibit s then .inhibited else .on) else .off)
          ∧ t.coolant.lastSample = s.coolant.lastSample ∧ t.coolant.tscMin = s.coolant.tscMin
          ∧ (t.coolant.tsc = s.coolant.tsc → t.spindle = s.spindle)
          ∧ (unionCeiling t = unionCeiling s → t.spindle = s.spindle)
          ∧ (unionCeiling t ≠ unionCeiling s → t.spindle.sCmd = (commandedSpeed t t.spindle).1)
          ∧ (m.asksTsc = true → s.coolant.tsc = .off ∨ s.coolant.tsc = .purging →
              (s.coolant.tsc = .purging → t.coolant.purgeTimer = none)
              ∧ (levelInhibit s = true → t.coolant.tsc = .faulted)
              ∧ (levelInhibit s = false → s.gear.gearbox = .shifting → t.coolant.tsc = .suspended)
              ∧ (∀ row, levelInhibit s = false → currentRow s = some row → s.coolant.unionLimit < row.min →
                  t.coolant.tsc = .blocked)
              ∧ (levelInhibit s = false → s.gear.gearbox ≠ .shifting →
                  (∀ row, currentRow s = some row → row.min ≤ s.coolant.unionLimit) →
                  t.coolant.tsc = .building ∧ t.coolant.buildTimer = some s.coolant.buildLimit
                    ∧ t.coolant.window = List.replicate 8 0 ∧ t.coolant.filtered = 0 ∧ t.coolant.late = false
                    ∧ unionCeiling t = some s.coolant.unionLimit))
          ∧ (m.asksTsc = true → s.coolant.tsc ≠ .off → s.coolant.tsc ≠ .purging → t.coolant.tsc = s.coolant.tsc)
          ∧ (m.asksTsc = false → s.coolant.tsc = .off ∨ s.coolant.tsc = .purging → t.coolant.tsc = s.coolant.tsc)
          ∧ (m.asksTsc = false →
              s.coolant.tsc = .building ∨ s.coolant.tsc = .ready ∨ s.coolant.tsc = .suspended →
              t.coolant.buildTimer = none ∧ t.coolant.late = false
                ∧ (s.coolant.purgeTime = 0 → t.coolant.tsc = .off)
                ∧ (s.coolant.purgeTime ≠ 0 →
                    t.coolant.tsc = .purging ∧ t.coolant.purgeTimer = some s.coolant.purgeTime))
          ∧ (m.asksTsc = false → s.coolant.tsc = .blocked ∨ s.coolant.tsc = .faulted → t.coolant.tsc = .off)))

/-- A pressure sample joins the window and renews the filtered pressure in every state; in BUILDING it drives the
build run, whose thirtieth sample makes TSC READY and disarms the coolant wait; in READY it drives the loss count,
whose tenth sample is a loss (R34, R144, R147, R149). -/
def Obligations.PressureSampleFilters : Prop :=
  ∀ (s : State) (code : BitVec 12) (c : Coolant), Settled s →
    c = { s.coolant with
            lastSample := roundUp (code.toNat * 1000) 4095
            window := s.coolant.window.drop 1 ++ [roundUp (code.toNat * 1000) 4095]
            filtered := (s.coolant.window.drop 1 ++ [roundUp (code.toNat * 1000) 4095]).sum / 8 } →
      (s.coolant.tsc ≠ .building → s.coolant.tsc ≠ .ready →
        Completes (.pressureSample code) s
          { s with coolant := c, clocks := { s.clocks with pressureSample := 10 } } [] [])
      ∧ (s.coolant.tsc = .building → c.filtered < s.coolant.tscMin →
        Completes (.pressureSample code) s
          { s with coolant := { c with buildRun := 0 }, clocks := { s.clocks with pressureSample := 10 } } [] [])
      ∧ (s.coolant.tsc = .building → s.coolant.tscMin ≤ c.filtered → s.coolant.buildRun < 29 →
        Completes (.pressureSample code) s
          { s with
            coolant := { c with buildRun := s.coolant.buildRun + 1 }
            clocks := { s.clocks with pressureSample := 10 } }
          [] [])
      ∧ (s.coolant.tsc = .building → s.coolant.tscMin ≤ c.filtered → 29 ≤ s.coolant.buildRun →
        ∃ t, exec (.pressureSample code) s = .next t
          ∧ t =
              { s with
                coolant :=
                  { c with buildRun := 30, tsc := .ready, buildTimer := none, late := false, lossCount := 0 }
                planner := { s.planner with coolantWait := false }
                clocks := { s.clocks with pressureSample := 10 }
                link := t.link }
          ∧ Owes s t [] [] ∧ tscPump t = true ∧ unionCeiling t = some s.coolant.unionLimit)
      ∧ (s.coolant.tsc = .ready → s.coolant.tscMin * 90 / 100 ≤ c.filtered →
        Completes (.pressureSample code) s
          { s with coolant := { c with lossCount := 0 }, clocks := { s.clocks with pressureSample := 10 } } [] [])
      ∧ (s.coolant.tsc = .ready → c.filtered < s.coolant.tscMin * 90 / 100 → s.coolant.lossCount < 9 →
        Completes (.pressureSample code) s
          { s with
            coolant := { c with lossCount := s.coolant.lossCount + 1 }
            clocks := { s.clocks with pressureSample := 10 } }
          [] [])
      ∧ (s.coolant.tsc = .ready → c.filtered < s.coolant.tscMin * 90 / 100 → 9 ≤ s.coolant.lossCount →
        ∃ t, exec (.pressureSample code) s = .next t
          ∧ t =
              { s with
                coolant := { c with lossCount := 10, tsc := .faulted, buildTimer := none, late := false }
                spindle := t.spindle
                planner := t.planner
                stop := t.stop
                clocks := { s.clocks with pressureSample := 10 }
                link := t.link }
          ∧ hasFault t .coolantPressure .absent = true ∧ tscPump t = false ∧ purgeValve t = false
          ∧ t.spindle.sProg = s.spindle.sProg
          ∧ (s.planner.state = .idle → t.planner = s.planner)
          ∧ (s.planner.state = .running → s.planner.head = some .active →
              t.planner.state = .holding ∧ t.planner.causes = { s.planner.causes with coolant := true }))

/-- The build timer's expiry sets late or faults, the purge timer's closes the valve; the tank going low inhibits the
flood and faults a TSC that is asked for, and going normal restarts nothing (R148, R150, R153, R154, log 3, log 4). -/
def Obligations.CoolantTimersAndTank : Prop :=
  ∀ s : State, Settled s →
    (s.coolant.buildTimer = none → Completes .buildTimerExpiry s s [] [])
    ∧ (∀ n, s.coolant.buildTimer = some n → s.coolant.buildAction = .wait →
        Completes .buildTimerExpiry s
          { s with coolant := { s.coolant with buildTimer := none, late := true } } [] [])
    ∧ (∀ n, s.coolant.buildTimer = some n → s.coolant.buildAction = .fault →
        ∃ t, exec .buildTimerExpiry s = .next t
          ∧ t =
              { s with
                coolant := { s.coolant with tsc := .faulted, buildTimer := none, late := false }
                spindle := t.spindle
                planner := t.planner
                stop := t.stop
                link := t.link }
          ∧ hasFault t .coolantPressure .absent = true
          ∧ (tscPump s = true → t.spindle.sCmd = (commandedSpeed t t.spindle).1)
          ∧ (tscPump s = false → t.spindle = s.spindle)
          ∧ (s.planner.state = .idle → t.planner = s.planner)
          ∧ (s.planner.state = .running → t.planner.causes.coolant = true))
    ∧ (s.coolant.purgeTimer = none → Completes .purgeTimerExpiry s s [] [])
    ∧ (∀ n, s.coolant.purgeTimer = some n →
        Completes .purgeTimerExpiry s
          { s with coolant := { s.coolant with purgeTimer := none, tsc := .off } } [] [])
    ∧ Completes (.tankLowSwitchChange s.coolant.tankLow) s s [] []
    ∧ (s.coolant.tankLow = false →
        ∃ t, exec (.tankLowSwitchChange true) s = .next t
          ∧ t =
              { s with
                coolant := t.coolant, spindle := t.spindle, planner := t.planner, stop := t.stop, link := t.link }
          ∧ hasFault t .coolantLevel .absent = true ∧ t.coolant.tankLow = true ∧ levelInhibit t = true
          ∧ t.coolant.flood = (if s.coolant.flood = .on then .inhibited else s.coolant.flood)
          ∧ t.coolant.tsc =
              (if s.coolant.tsc = .building ∨ s.coolant.tsc = .ready ∨ s.coolant.tsc = .suspended
                  ∨ s.coolant.tsc = .blocked then .faulted
                else s.coolant.tsc)
          ∧ floodPump t = false ∧ tscPump t = false
          ∧ t.coolant.floodRequested = s.coolant.floodRequested ∧ t.coolant.tscRequested = s.coolant.tscRequested
          ∧ t.coolant.purgeTimer = s.coolant.purgeTimer
          ∧ (s.planner.coolantWait = false → s.coolant.tsc ≠ .ready → t.planner = s.planner)
          ∧ (s.planner.state = .running → s.planner.coolantWait = true ∨ s.coolant.tsc = .ready →
              t.planner.causes.coolant = true))
    ∧ (s.coolant.tankLow = true →
        Completes (.tankLowSwitchChange false) s
          { s with
            coolant := { s.coolant with tankLow := false }
            stop :=
              { s.stop with
                faults :=
                  s.stop.faults.map fun f =>
                    if f.code = .coolantLevel ∧ f.qualifier = .absent then { f with condition := false } else f } }
          [] [])

/-! ## Valve bank and clamps -/

/-- A clamp's released switch: not watched where the clamp takes no part, is in FAULT or waits for a grant; in ENGAGED
and RELEASED a change of its own is CLAMP_SWITCH, the clamp in FAULT and an immediate stop; opening in SETTLING it shows
ENGAGED (R93, R99, log 4). With its request alone on the list, opening in RELEASING and closing in ENGAGING it is not acted
on (R96, R99), and else it ends the stroke (R90). A RELEASE that succeeds lets a jog or a reference run in CLAMP_WAIT go to
MOVING, the run with its goal and search accumulator (R14, R19, R96), and starts the linger timer of an axis at rest that
is no longer moving, a clamp_linger of 0 ms engaging at once (R96, R97; in LOOP too, the model's, log 28). An ENGAGE that
succeeds with release pending asks the RELEASE of an axis that moves outside LOOP, and else leaves the clamp ENGAGED
(R98). -/
def Obligations.ClampSwitchWatched : Prop :=
  ∀ (s : State) (a : Axis), Settled s →
    Completes (.clampReleasedSwitchChange a (s.clamp a).switchClosed) s s [] []
    ∧ (∀ v, (s.clamp a).switchClosed ≠ v →
        clampTakesPart s a = false ∨ (s.clamp a).state = .fault ∨ (s.clamp a).state = .releaseWait
          ∨ (s.clamp a).state = .engageWait
          ∨ (v = true ∧ ((s.clamp a).state = .released ∨ (s.clamp a).state = .settling))
          ∨ (v = false ∧ (s.clamp a).state = .engaged) →
        Completes (.clampReleasedSwitchChange a v) s (s.setClamp a { s.clamp a with switchClosed := v }) [] [])
    ∧ (∀ v, clampTakesPart s a = true → (s.clamp a).switchClosed ≠ v →
        (v = true ∧ (s.clamp a).state = .engaged) ∨ (v = false ∧ (s.clamp a).state = .released) →
        ∃ t, exec (.clampReleasedSwitchChange a v) s = .next t
          ∧ hasFault t .clampSwitch (.axis a) = true
          ∧ t.clamps = s.clamps.set a { s.clamp a with state := .fault, linger := none, switchClosed := v }
          ∧ (∀ c, (t.axis c).motion = .idle ∧ (t.axis c).velocity = 0
              ∧ (t.axis c).commanded = (s.axis c).commanded ∧ (t.axis c).output = (s.axis c).output
              ∧ (t.axis c).measured = (s.axis c).measured ∧ (t.axis c).referenced = (s.axis c).referenced)
          ∧ t.planner.state = .idle ∧ t.planner.queue = [] ∧ t.planner.causes = .empty ∧ t.comp = s.comp
          ∧ (s.gear.step = .idle → t.gear = s.gear ∧ t.spindle = s.spindle ∧ t.coolant = s.coolant
              ∧ t.valve = s.valve))
    ∧ (clampTakesPart s a = true → (s.clamp a).switchClosed = true → (s.clamp a).state = .settling →
        Completes (.clampReleasedSwitchChange a false) s
          (s.setClamp a { s.clamp a with state := .engaged, switchClosed := false }) [] [])
    ∧ (∀ k n, clampTakesPart s a = true → (s.clamp a).switchClosed = false → (s.clamp a).state = .releasing →
        (s.axis a).claim = true → (s.axis a).motion = .idle → s.valve.requests = [⟨.release a, k, .active n⟩] →
        Completes (.clampReleasedSwitchChange a true) s
          { s.setClamp a { s.clamp a with state := .released, switchClosed := true } with
            valve := { s.valve with requests := [] } }
          [] [])
    ∧ (∀ k n, clampTakesPart s a = true → (s.clamp a).switchClosed = true → (s.clamp a).state = .engaging →
        (s.clamp a).releasePending = false → s.valve.requests = [⟨.engage a, k, .active n⟩] →
        Completes (.clampReleasedSwitchChange a false) s
          { s.setClamp a { s.clamp a with state := .engaged, switchClosed := false } with
            valve := { s.valve with requests := [] } }
          [] [])
    ∧ (∀ k n, clampTakesPart s a = true →
        ((s.clamp a).switchClosed = true ∧ (s.clamp a).state = .releasing
            ∧ s.valve.requests = [⟨.release a, k, .active n⟩])
          ∨ ((s.clamp a).switchClosed = false ∧ (s.clamp a).state = .engaging
            ∧ s.valve.requests = [⟨.engage a, k, .active n⟩]) →
        Completes (.clampReleasedSwitchChange a !(s.clamp a).switchClosed) s
          (s.setClamp a { s.clamp a with switchClosed := !(s.clamp a).switchClosed }) [] [])
    ∧ (∀ k n p c, (s.axis a).params = some p → clampTakesPart s a = true → (s.clamp a).switchClosed = false →
        (s.clamp a).state = .releasing → s.valve.requests = [⟨.release a, k, .active n⟩] →
        c = { s.clamp a with state := .released, switchClosed := true } →
        ((s.axis a).motion = .jog .clampWait →
          Completes (.clampReleasedSwitchChange a true) s
            { (s.setClamp a c).setAxis a { s.axis a with motion := .jog .moving } with
              valve := { s.valve with requests := [] } }
            [] [])
        ∧ ((s.axis a).motion = .reference .clampWait →
          Completes (.clampReleasedSwitchChange a true) s
            { (s.setClamp a c).setAxis a
                { s.axis a with
                  motion := .reference .moving, velocity := 0, p := (s.axis a).commanded * 1000
                  searchGoal :=
                    if p.refDirection = .plus then (s.axis a).commanded + p.refSearchDistance
                    else (s.axis a).commanded - p.refSearchDistance } with
              valve := { s.valve with requests := [] } }
            [] [])
        ∧ ((s.axis a).motion = .idle → (s.axis a).claim = false →
          ((s.axis a).atRest = false →
            Completes (.clampReleasedSwitchChange a true) s
              { s.setClamp a c with valve := { s.valve with requests := [] } } [] [])
          ∧ ((s.axis a).atRest = true → p.clampLinger ≠ 0 →
            Completes (.clampReleasedSwitchChange a true) s
              { s.setClamp a { c with linger := some p.clampLinger } with valve := { s.valve with requests := [] } }
              [] [])
          ∧ ((s.axis a).atRest = true → p.clampLinger = 0 →
            ∃ t, exec (.clampReleasedSwitchChange a true) s = .next t ∧ t.axes = s.axes
              ∧ (if s.valve.pressureOk = true ∧ s.stop.estop = .armed then
                  t.clamps = s.clamps.set a { c with state := .engaging, linger := none }
                    ∧ t.valve.requests = [⟨.engage a, 0, .active s.valve.clampLimit⟩]
                else
                  t.clamps = s.clamps.set a { c with state := .engageWait, linger := none }
                    ∧ t.valve.requests = [⟨.engage a, 0, .waiting⟩]))))
    ∧ (∀ k n, clampTakesPart s a = true → (s.clamp a).switchClosed = true → (s.clamp a).state = .engaging →
        (s.clamp a).releasePending = true → s.valve.requests = [⟨.engage a, k, .active n⟩] →
        ((s.axis a).claim = false ∧ (s.axis a).motion = .idle ∨ (s.axis a).mode = .loop →
          Completes (.clampReleasedSwitchChange a false) s
            { s.setClamp a { s.clamp a with state := .engaged, releasePending := false, switchClosed := false } with
              valve := { s.valve with requests := [] } }
            [] [])
        ∧ ((s.axis a).claim = true ∨ (s.axis a).motion ≠ .idle → (s.axis a).mode ≠ .loop →
          ∃ t, exec (.clampReleasedSwitchChange a false) s = .next t ∧ t.axes = s.axes
            ∧ (if s.valve.pressureOk = true ∧ s.stop.estop = .armed then
                t.clamps =
                    s.clamps.set a { s.clamp a with state := .releasing, releasePending := false, switchClosed := false }
                  ∧ t.valve.requests = [⟨.release a, 0, .active s.valve.clampLimit⟩]
              else
                t.clamps =
                    s.clamps.set a
                      { s.clamp a with state := .releaseWait, releasePending := false, switchClosed := false }
                  ∧ t.valve.requests = [⟨.release a, 0, .waiting⟩])))

/-- The time limit of a stroke: nothing without an ACTIVE request of the function; for a clamp CLAMP_TIMEOUT, the clamp
in FAULT, the motion that waited for it ended and CLAMP raised to the planner; for a fork another attempt after a
pause of 500 ms, or GEAR_FAULT once retry_limit is reached; in ENDING the change ends with the gearbox derived from the
switches, no attempt counted and no fault (R39, R85, R90, R98, R110, R124, R135, R139, log 3). -/
def Obligations.StrokeTimeoutEnds : Prop :=
  ∀ s : State, Settled s →
    (∀ f, (∀ r ∈ s.valve.requests, r.isActive = true → r.stroke.function ≠ f) →
      Completes (.strokeTimeout f) s s [] [])
    ∧ (∀ a k n, s.valve.requests = [⟨.release a, k, .active n⟩] ∨ s.valve.requests = [⟨.engage a, k, .active n⟩] →
      ∃ t, exec (.strokeTimeout (.clamp a)) s = .next t
        ∧ t =
            { s with
              axes := t.axes, clamps := t.clamps, valve := t.valve, planner := t.planner, pendant := t.pendant
              stop := t.stop, link := t.link }
        ∧ hasFault t .clampTimeout (.axis a) = true
        ∧ t.clamps = s.clamps.set a ⟨.fault, false, none, (s.clamp a).switchClosed⟩
        ∧ t.valve = { s.valve with requests := [] }
        ∧ ((s.axis a).motion = .jog .clampWait ∨ (s.axis a).motion = .reference .clampWait →
            t.axes = s.axes.set a { s.axis a with motion := .idle, velocity := 0 })
        ∧ ((s.axis a).motion ≠ .jog .clampWait → (s.axis a).motion ≠ .reference .clampWait →
            t.axes = s.axes ∧ t.pendant = s.pendant)
        ∧ (s.planner.state = .idle ∨ s.planner.state = .aborting → t.planner = s.planner)
        ∧ (s.planner.state = .running ∨ s.planner.state = .holding ∨ s.planner.state = .held →
            t.planner.causes = { s.planner.causes with clamp := true } ∧ t.planner.queue = s.planner.queue
              ∧ t.planner.state =
                  (if s.planner.state = .running then
                    (if s.planner.head = some .active then .holding else .held)
                  else s.planner.state)))
    ∧ (∀ k p n, s.valve.requests = [⟨.fork k, p, .active n⟩] → s.gear.step = .stroke →
      s.gear.retryLimit = 0 ∨ s.gear.attempts + 1 < s.gear.retryLimit →
      ∃ t, exec (.strokeTimeout (Stroke.fork k).function) s = .next t
        ∧ t = { s with gear := t.gear, valve := t.valve, spindle := t.spindle, link := t.link } ∧ Owes s t [] []
        ∧ t.gear =
            { s.gear with
              step := .pause, pauseTimer := some 500, attempts := min 255 (s.gear.attempts + 1), creep := none }
        ∧ t.valve = { s.valve with requests := [] }
        ∧ (s.gear.creep = none → t.spindle = s.spindle)
        ∧ (s.gear.creep.isSome = true → t.spindle.reference = 0 ∧ t.spindle.phase ≠ .creep))
    ∧ (∀ k p n, s.valve.requests = [⟨.fork k, p, .active n⟩] → s.gear.step = .stroke → s.gear.stroke = some k →
      s.gear.retryLimit ≠ 0 → s.gear.retryLimit ≤ 8 → s.gear.retryLimit ≤ s.gear.attempts + 1 →
      ∃ t, exec (.strokeTimeout (Stroke.fork k).function) s = .next t
        ∧ hasFault t .gearFault (.fork (ForkStroke.fork k)) = true
        ∧ t.gear.step = .idle ∧ t.gear.held = true ∧ t.gear.gearbox = .unknown ∧ t.gear.target = none
        ∧ t.gear.stroke = none ∧ t.gear.creep = none ∧ t.gear.switches = s.gear.switches
        ∧ t.spindle.sProg = 0 ∧ t.spindle.sCmd = 0
        ∧ t.valve = { s.valve with requests := [] } ∧ t.axes = s.axes ∧ t.clamps = s.clamps ∧ t.comp = s.comp
        ∧ (s.planner.state = .running → t.planner.causes.gear = true))
    ∧ (∀ k p n, s.valve.requests = [⟨.fork k, p, .active n⟩] → s.gear.step = .ending → s.gear.deferred = none →
      ∃ t, exec (.strokeTimeout (Stroke.fork k).function) s = .next t
        ∧ t =
            { s with
              gear := t.gear, coolant := t.coolant, spindle := t.spindle, planner := t.planner, valve := t.valve
              link := t.link }
        ∧ t.gear =
            { s.gear with
              step := .idle, target := none, owner := none, stroke := none, pauseTimer := none
              gearbox := deriveGearbox s.gear.switches }
        ∧ t.valve = { s.valve with requests := [] }
        ∧ t.spindle.sProg = s.spindle.sProg ∧ t.spindle.sCmd = (commandedSpeed t t.spindle).1
        ∧ (s.coolant.tsc ≠ .suspended → s.coolant.tsc ≠ .blocked →
            t.coolant = s.coolant ∧ t.planner = s.planner ∧ Owes s t [] []))

/-- A linger timer's expiry asks for the engage, granted at once under pressure and free flow; PRESSURE_OK moves the
level and the condition flag of HYDRAULIC_LOW, starts and stops the hydraulic wait, and on its return grants what waits;
the wait's expiry raises HYDRAULIC_LOW (R88, R89, R92, R97, R186, log 3, log 4). -/
def Obligations.LingerAndPressure : Prop :=
  ∀ s : State, Settled s →
    (∀ a, (s.clamp a).linger = none → Completes (.lingerTimerExpiry a) s s [] [])
    ∧ (∀ a n, (s.clamp a).linger = some n → s.valve.requests = [] → s.stop.estop = .armed →
        s.valve.pressureOk = true → (s.clamp a).switchClosed = true →
        Completes (.lingerTimerExpiry a) s
          { s.setClamp a { s.clamp a with state := .engaging, linger := none } with
            valve := { s.valve with requests := [⟨.engage a, 0, .active s.valve.clampLimit⟩] } }
          [] [])
    ∧ (∀ a n, (s.clamp a).linger = some n → s.valve.requests = [] → s.valve.pressureOk = false →
        Completes (.lingerTimerExpiry a) s
          { s.setClamp a { s.clamp a with state := .engageWait, linger := none } with
            valve := { s.valve with requests := [⟨.engage a, 0, .waiting⟩], hydraulicWait := some 10000 } }
          [] [])
    ∧ Completes (.pressureOkChange s.valve.pressureOk) s s [] []
    ∧ (s.valve.pressureOk = true →
        Completes (.pressureOkChange false) s
          { s with
            valve :=
              { s.valve with
                pressureOk := false
                hydraulicWait := if s.valve.requests.any (fun r => !r.isActive) then some 10000 else none }
            stop :=
              { s.stop with
                faults :=
                  s.stop.faults.map fun f =>
                    if f.code = .hydraulicLow ∧ f.qualifier = .absent then { f with condition := true } else f } }
          [] [])
    ∧ (s.valve.pressureOk = false → s.valve.requests = [] →
        Completes (.pressureOkChange true) s
          { s with
            valve := { s.valve with pressureOk := true, hydraulicWait := none, hydraulicExpired := false }
            stop :=
              { s.stop with
                faults :=
                  s.stop.faults.map fun f =>
                    if f.code = .hydraulicLow ∧ f.qualifier = .absent then { f with condition := false } else f } }
          [] [])
    ∧ (∀ a k, s.valve.pressureOk = false → s.stop.estop = .armed → s.valve.requests = [⟨.release a, k, .waiting⟩] →
        (s.clamp a).switchClosed = false →
        ∃ t, exec (.pressureOkChange true) s = .next t
          ∧ t = { s with clamps := t.clamps, valve := t.valve, stop := t.stop, link := t.link } ∧ Owes s t [] []
          ∧ t.clamps = s.clamps.set a { s.clamp a with state := .releasing }
          ∧ t.valve =
              { s.valve with
                pressureOk := true, hydraulicWait := none, hydraulicExpired := false
                requests := [⟨.release a, k, .active s.valve.clampLimit⟩] })
    ∧ (s.valve.hydraulicWait = none → Completes .hydraulicWaitTimerExpiry s s [] [])
    ∧ (∀ n, s.valve.hydraulicWait = some n →
        ∃ t, exec .hydraulicWaitTimerExpiry s = .next t
          ∧ t = { s with valve := t.valve, stop := t.stop, link := t.link }
          ∧ hasFault t .hydraulicLow .absent = true
          ∧ t.valve = { s.valve with hydraulicWait := none, hydraulicExpired := true })

/-! ## Pendant -/

/-- A scan request forms the lamps from their owners' states, carries them with the chunk index and the ten characters of
that chunk, and opens the window; with no pendant fitted only its period restarts. The CLIP timer's expiry and the flash
toggle change their own field (R159, R160, R171, R176). That a window which is open already is opened anew is the model's
reading (log 37), and that the expiry clears the timer whatever it holds the model's choice (log 3). -/
def Obligations.ScanRequestForms : Prop :=
  ∀ s : State, Settled s →
    (s.pendant.link ≠ .absent →
      ∃ l, Completes .scanRequest s
          { s with
            clocks := { s.clocks with scan := 10 }
            pendant :=
              { s.pendant with
                lamps := l, chunk := s.pendant.chunk + 1, window := some 3
                request :=
                  some
                    ⟨l, s.pendant.chunk,
                      ((if s.pendant.chunk.val < 2 then s.pendant.line1 else s.pendant.line2).drop
                        (10 * (s.pendant.chunk.val % 2))).take 10⟩ } }
          [] []
        ∧ (l.hold = true ↔
            (s.planner.state = .holding ∧ s.pendant.flashLit = true) ∨ s.planner.state = .held)
        ∧ (s.spindle.phase ≠ .creep → (referenceRuns s = false ∨ s.spindle.reference = s.spindle.dacTarget) →
            l.spindle = s.spindle.atSpeed)
        ∧ (s.spindle.phase = .creep ∨ (referenceRuns s = true ∧ s.spindle.reference ≠ s.spindle.dacTarget) →
            l.spindle = s.pendant.flashLit)
        ∧ (s.coolant.tsc = .building → l.coolant = s.pendant.flashLit)
        ∧ (s.coolant.tsc ≠ .building → (l.coolant = true ↔ s.coolant.tsc = .ready ∨ s.coolant.flood = .on))
        ∧ (l.fault = true ↔ s.stop.faults ≠ [] ∧ s.pendant.flashLit = true)
        ∧ l.clip = s.pendant.clipTimer.isSome ∧ (l.site = true ↔ s.pendant.site = .pendant))
    ∧ (s.pendant.link = .absent →
        Completes .scanRequest s { s with clocks := { s.clocks with scan := 10 } } [] [])
    ∧ Completes .clipTimerExpiry s { s with pendant := { s.pendant with clipTimer := none } } [] []
    ∧ Completes .flashPhaseToggle s
        { s with
          pendant := { s.pendant with flashLit := !s.pendant.flashLit }
          clocks := { s.clocks with flash := 250 } }
        [] []

/-- The outcomes of a scan. A reply outside the window and a closed window do nothing (R161; the model's, log 37, log
3). A miss counts, and the third in a row loses the link with PENDANT_LOST, in the pendant's site with the jogs braking
and the cause raised to a HELD planner. A good scan brings a WAITING link ONLINE with the reply as its baseline, counts a good run in LOST, and lets button blocked go where both jog buttons read released
(R162, R163, R172, log 27). In ONLINE it puts both knobs in force, and against the last good reply (R164, R165, R175):
FEED_HOLD pressed holds a running program; SPINDLE_STOP stops the spindle in IDLE and HELD; COOLANT in the pendant's site or
in IDLE toggles the flood; PANIC adds OPERATOR and withdraws the site; CYCLE_START alone starts an IDLE planner that Start
would take. The site is taken exactly at the conditions of R167, and withdrawn at a selector OFF or an enabling switch not
at ENABLE, every jog of the tenure braking (R168; that goal and button jog are cleared at once is the model's, log 26); a
selector change brakes the jog left behind (R169). With the site taken and no press, the handwheel forms its goal from the
pending distance and the detents, saturated and cut at the limits, a clip for what is cut, and an axis that takes no demand
has its detents dropped with a clip (R170, R171; the model's: the goal at rest, log 25, that a jog braking on a stop demand
no longer runs, log 46, and the wheel at a release with no button jog, log 47); a jog button forms its demand unless
blocked, and its release brakes the jog (R172). Bytes and fields of a reply are judged apart (the model's, log 10). -/
def Obligations.ScanOutcomes : Prop :=
  ∀ s : State, Settled s →
    (s.pendant.window = none →
      Completes .replyWindowClose s s [] [] ∧ ∀ bytes fields, Completes (.pendantReply bytes fields) s s [] [])
    ∧ (∀ n bytes r, s.pendant.window = some n → replyChecks bytes = true →
        (s.pendant.link = .waiting ∨ (s.pendant.link = .lost ∧ 4 ≤ s.pendant.goodRun) →
          ∃ t, exec (.pendantReply bytes (some r)) s = .next t
            ∧ t = { s with pendant := t.pendant, spindle := t.spindle, stop := t.stop, link := t.link }
            ∧ Owes s t [] []
            ∧ t.pendant =
                { s.pendant with
                  link := .online, misses := 0, goodRun := 0, window := none, lastGood := some r
                  buttonBlocked := s.pendant.buttonBlocked && (r.buttons.jogPlus || r.buttons.jogMinus)
                  feedOverride := 10 * r.feedKnob.val, spindleOverride := 50 + 10 * r.spindleKnob.val }
            ∧ (∀ f ∈ t.stop.faults, f.code = .pendantLost → f.qualifier = .absent → f.condition = false))
        ∧ (s.pendant.link = .lost → s.pendant.goodRun < 4 →
          Completes (.pendantReply bytes (some r)) s
            { s with
              pendant :=
                { s.pendant with
                  misses := 0, goodRun := s.pendant.goodRun + 1, window := none, lastGood := some r
                  buttonBlocked := s.pendant.buttonBlocked && (r.buttons.jogPlus || r.buttons.jogMinus) } }
            [] [])
        ∧ (s.pendant.link = .online →
          ∃ t, exec (.pendantReply bytes (some r)) s = .next t
            ∧ t.pendant.link = .online ∧ t.pendant.misses = 0 ∧ t.pendant.window = none
            ∧ t.pendant.lastGood = some r ∧ t.pendant.feedOverride = 10 * r.feedKnob.val
            ∧ t.pendant.spindleOverride = 50 + 10 * r.spindleKnob.val
            ∧ (∀ q, s.pendant.lastGood = some q → q.buttons.feedHold = false → r.buttons.feedHold = true →
                s.planner.state = .running →
                t.planner.causes.operator = true
                  ∧ (t.planner.state = .holding ∨ t.planner.state = .held))
            ∧ (∀ q, s.pendant.lastGood = some q → (s.pendant.site = .pendant → s.gear.step = .idle) →
              (pressedNow Buttons.spindleStop q r = true →
                (s.planner.state = .idle ∨ s.planner.state = .held →
                  t.spindle.stoppedByOperator = true ∧ t.spindle.sCmd = 0 ∧ t.spindle.sProg = s.spindle.sProg)
                ∧ (s.planner.state = .running ∨ s.planner.state = .holding ∨ s.planner.state = .aborting →
                    pressedNow Buttons.feedHold q r = false →
                    t.spindle.stoppedByOperator = s.spindle.stoppedByOperator))
              ∧ (pressedNow Buttons.coolant q r = true → pressedNow Buttons.cycleStart q r = false →
                (s.pendant.site = .pendant ∨ s.planner.state = .idle → s.stop.estop = .armed →
                  t.coolant.floodRequested = (!s.coolant.floodRequested)
                    ∧ t.coolant.flood =
                        (if s.coolant.floodRequested then .off else if levelInhibit s then .inhibited else .on)
                    ∧ t.coolant.tscRequested = s.coolant.tscRequested)
                ∧ (s.pendant.site = .host → s.planner.state ≠ .idle → t.coolant = s.coolant))
              ∧ (r.enabling = .panic → q.enabling ≠ .panic →
                (s.planner.state = .running ∨ s.planner.state = .holding ∨ s.planner.state = .held →
                  t.planner.causes.operator = true ∧ (t.planner.state = .holding ∨ t.planner.state = .held))
                ∧ (s.pendant.site = .pendant → t.pendant.site = .host ∨ t.pendant.withdrawing = true))
              ∧ (pressedNow Buttons.cycleStart q r = true → pressedNow Buttons.feedHold q r = false →
                  pressedNow Buttons.spindleStop q r = false → ¬(r.enabling = .panic ∧ q.enabling ≠ .panic) →
                (s.planner.state = .idle → s.stop.estop = .armed → s.pendant.site = .host → anyReference s = false →
                  t.planner = { s.planner with state := .running } ∧ t.spindle.stoppedByOperator = false)
                ∧ (s.stop.estop ≠ .armed → s.pendant.site = .host → t.planner = s.planner)
                ∧ (s.planner.state = .idle → s.pendant.site = .pendant → r.enabling = .enable →
                    t.planner = s.planner))
              ∧ (s.pendant.site = .host → pressedNow Buttons.cycleStart q r = false →
                  pressedNow Buttons.feedHold q r = false →
                (t.pendant.site = .pendant ↔
                    (selectorOf s r).isSome = true ∧ r.enabling = .enable
                      ∧ (s.planner.state = .idle ∨ s.planner.state = .held) ∧ s.gear.step = .idle
                      ∧ (∀ a, (s.axis a).motion.isReference = false) ∧ s.stop.estop = .armed)
                ∧ (t.pendant.site = .pendant → t.pendant.withdrawing = false))
              ∧ (s.pendant.site = .pendant → s.pendant.withdrawing = false →
                  pressedNow Buttons.cycleStart q r = false → selectorOf s r = none ∨ r.enabling ≠ .enable →
                (t.pendant.site = .host ∨ t.pendant.withdrawing = true) ∧ t.pendant.goal = none
                  ∧ t.pendant.buttonJog = .idle
                  ∧ ∀ a, s.pendant.tenure.get a = true → (s.axis a).motion = .jog .moving →
                      (t.axis a).motion = .jog .stopping ∧ (t.axis a).demand = .stop)
              ∧ (∀ a, s.pendant.jogged = some a → s.pendant.tenure.get a = true → selectorOf s q ≠ selectorOf s r →
                  selectorOf s r ≠ some a → pressedNow Buttons.cycleStart q r = false →
                  (s.axis a).motion = .jog .moving →
                (t.axis a).motion = .jog .stopping ∧ (t.axis a).demand = .stop)
              ∧ (∀ a, NoPress q r → r.enabling = .enable → s.pendant.site = .pendant →
                  s.pendant.withdrawing = false → selectorOf s q = some a → selectorOf s r = some a →
                t.planner = s.planner ∧ t.pendant.site = .pendant
                ∧ (∀ raw g p, s.pendant.buttonJog = .idle → r.buttons.jogPlus = false → r.buttons.jogMinus = false →
                  takesJog s a = true → clampReleased s a = true → (s.axis a).params = some p →
                  (s.axis a).latchPlus = false → (s.axis a).latchMinus = false →
                  raw = (match s.pendant.goal with
                          | none => 0
                          | some k => k - (s.axis a).commanded)
                        + (r.counter - q.counter).toInt * incrementUnits r.increment →
                  g = (if (s.axis a).referenced then
                        max p.softMin
                          (min ((s.axis a).commanded + max (-(s.pendant.hwLimit : Int)) (min raw s.pendant.hwLimit))
                            p.softMax)
                      else (s.axis a).commanded + max (-(s.pendant.hwLimit : Int)) (min raw s.pendant.hwLimit)) →
                    t.pendant.clipTimer =
                        (if (s.axis a).commanded + raw = g then s.pendant.clipTimer else some 500)
                    ∧ (if g ≠ (s.axis a).commanded ∨ wheelJogRuns s a = true then
                        t.pendant.goal = some g ∧ t.pendant.jogged = some a ∧ t.pendant.tenure.get a = true
                          ∧ (t.axis a).demand = .handwheel g
                          ∧ ((s.axis a).motion = .idle → (t.axis a).motion = .jog .moving)
                      else t.pendant.goal = none ∧ t.axis a = s.axis a))
                ∧ (s.pendant.buttonJog = .idle → r.buttons.jogPlus = false → r.buttons.jogMinus = false →
                  takesJog s a = false →
                    t.pendant.goal = none ∧ t.axis a = s.axis a
                      ∧ t.pendant.clipTimer =
                          (if r.counter = q.counter then s.pendant.clipTimer else some 500))
                ∧ (∀ d, jogDirection r = some d →
                  (takesJog s a = true → s.pendant.buttonBlocked = false → clampReleased s a = true →
                    t.pendant.buttonJog = .toward d ∧ t.pendant.jogged = some a ∧ t.pendant.tenure.get a = true
                      ∧ (t.axis a).demand = .button d
                      ∧ ((s.axis a).motion = .idle → (t.axis a).motion = .jog .moving))
                  ∧ (takesJog s a = false ∨ s.pendant.buttonBlocked = true →
                    t.axis a = s.axis a ∧ t.pendant.buttonJog = s.pendant.buttonJog)
                  ∧ t.pendant.clipTimer = s.pendant.clipTimer
                  ∧ (q.buttons.jogPlus = false → q.buttons.jogMinus = false → t.pendant.goal = none))
                ∧ (jogDirection r = none → s.pendant.buttonJog ≠ .idle →
                    t.pendant.buttonJog = .idle ∧ t.pendant.clipTimer = s.pendant.clipTimer
                      ∧ ((s.axis a).motion = .jog .moving →
                          (t.axis a).motion = .jog .stopping ∧ (t.axis a).demand = .stop))))))
    ∧ (∀ n c, s.pendant.window = some n →
        c = Instr.replyWindowClose
          ∨ (∃ bytes, c = .pendantReply bytes none)
          ∨ (∃ bytes r, c = .pendantReply bytes (some r) ∧ replyChecks bytes = false) →
        (s.pendant.link = .waiting ∨ s.pendant.link = .online → s.pendant.misses < 2 →
          Completes c s
            { s with pendant := { s.pendant with window := none, misses := s.pendant.misses + 1 } } [] [])
        ∧ (s.pendant.link = .lost →
          Completes c s
            { s with
              pendant := { s.pendant with window := none, misses := min 3 (s.pendant.misses + 1), goodRun := 0 } }
            [] [])
        ∧ (s.pendant.link = .waiting ∨ s.pendant.link = .online → 2 ≤ s.pendant.misses →
          ∃ t, exec c s = .next t ∧ t.pendant.link = .lost ∧ t.pendant.misses = 3 ∧ t.pendant.goodRun = 0
            ∧ hasFault t .pendantLost .absent = true
            ∧ t.pendant.feedOverride = s.pendant.feedOverride
            ∧ t.pendant.spindleOverride = s.pendant.spindleOverride
            ∧ (s.pendant.site = .host →
                t = { s with pendant := t.pendant, stop := t.stop, link := t.link } ∧ t.pendant.site = .host)
            ∧ (s.pendant.site = .pendant →
                (t.pendant.site = .host ∨ t.pendant.withdrawing = true)
                ∧ (s.pendant.withdrawing = false → ∀ a, s.pendant.tenure.get a = true →
                    (s.axis a).motion = .jog .moving →
                    (t.axis a).motion = .jog .stopping ∧ (t.axis a).demand = .stop)
                ∧ t.planner =
                    (if s.planner.state = .held then
                      { s.planner with causes := { s.planner.causes with pendantLost := true } }
                    else s.planner))))

/-- The E-stop channel mirror of a scan reply is no input: two replies that differ in it alone leave the same state,
but for the stored reply itself (R182). -/
def Obligations.MirrorIsNoInput : Prop :=
  ∀ (s : State) (bytes : List Byte) (r : ScanReply) (m1 m2 : Bool),
    ∃ t l, exec (.pendantReply bytes (some r)) s = .next t
      ∧ exec (.pendantReply bytes (some { r with mirror1 := m1, mirror2 := m2 })) s =
          .next { t with pendant := { t.pendant with lastGood := l } }

/-! ## Stop chain and fault list -/

/-- The stop chain: in every E-stop state channels that come to disagree start the discrepancy timer with 50 ms, channels
that still disagree leave it, and channels that agree stop it, with the conditions of ESTOP and ESTOP_DISCREPANCY by the
levels; none of this trips or arms the chain. Both channels open in ARMED and RELEASED, or the timer's expiry there, is a
trip that reaches every block; both closed in TRIPPED is RELEASED (R101, R119, R140, R157, R168, R180, R181, R183, log 3,
log 4). -/
def Obligations.TripReachesEveryBlock : Prop :=
  ∀ s : State, Settled s →
    Completes (.stopChannelChange s.stop.channel1Open s.stop.channel2Open) s s [] []
    ∧ (∀ open1 open2, open1 ≠ s.stop.channel1Open ∨ open2 ≠ s.stop.channel2Open →
        open1 ≠ open2 ∨ (open1 = true ∧ open2 = true ∧ s.stop.estop = .tripped)
          ∨ (open1 = false ∧ open2 = false ∧ s.stop.estop ≠ .tripped) →
        Completes (.stopChannelChange open1 open2) s
          { s with
            stop :=
              { s.stop with
                channel1Open := open1
                channel2Open := open2
                discrepancy :=
                  if open1 = open2 then none
                  else if s.stop.channel1Open = s.stop.channel2Open then some 50
                  else s.stop.discrepancy
                faults :=
                  s.stop.faults.map fun f =>
                    if f.code = .estop ∧ f.qualifier = .absent then { f with condition := open1 || open2 }
                    else if f.code = .estopDiscrepancy ∧ f.qualifier = .absent then
                      { f with condition := open1 != open2 }
                    else f } }
          [] [])
    ∧ (s.stop.estop = .tripped → s.stop.channel1Open = true ∨ s.stop.channel2Open = true →
        ∃ t, exec (.stopChannelChange false false) s = .next t ∧ t = { s with stop := t.stop, link := t.link }
          ∧ Owes s t [] [] ∧ t.stop.estop = .released ∧ t.stop.discrepancy = none
          ∧ ∀ f ∈ t.stop.faults,
              f.code = .estop ∨ f.code = .estopDiscrepancy → f.qualifier = .absent → f.condition = false)
    ∧ (s.stop.discrepancy = none → Completes .discrepancyTimerExpiry s s [] [])
    ∧ (∀ n, s.stop.discrepancy = some n → s.stop.estop = .tripped →
        ∃ t, exec .discrepancyTimerExpiry s = .next t ∧ t = { s with stop := t.stop, link := t.link }
          ∧ t.stop.discrepancy = none ∧ t.stop.estop = .tripped
          ∧ hasFault t .estopDiscrepancy .absent = true)
    ∧ (∀ c code, s.stop.estop = .armed ∨ s.stop.estop = .released →
        (c = .stopChannelChange true true ∧ code = .estop
            ∧ (s.stop.channel1Open = false ∨ s.stop.channel2Open = false))
          ∨ (c = .discrepancyTimerExpiry ∧ code = .estopDiscrepancy ∧ s.stop.discrepancy.isSome = true) →
        ∃ t, exec c s = .next t ∧ t.stop.estop = .tripped ∧ hasFault t code .absent = true
          ∧ t.stop.discrepancy = none ∧ t.stop.partTime = s.stop.partTime
          ∧ (∀ a, driveEnable t a = false ∧ (t.axis a).motion = .idle ∧ (t.axis a).velocity = 0
              ∧ (t.axis a).commanded = (s.axis a).commanded ∧ (t.axis a).output = (s.axis a).output
              ∧ (t.axis a).measured = (s.axis a).measured ∧ (t.axis a).referenced = (s.axis a).referenced
              ∧ (t.axis a).params = (s.axis a).params ∧ (t.axis a).mode = (s.axis a).mode)
          ∧ t.comp = s.comp ∧ t.planner.state = .idle ∧ t.planner.queue = [] ∧ t.planner.causes = .empty
          ∧ t.valve = { s.valve with requests := [], hydraulicWait := none, hydraulicExpired := false }
          ∧ (∀ a, (t.clamp a).switchClosed = (s.clamp a).switchClosed ∧ (t.clamp a).linger = none
              ∧ (t.clamp a).releasePending = false
              ∧ (clampTakesPart s a = false → (t.clamp a).state = (s.clamp a).state)
              ∧ (clampTakesPart s a = true →
                  (t.clamp a).state =
                    match (s.clamp a).state with
                    | .released => .settling
                    | .releasing => .settling
                    | .engaging => .settling
                    | .engageWait => .settling
                    | .releaseWait => .engaged
                    | .engaged => .engaged
                    | .settling => .settling
                    | .fault => .fault))
          ∧ spindleEnable t = false ∧ t.spindle.sProg = 0 ∧ t.spindle.sCmd = 0 ∧ t.spindle.reference = 0
          ∧ t.spindle.phase = .run ∧ t.spindle.atSpeed = false ∧ t.spindle.stallCount = 0
          ∧ t.spindle.sMeas = s.spindle.sMeas ∧ t.spindle.stopped = s.spindle.stopped
          ∧ t.gear.step = .idle ∧ t.gear.table = s.gear.table ∧ t.gear.switches = s.gear.switches
          ∧ (s.gear.step = .idle → t.gear = s.gear)
          ∧ (s.gear.step ≠ .idle →
              t.gear.target = none ∧ t.gear.stroke = none ∧ t.gear.pauseTimer = none ∧ t.gear.creep = none
                ∧ (forkActive s = true → t.gear.held = true ∧ t.gear.gearbox = .unknown)
                ∧ (forkActive s = false →
                    t.gear.held = s.gear.held ∧ t.gear.gearbox = deriveGearbox s.gear.switches))
          ∧ t.coolant.flood = .off ∧ t.coolant.tsc = .off ∧ t.coolant.floodRequested = false
          ∧ t.coolant.tscRequested = false ∧ t.coolant.buildTimer = none ∧ t.coolant.purgeTimer = none
          ∧ t.coolant.window = s.coolant.window
          ∧ t.pendant.site = .host ∧ t.pendant.feedOverride = s.pendant.feedOverride)

/-- Clear Faults removes every entry whose condition is gone, with a REMOVED report each, arms a RELEASED chain, and
lets every block release what the removal frees: latches, clamps, hold causes, the gearbox hold, the inhibited flood, and
a FAULTED TSC, which is placed by the start judgement with the gearbox as it is left, once the chain is ARMED, the level
inhibit is gone and no COOLANT_PRESSURE entry is left, and else stays FAULTED. The counts of its reply are those of its
first step (the model's choice, log 21). In the second part the inverter fault input is inactive and no valve request
waits (R12, R38, R41, R100, R125, R146, R155, R188, R189). -/
def Obligations.ClearFaultsReleases : Prop :=
  ∀ (s : State) (tag : Tag) (gone left : List FaultEntry), Settled s → ReplyRoom s →
    gone = s.stop.faults.filter (fun e => !e.condition) → left = s.stop.faults.filter (fun e => e.condition) →
    EventRoom s gone.length →
      (s.stop.estop ≠ .released →
        ∃ t, exec (.clearFaults tag []) s = .next t
          ∧ t =
              { s with
                axes := t.axes, clamps := t.clamps, planner := t.planner, gear := t.gear, coolant := t.coolant
                spindle := t.spindle, stop := { s.stop with faults := left }, link := t.link }
          ∧ Owes s t [.accept tag (.cleared gone.length left.length s.stop.estop)]
              (gone.map fun e => .fault .removed e)
          ∧ (∀ a, t.axis a =
              { s.axis a with
                latchPlus :=
                  (s.axis a).latchPlus
                    && !gone.any fun e => e.code == .overtravel && e.qualifier == .axisEnd a .plus
                latchMinus :=
                  (s.axis a).latchMinus
                    && !gone.any fun e => e.code == .overtravel && e.qualifier == .axisEnd a .minus })
          ∧ (∀ a, t.clamp a =
              { s.clamp a with
                state :=
                  if (s.clamp a).state = .fault ∧ hasFault t .clampTimeout (.axis a) = false
                      ∧ hasFault t .clampSwitch (.axis a) = false then
                    (if (s.clamp a).switchClosed then .settling else .engaged)
                  else (s.clamp a).state })
          ∧ (∀ c, c.isCondition = true → c ≠ .coolant →
              t.planner.causes.has c = (s.planner.causes.has c && (hasTied t c || s.planner.startTime.has c)))
          ∧ t.planner.causes.operator = s.planner.causes.operator
          ∧ t.planner.causes.host = s.planner.causes.host ∧ t.planner.queue = s.planner.queue
          ∧ (if s.gear.held = true ∧ s.stop.estop = .armed ∧ hasCode t .gearFault = false
                ∧ hasCode t .gearSlip = false then
              t.gear = { s.gear with held := false, gearbox := deriveGearbox s.gear.switches }
            else t.gear = s.gear)
          ∧ (s.stop.estop = .armed → levelInhibit t = false → s.coolant.flood = .inhibited →
              t.coolant.flood = .on)
          ∧ (s.coolant.tsc = .faulted →
              if s.stop.estop = .armed ∧ levelInhibit t = false ∧ hasCode t .coolantPressure = false then TscPlaced s t
              else t.coolant.tsc = .faulted)
          ∧ (s.coolant.tsc ≠ .faulted → s.coolant.tsc ≠ .blocked → t.coolant.tsc = s.coolant.tsc)
          ∧ (s.stop.estop = .tripped → t.coolant = s.coolant)
          ∧ t.spindle.sProg = s.spindle.sProg)
      ∧ (s.stop.estop = .released → s.spindle.inverterFault = false → s.valve.requests = [] →
        ∃ t, exec (.clearFaults tag []) s = .next t
          ∧ t.stop = { s.stop with estop := .armed, faults := left }
          ∧ Owes s t [.accept tag (.cleared gone.length left.length .armed)] (gone.map fun e => .fault .removed e)
          ∧ t.valve = s.valve ∧ t.comp = s.comp ∧ t.pendant = s.pendant
          ∧ (levelInhibit t = false → s.coolant.flood = .inhibited → t.coolant.flood = .on)
          ∧ (s.coolant.tsc = .faulted →
              if levelInhibit t = false ∧ hasCode t .coolantPressure = false then TscPlaced s t
              else t.coolant.tsc = .faulted)
          ∧ t.spindle.sProg = s.spindle.sProg ∧ t.spindle.sCmd = (commandedSpeed t t.spindle).1
          ∧ (∀ a, (s.axis a).configured = true → (s.axis a).mode = .normal →
              hasFault t .followingError (.axis a) = false → hasFault t .driveFault (.axis a) = false →
              driveEnable t a = true)
          ∧ (∀ a, (t.axis a).motion = (s.axis a).motion ∧ (t.axis a).commanded = (s.axis a).commanded)
          ∧ (hasCode t .spindleFault = false → hasCode t .spindleStall = false → spindleEnable t = true))

/-! ## What every step keeps -/

/-- Every event leaves the site's withdrawal and the hydraulic wait settled, in every state; a millisecond keeps them
(R92, R168). -/
def Obligations.EveryStepSettles : Prop :=
  (∀ (c : Instr) (s t : State), exec c s = .next t → Settled t)
    ∧ ∀ s t : State, Settled s → step s = .next t → Settled t

/-- Every step keeps the queues within their capacities, the fault list without duplicates, and the planner's record
consistent: a running program has no hold cause, an idle one nothing in progress, and a claim has a move (R23, R26,
R36, R38, R40, R46, R49, R184, R197, R198). -/
def Obligations.StepKeepsRecords : Prop :=
  ∀ s t : State, Sound s → step s = .next t → QueuesBounded t ∧ FaultsDistinct t ∧ PlannerSound t

/-- Every step keeps S_cmd the speed that R106 forms, the reference at 0 outside a range and with the enable off, and
every code within the converter (R104, R105, R106, R108, R110, R113). -/
def Obligations.StepKeepsSpindle : Prop :=
  ∀ s t : State, Sound s → step s = .next t → SpindleBounded t ∧ SpeedFormed t

/-- Every step keeps at most 3 flow units in use, each waiting request passed at most 7 times, and the requests in
agreement with the clamps and the gear change that own them (R87, R89, R95 to R99, R130, R133). -/
def Obligations.StepKeepsValve : Prop :=
  ∀ s t : State, Sound s → step s = .next t → ValveSound t

/-- Every step keeps the change context in agreement with the gearbox state, the timers and the creep (R124, R125,
R130 to R140). -/
def Obligations.StepKeepsGear : Prop :=
  ∀ s t : State, Sound s → step s = .next t → GearSound t

/-- Every step keeps the coolant states in agreement with the requests, and no pump on while the level inhibit is
present or TSC's on during a change (R142, R144 to R155). -/
def Obligations.StepKeepsCoolant : Prop :=
  ∀ s t : State, Sound s → step s = .next t → CoolantSound t

/-- From every sound state, a step into or within an E-stop state that is not ARMED leaves nothing moving (R101, R119,
R140, R157, R168, R183). -/
def Obligations.StepKeepsStopped : Prop :=
  ∀ s t : State, Sound s → step s = .next t → StoppedSafe t

/-- Every step keeps every referenced axis that the part moves, every target in the queue and every leg of the move in
progress inside the soft limits (R1, R17, R20, R22, R24, R64, R65). -/
def Obligations.StepKeepsTravel : Prop :=
  ∀ s t : State, Sound s → step s = .next t → TravelSafe t

/-! ## Path, feed and pitch arithmetic -/

/-- The path length of a LINEAR move is √Q rounded to the nearest integer, with no tie; it is the displacement itself
for a single axis, at least each displacement, and at most twice the largest (R51). -/
def Obligations.PathLengthRounds : Prop :=
  ∀ (s : State) (targets : PerAxis (Option Int)) (c : MoveContext) (dX dY dZ dW L Q : Nat),
    c = newContext s targets → L = c.length → Q = dX ^ 2 + dY ^ 2 + dZ ^ 2 + dW ^ 2 →
    dX = legSize c.legs .x → dY = legSize c.legs .y → dZ = legSize c.legs .z → dW = legSize c.legs .w →
    (c.legs.x.isSome = true ∨ c.legs.y.isSome = true ∨ c.legs.z.isSome = true ∨ c.legs.w.isSome = true) →
      c.kind = .linear
        ∧ (∀ root, root * root ≤ Q → Q < (root + 1) * (root + 1) →
            L = if root < Q - root * root then root + 1 else root)
        ∧ (2 * L - 1) ^ 2 < 4 * Q ∧ 4 * Q < (2 * L + 1) ^ 2
        ∧ dX ≤ L ∧ dY ≤ L ∧ dZ ≤ L ∧ dW ≤ L
        ∧ L ≤ 2 * max (max dX dY) (max dZ dW)
        ∧ (dY = 0 → dZ = 0 → dW = 0 → L = dX) ∧ (dX = 0 → dZ = 0 → dW = 0 → L = dY)
        ∧ (dX = 0 → dY = 0 → dW = 0 → L = dZ) ∧ (dX = 0 → dY = 0 → dZ = 0 → L = dW)
        ∧ c.lengthN = L * 1000

/-- The uncapped target of a PER_MINUTE move is F × ovr / 3 to the nearest integer, where no halfway case arises and
the largest is 1,000,000; the target velocity is formed from it by saturation and the cap at v_lim (R57). -/
def Obligations.PerMinuteTarget : Prop :=
  ∀ (feed ovr sMeas vLim u : Nat), 1 ≤ feed → feed ≤ 20000 → ovr ≤ 150 →
    u = uncappedVelocity .perMinute feed ovr sMeas →
      3 * u ≤ feed * ovr + 1 ∧ feed * ovr ≤ 3 * u + 1
        ∧ u ≤ 1000000 ∧ (feed = 20000 → ovr = 150 → u = 1000000)
        ∧ runningTarget .perMinute feed ovr sMeas vLim = min (min u 1048575) vLim

/-- The pitch correction: held at c_0 below the window and at c_128 from its end on; inside, the numerator of R73 over
the width to the nearest integer with halves away from zero, c_j itself at a point, and approaching c_j+1 toward the
next; between points it moves by at most 1 µm more than the slope (R73, R74). -/
def Obligations.PitchInterpolates : Prop :=
  ∀ (c : CompRecord) (w : Nat), 16 ≤ c.k → c.k ≤ 22 → c.points.length = 129 → w * 128 = 2 ^ c.k →
    (∀ p, p < c.base → pitchAt c p = c.point 0)
      ∧ (∀ p, c.base + (2 ^ c.k : Nat) ≤ p → pitchAt c p = c.point 128)
      ∧ ∀ (j r : Nat) (p n q : Int), j < 128 → r < w → p = c.base + (j * w + r : Nat) →
          n = c.point j * w + (c.point (j + 1) - c.point j) * r → q = pitchAt c p →
            2 * |q * w - n| ≤ w ∧ (2 * |q * w - n| = w → |n| < |q * w|) ∧ (r = 0 → q = c.point j)
              ∧ 2 * |q - c.point (j + 1)| * w ≤ 2 * |c.point (j + 1) - c.point j| * (w - r : Nat) + w
              ∧ ∀ r' : Nat, r' < w →
                  |pitchAt c (c.base + (j * w + r' : Nat)) - q| * w
                    ≤ |c.point (j + 1) - c.point j| * |(r' : Int) - r| + w
end

