-- ==== Sys2Proof/Laws/State.lean ====
section
/-! SUPPORT. One lemma per field per update of the state record, and reading a `PerAxis` after it was written. -/

namespace Sys2Proof

@[simp] theorem PerAxis.get_set {α : Type} (p : PerAxis α) (a : Axis) (v : α) : (p.set a v).get a = v := by
  cases a <;> rfl

theorem PerAxis.get_set_ne {α : Type} (p : PerAxis α) {a c : Axis} (v : α) (h : c ≠ a) :
    (p.set a v).get c = p.get c := by
  cases a <;> cases c <;> first | rfl | exact absurd rfl h

@[simp] theorem PerAxis.get_of {α : Type} (f : Axis → α) (a : Axis) : (PerAxis.of f).get a = f a := by
  cases a <;> rfl

@[simp] theorem PerAxis.get_map {α β : Type} (f : α → β) (p : PerAxis α) (a : Axis) :
    (p.map f).get a = f (p.get a) := by
  cases a <;> rfl

@[simp] theorem PerAxis.get_all {α : Type} (v : α) (a : Axis) : (PerAxis.all v).get a = v := by
  cases a <;> rfl

@[simp] theorem PerAxis.set_get {α : Type} (p : PerAxis α) (a : Axis) : p.set a (p.get a) = p := by
  cases a <;> rfl

@[simp] theorem PerAxis.set_set {α : Type} (p : PerAxis α) (a : Axis) (v w : α) :
    (p.set a v).set a w = p.set a w := by
  cases a <;> rfl

theorem PerAxis.ext_get {α : Type} {p q : PerAxis α} (h : ∀ a, p.get a = q.get a) : p = q := by
  cases p; cases q
  have hx := h .x; have hy := h .y; have hz := h .z; have hw := h .w; have hb := h .b
  simp only [PerAxis.get] at hx hy hz hw hb
  subst hx hy hz hw hb; rfl

namespace Machine

/-! ## setAxis -/

@[simp] theorem State.setAxis_link (s : State) (a : Axis) (v : AxisUnit) : (s.setAxis a v).link = s.link := rfl

@[simp] theorem State.setAxis_planner (s : State) (a : Axis) (v : AxisUnit) : (s.setAxis a v).planner = s.planner := rfl

@[simp] theorem State.setAxis_axes (s : State) (a : Axis) (v : AxisUnit) :
    (s.setAxis a v).axes = s.axes.set a v := rfl

@[simp] theorem State.setAxis_comp (s : State) (a : Axis) (v : AxisUnit) : (s.setAxis a v).comp = s.comp := rfl

@[simp] theorem State.setAxis_clamps (s : State) (a : Axis) (v : AxisUnit) : (s.setAxis a v).clamps = s.clamps := rfl

@[simp] theorem State.setAxis_valve (s : State) (a : Axis) (v : AxisUnit) : (s.setAxis a v).valve = s.valve := rfl

@[simp] theorem State.setAxis_spindle (s : State) (a : Axis) (v : AxisUnit) : (s.setAxis a v).spindle = s.spindle := rfl

@[simp] theorem State.setAxis_gear (s : State) (a : Axis) (v : AxisUnit) : (s.setAxis a v).gear = s.gear := rfl

@[simp] theorem State.setAxis_coolant (s : State) (a : Axis) (v : AxisUnit) : (s.setAxis a v).coolant = s.coolant := rfl

@[simp] theorem State.setAxis_pendant (s : State) (a : Axis) (v : AxisUnit) : (s.setAxis a v).pendant = s.pendant := rfl

@[simp] theorem State.setAxis_stop (s : State) (a : Axis) (v : AxisUnit) : (s.setAxis a v).stop = s.stop := rfl

@[simp] theorem State.setAxis_clocks (s : State) (a : Axis) (v : AxisUnit) : (s.setAxis a v).clocks = s.clocks := rfl

@[simp] theorem State.setAxis_pending (s : State) (a : Axis) (v : AxisUnit) : (s.setAxis a v).pending = s.pending := rfl

/-! ## setComp -/

@[simp] theorem State.setComp_link (s : State) (a : Axis) (v : CompRecord) : (s.setComp a v).link = s.link := rfl

@[simp] theorem State.setComp_planner (s : State) (a : Axis) (v : CompRecord) : (s.setComp a v).planner = s.planner := rfl

@[simp] theorem State.setComp_axes (s : State) (a : Axis) (v : CompRecord) : (s.setComp a v).axes = s.axes := rfl

@[simp] theorem State.setComp_comp (s : State) (a : Axis) (v : CompRecord) :
    (s.setComp a v).comp = s.comp.set a v := rfl

@[simp] theorem State.setComp_clamps (s : State) (a : Axis) (v : CompRecord) : (s.setComp a v).clamps = s.clamps := rfl

@[simp] theorem State.setComp_valve (s : State) (a : Axis) (v : CompRecord) : (s.setComp a v).valve = s.valve := rfl

@[simp] theorem State.setComp_spindle (s : State) (a : Axis) (v : CompRecord) : (s.setComp a v).spindle = s.spindle := rfl

@[simp] theorem State.setComp_gear (s : State) (a : Axis) (v : CompRecord) : (s.setComp a v).gear = s.gear := rfl

@[simp] theorem State.setComp_coolant (s : State) (a : Axis) (v : CompRecord) : (s.setComp a v).coolant = s.coolant := rfl

@[simp] theorem State.setComp_pendant (s : State) (a : Axis) (v : CompRecord) : (s.setComp a v).pendant = s.pendant := rfl

@[simp] theorem State.setComp_stop (s : State) (a : Axis) (v : CompRecord) : (s.setComp a v).stop = s.stop := rfl

@[simp] theorem State.setComp_clocks (s : State) (a : Axis) (v : CompRecord) : (s.setComp a v).clocks = s.clocks := rfl

@[simp] theorem State.setComp_pending (s : State) (a : Axis) (v : CompRecord) : (s.setComp a v).pending = s.pending := rfl

/-! ## setClamp -/

@[simp] theorem State.setClamp_link (s : State) (a : Axis) (v : Clamp) : (s.setClamp a v).link = s.link := rfl

@[simp] theorem State.setClamp_planner (s : State) (a : Axis) (v : Clamp) : (s.setClamp a v).planner = s.planner := rfl

@[simp] theorem State.setClamp_axes (s : State) (a : Axis) (v : Clamp) : (s.setClamp a v).axes = s.axes := rfl

@[simp] theorem State.setClamp_comp (s : State) (a : Axis) (v : Clamp) : (s.setClamp a v).comp = s.comp := rfl

@[simp] theorem State.setClamp_clamps (s : State) (a : Axis) (v : Clamp) :
    (s.setClamp a v).clamps = s.clamps.set a v := rfl

@[simp] theorem State.setClamp_valve (s : State) (a : Axis) (v : Clamp) : (s.setClamp a v).valve = s.valve := rfl

@[simp] theorem State.setClamp_spindle (s : State) (a : Axis) (v : Clamp) : (s.setClamp a v).spindle = s.spindle := rfl

@[simp] theorem State.setClamp_gear (s : State) (a : Axis) (v : Clamp) : (s.setClamp a v).gear = s.gear := rfl

@[simp] theorem State.setClamp_coolant (s : State) (a : Axis) (v : Clamp) : (s.setClamp a v).coolant = s.coolant := rfl

@[simp] theorem State.setClamp_pendant (s : State) (a : Axis) (v : Clamp) : (s.setClamp a v).pendant = s.pendant := rfl

@[simp] theorem State.setClamp_stop (s : State) (a : Axis) (v : Clamp) : (s.setClamp a v).stop = s.stop := rfl

@[simp] theorem State.setClamp_clocks (s : State) (a : Axis) (v : Clamp) : (s.setClamp a v).clocks = s.clocks := rfl

@[simp] theorem State.setClamp_pending (s : State) (a : Axis) (v : Clamp) : (s.setClamp a v).pending = s.pending := rfl

@[simp] theorem State.setAxis_axis_same (s : State) (a : Axis) (v : AxisUnit) : (s.setAxis a v).axis a = v :=
  PerAxis.get_set _ _ _

theorem State.setAxis_axis_ne (s : State) {a c : Axis} (v : AxisUnit) (h : c ≠ a) :
    (s.setAxis a v).axis c = s.axis c :=
  PerAxis.get_set_ne _ _ h

@[simp] theorem State.setAxis_setAxis (s : State) (a : Axis) (v w : AxisUnit) :
    (s.setAxis a v).setAxis a w = s.setAxis a w := by
  simp [State.setAxis]

@[simp] theorem State.setAxis_compOf (s : State) (a c : Axis) (v : AxisUnit) : (s.setAxis a v).compOf c = s.compOf c := rfl

@[simp] theorem State.setAxis_clamp (s : State) (a c : Axis) (v : AxisUnit) : (s.setAxis a v).clamp c = s.clamp c := rfl

@[simp] theorem State.setComp_axis (s : State) (a c : Axis) (v : CompRecord) : (s.setComp a v).axis c = s.axis c := rfl

@[simp] theorem State.setComp_compOf_same (s : State) (a : Axis) (v : CompRecord) : (s.setComp a v).compOf a = v :=
  PerAxis.get_set _ _ _

theorem State.setComp_compOf_ne (s : State) {a c : Axis} (v : CompRecord) (h : c ≠ a) :
    (s.setComp a v).compOf c = s.compOf c :=
  PerAxis.get_set_ne _ _ h

@[simp] theorem State.setComp_setComp (s : State) (a : Axis) (v w : CompRecord) :
    (s.setComp a v).setComp a w = s.setComp a w := by
  simp [State.setComp]

@[simp] theorem State.setComp_clamp (s : State) (a c : Axis) (v : CompRecord) : (s.setComp a v).clamp c = s.clamp c := rfl

@[simp] theorem State.setClamp_axis (s : State) (a c : Axis) (v : Clamp) : (s.setClamp a v).axis c = s.axis c := rfl

@[simp] theorem State.setClamp_compOf (s : State) (a c : Axis) (v : Clamp) : (s.setClamp a v).compOf c = s.compOf c := rfl

@[simp] theorem State.setClamp_clamp_same (s : State) (a : Axis) (v : Clamp) : (s.setClamp a v).clamp a = v :=
  PerAxis.get_set _ _ _

theorem State.setClamp_clamp_ne (s : State) {a c : Axis} (v : Clamp) (h : c ≠ a) :
    (s.setClamp a v).clamp c = s.clamp c :=
  PerAxis.get_set_ne _ _ h

@[simp] theorem State.setClamp_setClamp (s : State) (a : Axis) (v w : Clamp) :
    (s.setClamp a v).setClamp a w = s.setClamp a w := by
  simp [State.setClamp]

end Machine

end Sys2Proof
end

