-- ==== Sys2Proof/Laws/Frames.lean ====
section
/-! SUPPORT. For each operation, the blocks of the state it leaves as they were. One lemma an operation; as a
`simp` lemma it rewrites each block it names. -/

namespace Sys2Proof.Machine

/-- A fold keeps what each of its steps keeps. -/
theorem foldl_keeps {α β γ : Type} (g : α → γ) (f : α → β → α) (h : ∀ a c, g (f a c) = g a) (l : List β) (a : α) :
    g (l.foldl f a) = g a := by
  induction l generalizing a with
  | nil => rfl
  | cons c l ih => exact (ih _).trans (h a c)

/-! ## Shared operations -/

@[simp] theorem placeEvent_frame (r : EventReport) (s : State) :
    (placeEvent r s).planner = s.planner ∧ (placeEvent r s).axes = s.axes ∧ (placeEvent r s).comp = s.comp
      ∧ (placeEvent r s).clamps = s.clamps ∧ (placeEvent r s).valve = s.valve
      ∧ (placeEvent r s).spindle = s.spindle ∧ (placeEvent r s).gear = s.gear
      ∧ (placeEvent r s).coolant = s.coolant ∧ (placeEvent r s).pendant = s.pendant
      ∧ (placeEvent r s).stop = s.stop ∧ (placeEvent r s).clocks = s.clocks
      ∧ (placeEvent r s).pending = s.pending := by
  unfold placeEvent
  (repeat' split) <;> simp

@[simp] theorem placeReply_frame (r : Reply) (s : State) :
    (placeReply r s).planner = s.planner ∧ (placeReply r s).axes = s.axes ∧ (placeReply r s).comp = s.comp
      ∧ (placeReply r s).clamps = s.clamps ∧ (placeReply r s).valve = s.valve
      ∧ (placeReply r s).spindle = s.spindle ∧ (placeReply r s).gear = s.gear
      ∧ (placeReply r s).coolant = s.coolant ∧ (placeReply r s).pendant = s.pendant
      ∧ (placeReply r s).stop = s.stop ∧ (placeReply r s).clocks = s.clocks
      ∧ (placeReply r s).pending = s.pending := by
  unfold placeReply
  simp

@[simp] theorem raiseFault_frame (c : FaultCode) (q : Qualifier) (s : State) :
    (raiseFault c q s).planner = s.planner ∧ (raiseFault c q s).axes = s.axes
      ∧ (raiseFault c q s).comp = s.comp ∧ (raiseFault c q s).clamps = s.clamps
      ∧ (raiseFault c q s).valve = s.valve ∧ (raiseFault c q s).spindle = s.spindle
      ∧ (raiseFault c q s).gear = s.gear ∧ (raiseFault c q s).coolant = s.coolant
      ∧ (raiseFault c q s).pendant = s.pendant ∧ (raiseFault c q s).clocks = s.clocks
      ∧ (raiseFault c q s).pending = s.pending := by
  unfold raiseFault
  dsimp only
  (repeat' split) <;> simp

@[simp] theorem setCondition_frame (c : FaultCode) (q : Qualifier) (v : Bool) (s : State) :
    (setCondition c q v s).link = s.link ∧ (setCondition c q v s).planner = s.planner
      ∧ (setCondition c q v s).axes = s.axes ∧ (setCondition c q v s).comp = s.comp
      ∧ (setCondition c q v s).clamps = s.clamps ∧ (setCondition c q v s).valve = s.valve
      ∧ (setCondition c q v s).spindle = s.spindle ∧ (setCondition c q v s).gear = s.gear
      ∧ (setCondition c q v s).coolant = s.coolant ∧ (setCondition c q v s).pendant = s.pendant
      ∧ (setCondition c q v s).clocks = s.clocks ∧ (setCondition c q v s).pending = s.pending := by
  simp [setCondition]

@[simp] theorem raiseCause_frame (c : HoldCause) (s : State) :
    (raiseCause c s).link = s.link ∧ (raiseCause c s).axes = s.axes ∧ (raiseCause c s).comp = s.comp
      ∧ (raiseCause c s).clamps = s.clamps ∧ (raiseCause c s).valve = s.valve
      ∧ (raiseCause c s).spindle = s.spindle ∧ (raiseCause c s).gear = s.gear
      ∧ (raiseCause c s).coolant = s.coolant ∧ (raiseCause c s).pendant = s.pendant
      ∧ (raiseCause c s).stop = s.stop ∧ (raiseCause c s).clocks = s.clocks
      ∧ (raiseCause c s).pending = s.pending := by
  unfold raiseCause
  (repeat' split) <;> simp

@[simp] theorem dropCause_frame (c : HoldCause) (s : State) :
    (dropCause c s).link = s.link ∧ (dropCause c s).axes = s.axes ∧ (dropCause c s).comp = s.comp
      ∧ (dropCause c s).clamps = s.clamps ∧ (dropCause c s).valve = s.valve
      ∧ (dropCause c s).spindle = s.spindle ∧ (dropCause c s).gear = s.gear
      ∧ (dropCause c s).coolant = s.coolant ∧ (dropCause c s).pendant = s.pendant
      ∧ (dropCause c s).stop = s.stop ∧ (dropCause c s).clocks = s.clocks ∧ (dropCause c s).pending = s.pending := by
  unfold dropCause
  (repeat' split) <;> simp

@[simp] theorem seatComp_frame (a : Axis) (s : State) :
    (seatComp a s).link = s.link ∧ (seatComp a s).planner = s.planner ∧ (seatComp a s).axes = s.axes
      ∧ (seatComp a s).clamps = s.clamps ∧ (seatComp a s).valve = s.valve ∧ (seatComp a s).spindle = s.spindle
      ∧ (seatComp a s).gear = s.gear ∧ (seatComp a s).coolant = s.coolant ∧ (seatComp a s).pendant = s.pendant
      ∧ (seatComp a s).stop = s.stop ∧ (seatComp a s).clocks = s.clocks ∧ (seatComp a s).pending = s.pending := by
  unfold seatComp
  simp

@[simp] theorem loseReference_frame (a : Axis) (s : State) :
    (loseReference a s).link = s.link ∧ (loseReference a s).planner = s.planner
      ∧ (loseReference a s).clamps = s.clamps ∧ (loseReference a s).valve = s.valve
      ∧ (loseReference a s).spindle = s.spindle ∧ (loseReference a s).gear = s.gear
      ∧ (loseReference a s).coolant = s.coolant ∧ (loseReference a s).pendant = s.pendant
      ∧ (loseReference a s).stop = s.stop ∧ (loseReference a s).clocks = s.clocks
      ∧ (loseReference a s).pending = s.pending := by
  unfold loseReference
  (repeat' split) <;> simp

@[simp] theorem joinRequest_frame (k : Stroke) (s : State) :
    (joinRequest k s).link = s.link ∧ (joinRequest k s).planner = s.planner ∧ (joinRequest k s).axes = s.axes
      ∧ (joinRequest k s).comp = s.comp ∧ (joinRequest k s).clamps = s.clamps
      ∧ (joinRequest k s).spindle = s.spindle ∧ (joinRequest k s).gear = s.gear
      ∧ (joinRequest k s).coolant = s.coolant ∧ (joinRequest k s).pendant = s.pendant
      ∧ (joinRequest k s).stop = s.stop ∧ (joinRequest k s).clocks = s.clocks
      ∧ (joinRequest k s).pending = s.pending := by
  unfold joinRequest
  simp

@[simp] theorem removeRequest_frame (f : ValveFunction) (s : State) :
    (removeRequest f s).link = s.link ∧ (removeRequest f s).planner = s.planner
      ∧ (removeRequest f s).axes = s.axes ∧ (removeRequest f s).comp = s.comp
      ∧ (removeRequest f s).clamps = s.clamps ∧ (removeRequest f s).spindle = s.spindle
      ∧ (removeRequest f s).gear = s.gear ∧ (removeRequest f s).coolant = s.coolant
      ∧ (removeRequest f s).pendant = s.pendant ∧ (removeRequest f s).stop = s.stop
      ∧ (removeRequest f s).clocks = s.clocks ∧ (removeRequest f s).pending = s.pending := by
  unfold removeRequest
  simp

@[simp] theorem jogEndedByStop_frame (a : Axis) (s : State) :
    (jogEndedByStop a s).link = s.link ∧ (jogEndedByStop a s).planner = s.planner
      ∧ (jogEndedByStop a s).axes = s.axes ∧ (jogEndedByStop a s).comp = s.comp
      ∧ (jogEndedByStop a s).clamps = s.clamps ∧ (jogEndedByStop a s).valve = s.valve
      ∧ (jogEndedByStop a s).spindle = s.spindle ∧ (jogEndedByStop a s).gear = s.gear
      ∧ (jogEndedByStop a s).coolant = s.coolant ∧ (jogEndedByStop a s).stop = s.stop
      ∧ (jogEndedByStop a s).clocks = s.clocks ∧ (jogEndedByStop a s).pending = s.pending := by
  unfold jogEndedByStop
  (repeat' split) <;> simp

@[simp] theorem endMotion_frame (a : Axis) (s : State) :
    (endMotion a s).link = s.link ∧ (endMotion a s).planner = s.planner ∧ (endMotion a s).comp = s.comp
      ∧ (endMotion a s).clamps = s.clamps ∧ (endMotion a s).valve = s.valve
      ∧ (endMotion a s).spindle = s.spindle ∧ (endMotion a s).gear = s.gear
      ∧ (endMotion a s).coolant = s.coolant ∧ (endMotion a s).pendant = s.pendant
      ∧ (endMotion a s).stop = s.stop ∧ (endMotion a s).clocks = s.clocks ∧ (endMotion a s).pending = s.pending := by
  unfold endMotion
  simp

@[simp] theorem axisStop_frame (a : Axis) (s : State) :
    (axisStop a s).link = s.link ∧ (axisStop a s).planner = s.planner ∧ (axisStop a s).comp = s.comp
      ∧ (axisStop a s).clamps = s.clamps ∧ (axisStop a s).valve = s.valve ∧ (axisStop a s).spindle = s.spindle
      ∧ (axisStop a s).gear = s.gear ∧ (axisStop a s).coolant = s.coolant ∧ (axisStop a s).stop = s.stop
      ∧ (axisStop a s).clocks = s.clocks ∧ (axisStop a s).pending = s.pending := by
  unfold axisStop
  (repeat' split) <;> simp

@[simp] theorem endClampWait_frame (a : Axis) (s : State) :
    (endClampWait a s).link = s.link ∧ (endClampWait a s).planner = s.planner
      ∧ (endClampWait a s).comp = s.comp ∧ (endClampWait a s).clamps = s.clamps
      ∧ (endClampWait a s).valve = s.valve ∧ (endClampWait a s).spindle = s.spindle
      ∧ (endClampWait a s).gear = s.gear ∧ (endClampWait a s).coolant = s.coolant
      ∧ (endClampWait a s).stop = s.stop ∧ (endClampWait a s).clocks = s.clocks
      ∧ (endClampWait a s).pending = s.pending := by
  unfold endClampWait
  (repeat' split) <;> simp

@[simp] theorem siteReturn_frame (s : State) :
    (siteReturn s).link = s.link ∧ (siteReturn s).planner = s.planner ∧ (siteReturn s).axes = s.axes
      ∧ (siteReturn s).comp = s.comp ∧ (siteReturn s).clamps = s.clamps ∧ (siteReturn s).valve = s.valve
      ∧ (siteReturn s).spindle = s.spindle ∧ (siteReturn s).gear = s.gear ∧ (siteReturn s).coolant = s.coolant
      ∧ (siteReturn s).stop = s.stop ∧ (siteReturn s).clocks = s.clocks ∧ (siteReturn s).pending = s.pending := by
  unfold siteReturn
  dsimp only
  (repeat' split) <;> simp

@[simp] theorem hydraulicCheck_frame (s : State) :
    (hydraulicCheck s).link = s.link ∧ (hydraulicCheck s).planner = s.planner
      ∧ (hydraulicCheck s).axes = s.axes ∧ (hydraulicCheck s).comp = s.comp
      ∧ (hydraulicCheck s).clamps = s.clamps ∧ (hydraulicCheck s).spindle = s.spindle
      ∧ (hydraulicCheck s).gear = s.gear ∧ (hydraulicCheck s).coolant = s.coolant
      ∧ (hydraulicCheck s).pendant = s.pendant ∧ (hydraulicCheck s).stop = s.stop
      ∧ (hydraulicCheck s).clocks = s.clocks ∧ (hydraulicCheck s).pending = s.pending := by
  unfold hydraulicCheck
  dsimp only
  (repeat' split) <;> simp

@[simp] theorem noteChange_frame (before s : State) :
    (noteChange before s).planner = s.planner ∧ (noteChange before s).axes = s.axes
      ∧ (noteChange before s).comp = s.comp ∧ (noteChange before s).clamps = s.clamps
      ∧ (noteChange before s).valve = s.valve ∧ (noteChange before s).spindle = s.spindle
      ∧ (noteChange before s).gear = s.gear ∧ (noteChange before s).coolant = s.coolant
      ∧ (noteChange before s).pendant = s.pendant ∧ (noteChange before s).stop = s.stop
      ∧ (noteChange before s).clocks = s.clocks ∧ (noteChange before s).pending = s.pending := by
  unfold noteChange
  (repeat' split) <;> simp

@[simp] theorem transmit_frame (s : State) :
    (transmit s).planner = s.planner ∧ (transmit s).axes = s.axes ∧ (transmit s).comp = s.comp
      ∧ (transmit s).clamps = s.clamps ∧ (transmit s).valve = s.valve ∧ (transmit s).spindle = s.spindle
      ∧ (transmit s).gear = s.gear ∧ (transmit s).coolant = s.coolant ∧ (transmit s).pendant = s.pendant
      ∧ (transmit s).stop = s.stop ∧ (transmit s).clocks = s.clocks ∧ (transmit s).pending = s.pending := by
  unfold transmit
  (repeat' split) <;> simp

@[simp] theorem finish_frame (before s : State) :
    (finish before s).planner = s.planner ∧ (finish before s).axes = s.axes ∧ (finish before s).comp = s.comp
      ∧ (finish before s).clamps = s.clamps ∧ (finish before s).spindle = s.spindle
      ∧ (finish before s).gear = s.gear ∧ (finish before s).coolant = s.coolant
      ∧ (finish before s).stop = s.stop ∧ (finish before s).clocks = s.clocks
      ∧ (finish before s).pending = s.pending := by
  unfold finish
  simp

/-! ## Spindle Controller -/

@[simp] theorem formSpeed_frame (s : State) :
    (formSpeed s).link = s.link ∧ (formSpeed s).planner = s.planner ∧ (formSpeed s).axes = s.axes
      ∧ (formSpeed s).comp = s.comp ∧ (formSpeed s).clamps = s.clamps ∧ (formSpeed s).valve = s.valve
      ∧ (formSpeed s).gear = s.gear ∧ (formSpeed s).coolant = s.coolant ∧ (formSpeed s).pendant = s.pendant
      ∧ (formSpeed s).stop = s.stop ∧ (formSpeed s).clocks = s.clocks ∧ (formSpeed s).pending = s.pending := by
  unfold formSpeed
  simp

@[simp] theorem formTarget_frame (s : State) :
    (formTarget s).link = s.link ∧ (formTarget s).planner = s.planner ∧ (formTarget s).axes = s.axes
      ∧ (formTarget s).comp = s.comp ∧ (formTarget s).clamps = s.clamps ∧ (formTarget s).valve = s.valve
      ∧ (formTarget s).gear = s.gear ∧ (formTarget s).coolant = s.coolant ∧ (formTarget s).pendant = s.pendant
      ∧ (formTarget s).stop = s.stop ∧ (formTarget s).clocks = s.clocks ∧ (formTarget s).pending = s.pending := by
  unfold formTarget
  simp

@[simp] theorem gearStop_frame (s : State) :
    (gearStop s).link = s.link ∧ (gearStop s).planner = s.planner ∧ (gearStop s).axes = s.axes
      ∧ (gearStop s).comp = s.comp ∧ (gearStop s).clamps = s.clamps ∧ (gearStop s).valve = s.valve
      ∧ (gearStop s).gear = s.gear ∧ (gearStop s).coolant = s.coolant ∧ (gearStop s).pendant = s.pendant
      ∧ (gearStop s).stop = s.stop ∧ (gearStop s).clocks = s.clocks ∧ (gearStop s).pending = s.pending := by
  unfold gearStop
  simp

@[simp] theorem zeroReference_frame (s : State) :
    (zeroReference s).link = s.link ∧ (zeroReference s).planner = s.planner ∧ (zeroReference s).axes = s.axes
      ∧ (zeroReference s).comp = s.comp ∧ (zeroReference s).clamps = s.clamps
      ∧ (zeroReference s).valve = s.valve ∧ (zeroReference s).gear = s.gear
      ∧ (zeroReference s).coolant = s.coolant ∧ (zeroReference s).pendant = s.pendant
      ∧ (zeroReference s).stop = s.stop ∧ (zeroReference s).clocks = s.clocks
      ∧ (zeroReference s).pending = s.pending := by
  unfold zeroReference
  simp

@[simp] theorem creepDrive_frame (d : Rotation) (s : State) :
    (creepDrive d s).link = s.link ∧ (creepDrive d s).planner = s.planner ∧ (creepDrive d s).axes = s.axes
      ∧ (creepDrive d s).comp = s.comp ∧ (creepDrive d s).clamps = s.clamps ∧ (creepDrive d s).valve = s.valve
      ∧ (creepDrive d s).gear = s.gear ∧ (creepDrive d s).coolant = s.coolant
      ∧ (creepDrive d s).pendant = s.pendant ∧ (creepDrive d s).stop = s.stop
      ∧ (creepDrive d s).clocks = s.clocks ∧ (creepDrive d s).pending = s.pending := by
  unfold creepDrive
  (repeat' split) <;> simp

@[simp] theorem creepStart_frame (d : Rotation) (s : State) :
    (creepStart d s).link = s.link ∧ (creepStart d s).planner = s.planner ∧ (creepStart d s).axes = s.axes
      ∧ (creepStart d s).comp = s.comp ∧ (creepStart d s).clamps = s.clamps ∧ (creepStart d s).valve = s.valve
      ∧ (creepStart d s).gear = s.gear ∧ (creepStart d s).coolant = s.coolant
      ∧ (creepStart d s).pendant = s.pendant ∧ (creepStart d s).stop = s.stop
      ∧ (creepStart d s).clocks = s.clocks ∧ (creepStart d s).pending = s.pending := by
  unfold creepStart
  simp

@[simp] theorem creepEnd_frame (s : State) :
    (creepEnd s).link = s.link ∧ (creepEnd s).planner = s.planner ∧ (creepEnd s).axes = s.axes
      ∧ (creepEnd s).comp = s.comp ∧ (creepEnd s).clamps = s.clamps ∧ (creepEnd s).valve = s.valve
      ∧ (creepEnd s).gear = s.gear ∧ (creepEnd s).coolant = s.coolant ∧ (creepEnd s).pendant = s.pendant
      ∧ (creepEnd s).stop = s.stop ∧ (creepEnd s).clocks = s.clocks ∧ (creepEnd s).pending = s.pending := by
  unfold creepEnd
  simp

@[simp] theorem noteFaultHold_frame (s : State) :
    (noteFaultHold s).link = s.link ∧ (noteFaultHold s).axes = s.axes ∧ (noteFaultHold s).comp = s.comp
      ∧ (noteFaultHold s).clamps = s.clamps ∧ (noteFaultHold s).valve = s.valve
      ∧ (noteFaultHold s).spindle = s.spindle ∧ (noteFaultHold s).gear = s.gear
      ∧ (noteFaultHold s).coolant = s.coolant ∧ (noteFaultHold s).pendant = s.pendant
      ∧ (noteFaultHold s).stop = s.stop ∧ (noteFaultHold s).clocks = s.clocks
      ∧ (noteFaultHold s).pending = s.pending := by
  unfold noteFaultHold
  (repeat' split) <;> simp

@[simp] theorem spindleFaultActions_frame (s : State) :
    (spindleFaultActions s).link = s.link ∧ (spindleFaultActions s).axes = s.axes
      ∧ (spindleFaultActions s).comp = s.comp ∧ (spindleFaultActions s).clamps = s.clamps
      ∧ (spindleFaultActions s).valve = s.valve ∧ (spindleFaultActions s).gear = s.gear
      ∧ (spindleFaultActions s).coolant = s.coolant ∧ (spindleFaultActions s).pendant = s.pendant
      ∧ (spindleFaultActions s).stop = s.stop ∧ (spindleFaultActions s).clocks = s.clocks
      ∧ (spindleFaultActions s).pending = s.pending := by
  unfold spindleFaultActions
  simp

@[simp] theorem clearOperatorStop_frame (s : State) :
    (clearOperatorStop s).link = s.link ∧ (clearOperatorStop s).planner = s.planner
      ∧ (clearOperatorStop s).axes = s.axes ∧ (clearOperatorStop s).comp = s.comp
      ∧ (clearOperatorStop s).clamps = s.clamps ∧ (clearOperatorStop s).valve = s.valve
      ∧ (clearOperatorStop s).gear = s.gear ∧ (clearOperatorStop s).coolant = s.coolant
      ∧ (clearOperatorStop s).pendant = s.pendant ∧ (clearOperatorStop s).stop = s.stop
      ∧ (clearOperatorStop s).clocks = s.clocks ∧ (clearOperatorStop s).pending = s.pending := by
  unfold clearOperatorStop
  (repeat' split) <;> simp

@[simp] theorem operatorStop_frame (s : State) :
    (operatorStop s).link = s.link ∧ (operatorStop s).planner = s.planner ∧ (operatorStop s).axes = s.axes
      ∧ (operatorStop s).comp = s.comp ∧ (operatorStop s).clamps = s.clamps ∧ (operatorStop s).valve = s.valve
      ∧ (operatorStop s).gear = s.gear ∧ (operatorStop s).coolant = s.coolant
      ∧ (operatorStop s).pendant = s.pendant ∧ (operatorStop s).stop = s.stop
      ∧ (operatorStop s).clocks = s.clocks ∧ (operatorStop s).pending = s.pending := by
  unfold operatorStop
  (repeat' split) <;> simp

@[simp] theorem spindleTrip_frame (s : State) :
    (spindleTrip s).link = s.link ∧ (spindleTrip s).planner = s.planner ∧ (spindleTrip s).axes = s.axes
      ∧ (spindleTrip s).comp = s.comp ∧ (spindleTrip s).clamps = s.clamps ∧ (spindleTrip s).valve = s.valve
      ∧ (spindleTrip s).gear = s.gear ∧ (spindleTrip s).coolant = s.coolant
      ∧ (spindleTrip s).pendant = s.pendant ∧ (spindleTrip s).stop = s.stop ∧ (spindleTrip s).clocks = s.clocks
      ∧ (spindleTrip s).pending = s.pending := by
  unfold spindleTrip
  simp

/-! ## Coolant Unit -/

@[simp] theorem formIfCeiling_frame (before t : State) :
    (formIfCeiling before t).link = t.link ∧ (formIfCeiling before t).planner = t.planner ∧ (formIfCeiling before t).axes = t.axes
      ∧ (formIfCeiling before t).comp = t.comp ∧ (formIfCeiling before t).clamps = t.clamps ∧ (formIfCeiling before t).valve = t.valve
      ∧ (formIfCeiling before t).gear = t.gear ∧ (formIfCeiling before t).coolant = t.coolant ∧ (formIfCeiling before t).pendant = t.pendant
      ∧ (formIfCeiling before t).stop = t.stop ∧ (formIfCeiling before t).clocks = t.clocks ∧ (formIfCeiling before t).pending = t.pending := by
  unfold formIfCeiling
  split <;> simp

@[simp] theorem leaveTsc_frame (new : TscState) (s : State) :
    (leaveTsc new s).link = s.link ∧ (leaveTsc new s).planner = s.planner ∧ (leaveTsc new s).axes = s.axes
      ∧ (leaveTsc new s).comp = s.comp ∧ (leaveTsc new s).clamps = s.clamps ∧ (leaveTsc new s).valve = s.valve
      ∧ (leaveTsc new s).gear = s.gear ∧ (leaveTsc new s).pendant = s.pendant ∧ (leaveTsc new s).stop = s.stop
      ∧ (leaveTsc new s).clocks = s.clocks ∧ (leaveTsc new s).pending = s.pending := by
  unfold leaveTsc
  simp

@[simp] theorem stopTsc_frame (new : TscState) (s : State) :
    (stopTsc new s).link = s.link ∧ (stopTsc new s).axes = s.axes ∧ (stopTsc new s).comp = s.comp
      ∧ (stopTsc new s).clamps = s.clamps ∧ (stopTsc new s).valve = s.valve ∧ (stopTsc new s).gear = s.gear
      ∧ (stopTsc new s).pendant = s.pendant ∧ (stopTsc new s).stop = s.stop ∧ (stopTsc new s).clocks = s.clocks
      ∧ (stopTsc new s).pending = s.pending := by
  unfold stopTsc
  (repeat' split) <;> simp

@[simp] theorem enterBuilding_frame (s : State) :
    (enterBuilding s).link = s.link ∧ (enterBuilding s).planner = s.planner ∧ (enterBuilding s).axes = s.axes
      ∧ (enterBuilding s).comp = s.comp ∧ (enterBuilding s).clamps = s.clamps
      ∧ (enterBuilding s).valve = s.valve ∧ (enterBuilding s).gear = s.gear
      ∧ (enterBuilding s).pendant = s.pendant ∧ (enterBuilding s).stop = s.stop
      ∧ (enterBuilding s).clocks = s.clocks ∧ (enterBuilding s).pending = s.pending := by
  unfold enterBuilding
  simp

@[simp] theorem startJudgement_frame (s : State) :
    (startJudgement s).link = s.link ∧ (startJudgement s).axes = s.axes ∧ (startJudgement s).comp = s.comp
      ∧ (startJudgement s).clamps = s.clamps ∧ (startJudgement s).valve = s.valve
      ∧ (startJudgement s).gear = s.gear ∧ (startJudgement s).pendant = s.pendant
      ∧ (startJudgement s).stop = s.stop ∧ (startJudgement s).clocks = s.clocks
      ∧ (startJudgement s).pending = s.pending := by
  unfold startJudgement
  (repeat' split) <;> simp

@[simp] theorem placeTsc_frame (s : State) :
    (placeTsc s).link = s.link ∧ (placeTsc s).axes = s.axes ∧ (placeTsc s).comp = s.comp
      ∧ (placeTsc s).clamps = s.clamps ∧ (placeTsc s).valve = s.valve ∧ (placeTsc s).gear = s.gear
      ∧ (placeTsc s).pendant = s.pendant ∧ (placeTsc s).stop = s.stop ∧ (placeTsc s).clocks = s.clocks
      ∧ (placeTsc s).pending = s.pending := by
  unfold placeTsc
  (repeat' split) <;> simp

@[simp] theorem startPurge_frame (s : State) :
    (startPurge s).link = s.link ∧ (startPurge s).planner = s.planner ∧ (startPurge s).axes = s.axes
      ∧ (startPurge s).comp = s.comp ∧ (startPurge s).clamps = s.clamps ∧ (startPurge s).valve = s.valve
      ∧ (startPurge s).gear = s.gear ∧ (startPurge s).pendant = s.pendant ∧ (startPurge s).stop = s.stop
      ∧ (startPurge s).clocks = s.clocks ∧ (startPurge s).pending = s.pending := by
  unfold startPurge
  (repeat' split) <;> simp

@[simp] theorem moveTsc_frame (s : State) :
    (moveTsc s).link = s.link ∧ (moveTsc s).axes = s.axes ∧ (moveTsc s).comp = s.comp
      ∧ (moveTsc s).clamps = s.clamps ∧ (moveTsc s).valve = s.valve ∧ (moveTsc s).gear = s.gear
      ∧ (moveTsc s).pendant = s.pendant ∧ (moveTsc s).stop = s.stop ∧ (moveTsc s).clocks = s.clocks
      ∧ (moveTsc s).pending = s.pending := by
  unfold moveTsc
  (repeat' split) <;> simp

@[simp] theorem setRequests_frame (flood tsc : Bool) (s : State) :
    (setRequests flood tsc s).link = s.link ∧ (setRequests flood tsc s).axes = s.axes
      ∧ (setRequests flood tsc s).comp = s.comp ∧ (setRequests flood tsc s).clamps = s.clamps
      ∧ (setRequests flood tsc s).valve = s.valve ∧ (setRequests flood tsc s).gear = s.gear
      ∧ (setRequests flood tsc s).pendant = s.pendant ∧ (setRequests flood tsc s).stop = s.stop
      ∧ (setRequests flood tsc s).clocks = s.clocks ∧ (setRequests flood tsc s).pending = s.pending := by
  unfold setRequests
  (repeat' split) <;> simp

@[simp] theorem coolantRequest_frame (m : CoolantMode) (s : State) :
    (coolantRequest m s).link = s.link ∧ (coolantRequest m s).axes = s.axes
      ∧ (coolantRequest m s).comp = s.comp ∧ (coolantRequest m s).clamps = s.clamps
      ∧ (coolantRequest m s).valve = s.valve ∧ (coolantRequest m s).gear = s.gear
      ∧ (coolantRequest m s).pendant = s.pendant ∧ (coolantRequest m s).stop = s.stop
      ∧ (coolantRequest m s).clocks = s.clocks ∧ (coolantRequest m s).pending = s.pending := by
  unfold coolantRequest
  simp

@[simp] theorem floodToggle_frame (s : State) :
    (floodToggle s).link = s.link ∧ (floodToggle s).axes = s.axes ∧ (floodToggle s).comp = s.comp
      ∧ (floodToggle s).clamps = s.clamps ∧ (floodToggle s).valve = s.valve ∧ (floodToggle s).gear = s.gear
      ∧ (floodToggle s).pendant = s.pendant ∧ (floodToggle s).stop = s.stop ∧ (floodToggle s).clocks = s.clocks
      ∧ (floodToggle s).pending = s.pending := by
  unfold floodToggle
  simp

@[simp] theorem coolantChangeBegins_frame (s : State) :
    (coolantChangeBegins s).link = s.link ∧ (coolantChangeBegins s).planner = s.planner
      ∧ (coolantChangeBegins s).axes = s.axes ∧ (coolantChangeBegins s).comp = s.comp
      ∧ (coolantChangeBegins s).clamps = s.clamps ∧ (coolantChangeBegins s).valve = s.valve
      ∧ (coolantChangeBegins s).gear = s.gear ∧ (coolantChangeBegins s).pendant = s.pendant
      ∧ (coolantChangeBegins s).stop = s.stop ∧ (coolantChangeBegins s).clocks = s.clocks
      ∧ (coolantChangeBegins s).pending = s.pending := by
  unfold coolantChangeBegins
  (repeat' split) <;> simp

@[simp] theorem coolantChangeEnds_frame (s : State) :
    (coolantChangeEnds s).link = s.link ∧ (coolantChangeEnds s).axes = s.axes
      ∧ (coolantChangeEnds s).comp = s.comp ∧ (coolantChangeEnds s).clamps = s.clamps
      ∧ (coolantChangeEnds s).valve = s.valve ∧ (coolantChangeEnds s).gear = s.gear
      ∧ (coolantChangeEnds s).pendant = s.pendant ∧ (coolantChangeEnds s).stop = s.stop
      ∧ (coolantChangeEnds s).clocks = s.clocks ∧ (coolantChangeEnds s).pending = s.pending := by
  unfold coolantChangeEnds
  (repeat' split) <;> simp

@[simp] theorem coolantRejudge_frame (s : State) :
    (coolantRejudge s).link = s.link ∧ (coolantRejudge s).axes = s.axes ∧ (coolantRejudge s).comp = s.comp
      ∧ (coolantRejudge s).clamps = s.clamps ∧ (coolantRejudge s).valve = s.valve
      ∧ (coolantRejudge s).gear = s.gear ∧ (coolantRejudge s).pendant = s.pendant
      ∧ (coolantRejudge s).stop = s.stop ∧ (coolantRejudge s).clocks = s.clocks
      ∧ (coolantRejudge s).pending = s.pending := by
  unfold coolantRejudge
  (repeat' split) <;> simp

@[simp] theorem pressureFault_frame (s : State) :
    (pressureFault s).axes = s.axes ∧ (pressureFault s).comp = s.comp ∧ (pressureFault s).clamps = s.clamps
      ∧ (pressureFault s).valve = s.valve ∧ (pressureFault s).gear = s.gear
      ∧ (pressureFault s).pendant = s.pendant ∧ (pressureFault s).clocks = s.clocks
      ∧ (pressureFault s).pending = s.pending := by
  unfold pressureFault
  simp

@[simp] theorem tscReady_frame (s : State) :
    (tscReady s).link = s.link ∧ (tscReady s).axes = s.axes ∧ (tscReady s).comp = s.comp
      ∧ (tscReady s).clamps = s.clamps ∧ (tscReady s).valve = s.valve ∧ (tscReady s).gear = s.gear
      ∧ (tscReady s).pendant = s.pendant ∧ (tscReady s).stop = s.stop ∧ (tscReady s).clocks = s.clocks
      ∧ (tscReady s).pending = s.pending := by
  unfold tscReady
  simp

@[simp] theorem coolantTrip_frame (s : State) :
    (coolantTrip s).link = s.link ∧ (coolantTrip s).planner = s.planner ∧ (coolantTrip s).axes = s.axes
      ∧ (coolantTrip s).comp = s.comp ∧ (coolantTrip s).clamps = s.clamps ∧ (coolantTrip s).valve = s.valve
      ∧ (coolantTrip s).gear = s.gear ∧ (coolantTrip s).pendant = s.pendant ∧ (coolantTrip s).stop = s.stop
      ∧ (coolantTrip s).clocks = s.clocks ∧ (coolantTrip s).pending = s.pending := by
  unfold coolantTrip
  simp

@[simp] theorem coolantRelease_frame (s : State) :
    (coolantRelease s).link = s.link ∧ (coolantRelease s).axes = s.axes ∧ (coolantRelease s).comp = s.comp
      ∧ (coolantRelease s).clamps = s.clamps ∧ (coolantRelease s).valve = s.valve
      ∧ (coolantRelease s).gear = s.gear ∧ (coolantRelease s).pendant = s.pendant
      ∧ (coolantRelease s).stop = s.stop ∧ (coolantRelease s).clocks = s.clocks
      ∧ (coolantRelease s).pending = s.pending := by
  unfold coolantRelease
  dsimp only
  (repeat' split) <;> simp

/-! ## Gear Sequencer -/

@[simp] theorem setGearbox_frame (g : Gearbox) (s : State) :
    (setGearbox g s).link = s.link ∧ (setGearbox g s).planner = s.planner ∧ (setGearbox g s).axes = s.axes
      ∧ (setGearbox g s).comp = s.comp ∧ (setGearbox g s).clamps = s.clamps ∧ (setGearbox g s).valve = s.valve
      ∧ (setGearbox g s).coolant = s.coolant ∧ (setGearbox g s).pendant = s.pendant
      ∧ (setGearbox g s).stop = s.stop ∧ (setGearbox g s).clocks = s.clocks
      ∧ (setGearbox g s).pending = s.pending := by
  unfold setGearbox
  (repeat' split) <;> simp

@[simp] theorem holdGearbox_frame (s : State) :
    (holdGearbox s).link = s.link ∧ (holdGearbox s).planner = s.planner ∧ (holdGearbox s).axes = s.axes
      ∧ (holdGearbox s).comp = s.comp ∧ (holdGearbox s).clamps = s.clamps ∧ (holdGearbox s).valve = s.valve
      ∧ (holdGearbox s).coolant = s.coolant ∧ (holdGearbox s).pendant = s.pendant
      ∧ (holdGearbox s).stop = s.stop ∧ (holdGearbox s).clocks = s.clocks ∧ (holdGearbox s).pending = s.pending := by
  unfold holdGearbox
  simp

@[simp] theorem deriveState_frame (s : State) :
    (deriveState s).link = s.link ∧ (deriveState s).planner = s.planner ∧ (deriveState s).axes = s.axes
      ∧ (deriveState s).comp = s.comp ∧ (deriveState s).clamps = s.clamps ∧ (deriveState s).valve = s.valve
      ∧ (deriveState s).coolant = s.coolant ∧ (deriveState s).pendant = s.pendant
      ∧ (deriveState s).stop = s.stop ∧ (deriveState s).clocks = s.clocks ∧ (deriveState s).pending = s.pending := by
  unfold deriveState
  simp

@[simp] theorem requestStroke_frame (k : ForkStroke) (s : State) :
    (requestStroke k s).link = s.link ∧ (requestStroke k s).planner = s.planner
      ∧ (requestStroke k s).axes = s.axes ∧ (requestStroke k s).comp = s.comp
      ∧ (requestStroke k s).clamps = s.clamps ∧ (requestStroke k s).spindle = s.spindle
      ∧ (requestStroke k s).coolant = s.coolant ∧ (requestStroke k s).pendant = s.pendant
      ∧ (requestStroke k s).stop = s.stop ∧ (requestStroke k s).clocks = s.clocks
      ∧ (requestStroke k s).pending = s.pending := by
  unfold requestStroke
  simp

@[simp] theorem endCreep_frame (s : State) :
    (endCreep s).link = s.link ∧ (endCreep s).planner = s.planner ∧ (endCreep s).axes = s.axes
      ∧ (endCreep s).comp = s.comp ∧ (endCreep s).clamps = s.clamps ∧ (endCreep s).valve = s.valve
      ∧ (endCreep s).coolant = s.coolant ∧ (endCreep s).pendant = s.pendant ∧ (endCreep s).stop = s.stop
      ∧ (endCreep s).clocks = s.clocks ∧ (endCreep s).pending = s.pending := by
  unfold endCreep
  (repeat' split) <;> simp

@[simp] theorem settleChange_frame (s : State) :
    (settleChange s).link = s.link ∧ (settleChange s).axes = s.axes ∧ (settleChange s).comp = s.comp
      ∧ (settleChange s).clamps = s.clamps ∧ (settleChange s).valve = s.valve
      ∧ (settleChange s).pendant = s.pendant ∧ (settleChange s).stop = s.stop
      ∧ (settleChange s).clocks = s.clocks ∧ (settleChange s).pending = s.pending := by
  unfold settleChange
  dsimp only
  (repeat' split) <;> simp

@[simp] theorem planFirst_frame (s : State) :
    (planFirst s).link = s.link ∧ (planFirst s).axes = s.axes ∧ (planFirst s).comp = s.comp
      ∧ (planFirst s).clamps = s.clamps ∧ (planFirst s).pendant = s.pendant ∧ (planFirst s).stop = s.stop
      ∧ (planFirst s).clocks = s.clocks ∧ (planFirst s).pending = s.pending := by
  unfold planFirst
  (repeat' split) <;> simp

@[simp] theorem beginChange_frame (t : GearTarget) (o : Owner) (s : State) :
    (beginChange t o s).link = s.link ∧ (beginChange t o s).axes = s.axes ∧ (beginChange t o s).comp = s.comp
      ∧ (beginChange t o s).clamps = s.clamps ∧ (beginChange t o s).pendant = s.pendant
      ∧ (beginChange t o s).stop = s.stop ∧ (beginChange t o s).clocks = s.clocks
      ∧ (beginChange t o s).pending = s.pending := by
  unfold beginChange
  dsimp only
  (repeat' split) <;> simp

@[simp] theorem gearFault_frame (s : State) :
    (gearFault s).axes = s.axes ∧ (gearFault s).comp = s.comp ∧ (gearFault s).clamps = s.clamps
      ∧ (gearFault s).valve = s.valve ∧ (gearFault s).pendant = s.pendant ∧ (gearFault s).clocks = s.clocks
      ∧ (gearFault s).pending = s.pending := by
  unfold gearFault
  dsimp only
  (repeat' split) <;> simp

@[simp] theorem failedAttempt_frame (s : State) :
    (failedAttempt s).axes = s.axes ∧ (failedAttempt s).comp = s.comp ∧ (failedAttempt s).clamps = s.clamps
      ∧ (failedAttempt s).valve = s.valve ∧ (failedAttempt s).pendant = s.pendant
      ∧ (failedAttempt s).clocks = s.clocks ∧ (failedAttempt s).pending = s.pending := by
  unfold failedAttempt
  dsimp only
  (repeat' split) <;> simp

@[simp] theorem requestFresh_frame (k : ForkStroke) (s : State) :
    (requestFresh k s).link = s.link ∧ (requestFresh k s).planner = s.planner
      ∧ (requestFresh k s).axes = s.axes ∧ (requestFresh k s).comp = s.comp
      ∧ (requestFresh k s).clamps = s.clamps ∧ (requestFresh k s).spindle = s.spindle
      ∧ (requestFresh k s).coolant = s.coolant ∧ (requestFresh k s).pendant = s.pendant
      ∧ (requestFresh k s).stop = s.stop ∧ (requestFresh k s).clocks = s.clocks
      ∧ (requestFresh k s).pending = s.pending := by
  unfold requestFresh
  simp

@[simp] theorem strokeSucceeded_frame (s : State) :
    (strokeSucceeded s).axes = s.axes ∧ (strokeSucceeded s).comp = s.comp
      ∧ (strokeSucceeded s).clamps = s.clamps ∧ (strokeSucceeded s).pendant = s.pendant
      ∧ (strokeSucceeded s).clocks = s.clocks ∧ (strokeSucceeded s).pending = s.pending := by
  unfold strokeSucceeded
  dsimp only
  (repeat' split) <;> simp

@[simp] theorem pauseEnds_frame (s : State) :
    (pauseEnds s).link = s.link ∧ (pauseEnds s).axes = s.axes ∧ (pauseEnds s).comp = s.comp
      ∧ (pauseEnds s).clamps = s.clamps ∧ (pauseEnds s).pendant = s.pendant ∧ (pauseEnds s).stop = s.stop
      ∧ (pauseEnds s).clocks = s.clocks ∧ (pauseEnds s).pending = s.pending := by
  unfold pauseEnds
  dsimp only
  (repeat' split) <;> simp

@[simp] theorem retarget_frame (t : GearTarget) (o : Owner) (s : State) :
    (retarget t o s).link = s.link ∧ (retarget t o s).axes = s.axes ∧ (retarget t o s).comp = s.comp
      ∧ (retarget t o s).clamps = s.clamps ∧ (retarget t o s).pendant = s.pendant
      ∧ (retarget t o s).stop = s.stop ∧ (retarget t o s).clocks = s.clocks
      ∧ (retarget t o s).pending = s.pending := by
  unfold retarget
  dsimp only
  (repeat' split) <;> simp

@[simp] theorem commandAtIdle_frame (o : Owner) (speed : Nat) (forced : Option GearRange) (s : State) :
    (commandAtIdle o speed forced s).link = s.link ∧ (commandAtIdle o speed forced s).axes = s.axes
      ∧ (commandAtIdle o speed forced s).comp = s.comp ∧ (commandAtIdle o speed forced s).clamps = s.clamps
      ∧ (commandAtIdle o speed forced s).pendant = s.pendant ∧ (commandAtIdle o speed forced s).stop = s.stop
      ∧ (commandAtIdle o speed forced s).clocks = s.clocks
      ∧ (commandAtIdle o speed forced s).pending = s.pending := by
  unfold commandAtIdle
  (repeat' split) <;> simp

@[simp] theorem commandInChange_frame (o : Owner) (speed : Nat) (forced : Option GearRange) (s : State) :
    (commandInChange o speed forced s).link = s.link ∧ (commandInChange o speed forced s).axes = s.axes
      ∧ (commandInChange o speed forced s).comp = s.comp ∧ (commandInChange o speed forced s).clamps = s.clamps
      ∧ (commandInChange o speed forced s).pendant = s.pendant
      ∧ (commandInChange o speed forced s).stop = s.stop ∧ (commandInChange o speed forced s).clocks = s.clocks
      ∧ (commandInChange o speed forced s).pending = s.pending := by
  unfold commandInChange
  (repeat' split) <;> simp

@[simp] theorem gearCommand_frame (o : Owner) (speed : Nat) (forced : Option GearRange) (s : State) :
    (gearCommand o speed forced s).link = s.link ∧ (gearCommand o speed forced s).axes = s.axes
      ∧ (gearCommand o speed forced s).comp = s.comp ∧ (gearCommand o speed forced s).clamps = s.clamps
      ∧ (gearCommand o speed forced s).pendant = s.pendant ∧ (gearCommand o speed forced s).stop = s.stop
      ∧ (gearCommand o speed forced s).clocks = s.clocks ∧ (gearCommand o speed forced s).pending = s.pending := by
  unfold gearCommand
  (repeat' split) <;> simp

@[simp] theorem takeDeferred_frame (s : State) :
    (takeDeferred s).link = s.link ∧ (takeDeferred s).axes = s.axes ∧ (takeDeferred s).comp = s.comp
      ∧ (takeDeferred s).clamps = s.clamps ∧ (takeDeferred s).pendant = s.pendant
      ∧ (takeDeferred s).stop = s.stop ∧ (takeDeferred s).clocks = s.clocks
      ∧ (takeDeferred s).pending = s.pending := by
  unfold takeDeferred
  (repeat' split) <;> simp

@[simp] theorem endAbortedChange_frame (s : State) :
    (endAbortedChange s).link = s.link ∧ (endAbortedChange s).axes = s.axes
      ∧ (endAbortedChange s).comp = s.comp ∧ (endAbortedChange s).clamps = s.clamps
      ∧ (endAbortedChange s).pendant = s.pendant ∧ (endAbortedChange s).stop = s.stop
      ∧ (endAbortedChange s).clocks = s.clocks ∧ (endAbortedChange s).pending = s.pending := by
  unfold endAbortedChange
  simp

@[simp] theorem gearAbort_frame (s : State) :
    (gearAbort s).link = s.link ∧ (gearAbort s).axes = s.axes ∧ (gearAbort s).comp = s.comp
      ∧ (gearAbort s).clamps = s.clamps ∧ (gearAbort s).pendant = s.pendant ∧ (gearAbort s).stop = s.stop
      ∧ (gearAbort s).clocks = s.clocks ∧ (gearAbort s).pending = s.pending := by
  unfold gearAbort
  dsimp only
  (repeat' split) <;> simp

@[simp] theorem gearTrip_frame (wasActive : Bool) (s : State) :
    (gearTrip wasActive s).link = s.link ∧ (gearTrip wasActive s).axes = s.axes
      ∧ (gearTrip wasActive s).comp = s.comp ∧ (gearTrip wasActive s).clamps = s.clamps
      ∧ (gearTrip wasActive s).valve = s.valve ∧ (gearTrip wasActive s).pendant = s.pendant
      ∧ (gearTrip wasActive s).stop = s.stop ∧ (gearTrip wasActive s).clocks = s.clocks
      ∧ (gearTrip wasActive s).pending = s.pending := by
  unfold gearTrip
  dsimp only
  (repeat' split) <;> simp

@[simp] theorem forkOutcome_frame (success : Bool) (s : State) :
    (forkOutcome success s).axes = s.axes ∧ (forkOutcome success s).comp = s.comp
      ∧ (forkOutcome success s).clamps = s.clamps ∧ (forkOutcome success s).pendant = s.pendant
      ∧ (forkOutcome success s).clocks = s.clocks ∧ (forkOutcome success s).pending = s.pending := by
  unfold forkOutcome
  (repeat' split) <;> simp

@[simp] theorem forkGranted_frame (s : State) :
    (forkGranted s).link = s.link ∧ (forkGranted s).planner = s.planner ∧ (forkGranted s).axes = s.axes
      ∧ (forkGranted s).comp = s.comp ∧ (forkGranted s).clamps = s.clamps ∧ (forkGranted s).valve = s.valve
      ∧ (forkGranted s).coolant = s.coolant ∧ (forkGranted s).pendant = s.pendant
      ∧ (forkGranted s).stop = s.stop ∧ (forkGranted s).clocks = s.clocks ∧ (forkGranted s).pending = s.pending := by
  unfold forkGranted
  (repeat' split) <;> simp

@[simp] theorem gearSlip_frame (f : Fork) (s : State) :
    (gearSlip f s).axes = s.axes ∧ (gearSlip f s).comp = s.comp ∧ (gearSlip f s).clamps = s.clamps
      ∧ (gearSlip f s).valve = s.valve ∧ (gearSlip f s).pendant = s.pendant ∧ (gearSlip f s).clocks = s.clocks
      ∧ (gearSlip f s).pending = s.pending := by
  unfold gearSlip
  simp

@[simp] theorem releaseGearbox_frame (s : State) :
    (releaseGearbox s).link = s.link ∧ (releaseGearbox s).axes = s.axes ∧ (releaseGearbox s).comp = s.comp
      ∧ (releaseGearbox s).clamps = s.clamps ∧ (releaseGearbox s).valve = s.valve
      ∧ (releaseGearbox s).pendant = s.pendant ∧ (releaseGearbox s).stop = s.stop
      ∧ (releaseGearbox s).clocks = s.clocks ∧ (releaseGearbox s).pending = s.pending := by
  unfold releaseGearbox
  (repeat' split) <;> simp

/-! ## Valve Bank -/

@[simp] theorem setClampState_frame (a : Axis) (c : ClampState) (s : State) :
    (setClampState a c s).link = s.link ∧ (setClampState a c s).planner = s.planner
      ∧ (setClampState a c s).axes = s.axes ∧ (setClampState a c s).comp = s.comp
      ∧ (setClampState a c s).valve = s.valve ∧ (setClampState a c s).spindle = s.spindle
      ∧ (setClampState a c s).gear = s.gear ∧ (setClampState a c s).coolant = s.coolant
      ∧ (setClampState a c s).pendant = s.pendant ∧ (setClampState a c s).stop = s.stop
      ∧ (setClampState a c s).clocks = s.clocks ∧ (setClampState a c s).pending = s.pending := by
  unfold setClampState
  simp

@[simp] theorem setReleasePending_frame (a : Axis) (v : Bool) (s : State) :
    (setReleasePending a v s).link = s.link ∧ (setReleasePending a v s).planner = s.planner
      ∧ (setReleasePending a v s).axes = s.axes ∧ (setReleasePending a v s).comp = s.comp
      ∧ (setReleasePending a v s).valve = s.valve ∧ (setReleasePending a v s).spindle = s.spindle
      ∧ (setReleasePending a v s).gear = s.gear ∧ (setReleasePending a v s).coolant = s.coolant
      ∧ (setReleasePending a v s).pendant = s.pendant ∧ (setReleasePending a v s).stop = s.stop
      ∧ (setReleasePending a v s).clocks = s.clocks ∧ (setReleasePending a v s).pending = s.pending := by
  unfold setReleasePending
  simp

@[simp] theorem setLinger_frame (a : Axis) (t : Option Nat) (s : State) :
    (setLinger a t s).link = s.link ∧ (setLinger a t s).planner = s.planner ∧ (setLinger a t s).axes = s.axes
      ∧ (setLinger a t s).comp = s.comp ∧ (setLinger a t s).valve = s.valve
      ∧ (setLinger a t s).spindle = s.spindle ∧ (setLinger a t s).gear = s.gear
      ∧ (setLinger a t s).coolant = s.coolant ∧ (setLinger a t s).pendant = s.pendant
      ∧ (setLinger a t s).stop = s.stop ∧ (setLinger a t s).clocks = s.clocks
      ∧ (setLinger a t s).pending = s.pending := by
  unfold setLinger
  simp

@[simp] theorem lingerExpires_frame (a : Axis) (s : State) :
    (lingerExpires a s).link = s.link ∧ (lingerExpires a s).planner = s.planner
      ∧ (lingerExpires a s).axes = s.axes ∧ (lingerExpires a s).comp = s.comp
      ∧ (lingerExpires a s).spindle = s.spindle ∧ (lingerExpires a s).gear = s.gear
      ∧ (lingerExpires a s).coolant = s.coolant ∧ (lingerExpires a s).pendant = s.pendant
      ∧ (lingerExpires a s).stop = s.stop ∧ (lingerExpires a s).clocks = s.clocks
      ∧ (lingerExpires a s).pending = s.pending := by
  unfold lingerExpires
  simp

@[simp] theorem startLinger_frame (a : Axis) (s : State) :
    (startLinger a s).link = s.link ∧ (startLinger a s).planner = s.planner ∧ (startLinger a s).axes = s.axes
      ∧ (startLinger a s).comp = s.comp ∧ (startLinger a s).spindle = s.spindle
      ∧ (startLinger a s).gear = s.gear ∧ (startLinger a s).coolant = s.coolant
      ∧ (startLinger a s).pendant = s.pendant ∧ (startLinger a s).stop = s.stop
      ∧ (startLinger a s).clocks = s.clocks ∧ (startLinger a s).pending = s.pending := by
  unfold startLinger
  (repeat' split) <;> simp

@[simp] theorem cancelLinger_frame (a : Axis) (s : State) :
    (cancelLinger a s).link = s.link ∧ (cancelLinger a s).planner = s.planner
      ∧ (cancelLinger a s).axes = s.axes ∧ (cancelLinger a s).comp = s.comp
      ∧ (cancelLinger a s).valve = s.valve ∧ (cancelLinger a s).spindle = s.spindle
      ∧ (cancelLinger a s).gear = s.gear ∧ (cancelLinger a s).coolant = s.coolant
      ∧ (cancelLinger a s).pendant = s.pendant ∧ (cancelLinger a s).stop = s.stop
      ∧ (cancelLinger a s).clocks = s.clocks ∧ (cancelLinger a s).pending = s.pending := by
  unfold cancelLinger
  (repeat' split) <;> simp

@[simp] theorem startMoving_frame (a : Axis) (s : State) :
    (startMoving a s).link = s.link ∧ (startMoving a s).planner = s.planner ∧ (startMoving a s).comp = s.comp
      ∧ (startMoving a s).clamps = s.clamps ∧ (startMoving a s).valve = s.valve
      ∧ (startMoving a s).spindle = s.spindle ∧ (startMoving a s).gear = s.gear
      ∧ (startMoving a s).coolant = s.coolant ∧ (startMoving a s).pendant = s.pendant
      ∧ (startMoving a s).stop = s.stop ∧ (startMoving a s).clocks = s.clocks
      ∧ (startMoving a s).pending = s.pending := by
  unfold startMoving
  (repeat' split) <;> simp

@[simp] theorem releaseSucceeded_frame (a : Axis) (s : State) :
    (releaseSucceeded a s).link = s.link ∧ (releaseSucceeded a s).planner = s.planner
      ∧ (releaseSucceeded a s).comp = s.comp ∧ (releaseSucceeded a s).spindle = s.spindle
      ∧ (releaseSucceeded a s).gear = s.gear ∧ (releaseSucceeded a s).coolant = s.coolant
      ∧ (releaseSucceeded a s).pendant = s.pendant ∧ (releaseSucceeded a s).stop = s.stop
      ∧ (releaseSucceeded a s).clocks = s.clocks ∧ (releaseSucceeded a s).pending = s.pending := by
  unfold releaseSucceeded
  dsimp only
  (repeat' split) <;> simp

@[simp] theorem engageSucceeded_frame (a : Axis) (s : State) :
    (engageSucceeded a s).link = s.link ∧ (engageSucceeded a s).planner = s.planner
      ∧ (engageSucceeded a s).axes = s.axes ∧ (engageSucceeded a s).comp = s.comp
      ∧ (engageSucceeded a s).spindle = s.spindle ∧ (engageSucceeded a s).gear = s.gear
      ∧ (engageSucceeded a s).coolant = s.coolant ∧ (engageSucceeded a s).pendant = s.pendant
      ∧ (engageSucceeded a s).stop = s.stop ∧ (engageSucceeded a s).clocks = s.clocks
      ∧ (engageSucceeded a s).pending = s.pending := by
  unfold engageSucceeded
  (repeat' split) <;> simp

@[simp] theorem clampTimedOut_frame (a : Axis) (s : State) :
    (clampTimedOut a s).comp = s.comp ∧ (clampTimedOut a s).valve = s.valve
      ∧ (clampTimedOut a s).spindle = s.spindle ∧ (clampTimedOut a s).gear = s.gear
      ∧ (clampTimedOut a s).coolant = s.coolant ∧ (clampTimedOut a s).clocks = s.clocks
      ∧ (clampTimedOut a s).pending = s.pending := by
  unfold clampTimedOut
  simp

@[simp] theorem strokeGranted_frame (k : Stroke) (s : State) :
    (strokeGranted k s).link = s.link ∧ (strokeGranted k s).planner = s.planner
      ∧ (strokeGranted k s).axes = s.axes ∧ (strokeGranted k s).comp = s.comp
      ∧ (strokeGranted k s).valve = s.valve ∧ (strokeGranted k s).coolant = s.coolant
      ∧ (strokeGranted k s).pendant = s.pendant ∧ (strokeGranted k s).stop = s.stop
      ∧ (strokeGranted k s).clocks = s.clocks ∧ (strokeGranted k s).pending = s.pending := by
  unfold strokeGranted
  (repeat' split) <;> simp

@[simp] theorem grantWalk_frame (s : State) :
    (grantWalk s).link = s.link ∧ (grantWalk s).planner = s.planner ∧ (grantWalk s).axes = s.axes
      ∧ (grantWalk s).comp = s.comp ∧ (grantWalk s).coolant = s.coolant ∧ (grantWalk s).pendant = s.pendant
      ∧ (grantWalk s).stop = s.stop ∧ (grantWalk s).clocks = s.clocks ∧ (grantWalk s).pending = s.pending := by
  unfold grantWalk
  split
  · refine ⟨?_, ?_, ?_, ?_, ?_, ?_, ?_, ?_, ?_⟩
    · exact foldl_keeps State.link _ (fun t k => by simp) _ _
    · exact foldl_keeps State.planner _ (fun t k => by simp) _ _
    · exact foldl_keeps State.axes _ (fun t k => by simp) _ _
    · exact foldl_keeps State.comp _ (fun t k => by simp) _ _
    · exact foldl_keeps State.coolant _ (fun t k => by simp) _ _
    · exact foldl_keeps State.pendant _ (fun t k => by simp) _ _
    · exact foldl_keeps State.stop _ (fun t k => by simp) _ _
    · exact foldl_keeps State.clocks _ (fun t k => by simp) _ _
    · exact foldl_keeps State.pending _ (fun t k => by simp) _ _
  · simp

@[simp] theorem strokeEnds_frame (k : Stroke) (success : Bool) (s : State) :
    (strokeEnds k success s).comp = s.comp ∧ (strokeEnds k success s).clocks = s.clocks
      ∧ (strokeEnds k success s).pending = s.pending := by
  unfold strokeEnds
  (repeat' split) <;> simp

@[simp] theorem settleStrokes_frame (n : Nat) (s : State) :
    (settleStrokes n s).comp = s.comp ∧ (settleStrokes n s).clocks = s.clocks
      ∧ (settleStrokes n s).pending = s.pending := by
  induction n generalizing s with
  | zero => simp [settleStrokes]
  | succ n ih =>
    unfold settleStrokes
    split
    · simp
    · simp [ih]

@[simp] theorem grantOpportunity_frame (s : State) :
    (grantOpportunity s).comp = s.comp ∧ (grantOpportunity s).clocks = s.clocks
      ∧ (grantOpportunity s).pending = s.pending := by
  unfold grantOpportunity
  simp

/-- An operation over the request list ends as it stands where the list does, and in a grant opportunity where a
request joined or was withdrawn (R88). -/
theorem withOpportunity_cases (f : State → State) (s : State) :
    ((f s).valve.requests = s.valve.requests ∧ withOpportunity f s = f s)
      ∨ ((f s).valve.requests ≠ s.valve.requests ∧ withOpportunity f s = grantOpportunity (f s)) := by
  unfold withOpportunity
  split
  · rename_i h
    exact .inl ⟨by simpa using h, rfl⟩
  · rename_i h
    exact .inr ⟨by simpa using h, rfl⟩

theorem withOpportunity_of_eq {f : State → State} {s : State} (h : (f s).valve.requests = s.valve.requests) :
    withOpportunity f s = f s := by
  rcases withOpportunity_cases f s with ⟨_, e⟩ | ⟨n, _⟩
  · exact e
  · exact absurd h n

@[simp] theorem withOpportunity_frame (f : State → State) (s : State) :
    (withOpportunity f s).comp = (f s).comp ∧ (withOpportunity f s).clocks = (f s).clocks
      ∧ (withOpportunity f s).pending = (f s).pending := by
  rcases withOpportunity_cases f s with ⟨_, e⟩ | ⟨_, e⟩ <;> simp [e]

@[simp] theorem askClamp_frame (a : Axis) (s : State) :
    (askClamp a s).link = s.link ∧ (askClamp a s).planner = s.planner ∧ (askClamp a s).comp = s.comp
      ∧ (askClamp a s).spindle = s.spindle ∧ (askClamp a s).gear = s.gear ∧ (askClamp a s).coolant = s.coolant
      ∧ (askClamp a s).stop = s.stop ∧ (askClamp a s).clocks = s.clocks ∧ (askClamp a s).pending = s.pending := by
  unfold askClamp
  (repeat' split) <;> simp

@[simp] theorem askRelease_frame (a : Axis) (s : State) :
    (askRelease a s).comp = s.comp ∧ (askRelease a s).clocks = s.clocks ∧ (askRelease a s).pending = s.pending := by
  unfold askRelease
  dsimp only
  (repeat' split) <;> simp

@[simp] theorem handSpeed_frame (o : Owner) (speed : Nat) (forced : Option GearRange) (s : State) :
    (handSpeed o speed forced s).comp = s.comp ∧ (handSpeed o speed forced s).clocks = s.clocks
      ∧ (handSpeed o speed forced s).pending = s.pending := by
  unfold handSpeed
  simp

@[simp] theorem spindleCommand_frame (o : Owner) (speed : Nat) (d : Rotation) (forced : Option GearRange) (s : State) :
    (spindleCommand o speed d forced s).comp = s.comp ∧ (spindleCommand o speed d forced s).clocks = s.clocks
      ∧ (spindleCommand o speed d forced s).pending = s.pending := by
  unfold spindleCommand
  (repeat' split) <;> simp

@[simp] theorem valveTrip_frame (s : State) :
    (valveTrip s).link = s.link ∧ (valveTrip s).planner = s.planner ∧ (valveTrip s).axes = s.axes
      ∧ (valveTrip s).comp = s.comp ∧ (valveTrip s).spindle = s.spindle ∧ (valveTrip s).gear = s.gear
      ∧ (valveTrip s).coolant = s.coolant ∧ (valveTrip s).pendant = s.pendant ∧ (valveTrip s).stop = s.stop
      ∧ (valveTrip s).clocks = s.clocks ∧ (valveTrip s).pending = s.pending := by
  unfold valveTrip
  simp

@[simp] theorem releaseClamp_frame (a : Axis) (s : State) :
    (releaseClamp a s).link = s.link ∧ (releaseClamp a s).planner = s.planner
      ∧ (releaseClamp a s).axes = s.axes ∧ (releaseClamp a s).comp = s.comp
      ∧ (releaseClamp a s).valve = s.valve ∧ (releaseClamp a s).spindle = s.spindle
      ∧ (releaseClamp a s).gear = s.gear ∧ (releaseClamp a s).coolant = s.coolant
      ∧ (releaseClamp a s).pendant = s.pendant ∧ (releaseClamp a s).stop = s.stop
      ∧ (releaseClamp a s).clocks = s.clocks ∧ (releaseClamp a s).pending = s.pending := by
  unfold releaseClamp
  (repeat' split) <;> simp

/-! ## Path feed -/

@[simp] theorem distribute_frame (c : MoveContext) (s : State) :
    (distribute c s).link = s.link ∧ (distribute c s).comp = s.comp ∧ (distribute c s).clamps = s.clamps
      ∧ (distribute c s).valve = s.valve ∧ (distribute c s).spindle = s.spindle
      ∧ (distribute c s).gear = s.gear ∧ (distribute c s).coolant = s.coolant
      ∧ (distribute c s).pendant = s.pendant ∧ (distribute c s).stop = s.stop
      ∧ (distribute c s).clocks = s.clocks ∧ (distribute c s).pending = s.pending := by
  unfold distribute
  simp

@[simp] theorem pathStep_frame (mode : FeedMode) (feed : Nat) (c : MoveContext) (s : State) :
    (pathStep mode feed c s).link = s.link ∧ (pathStep mode feed c s).comp = s.comp
      ∧ (pathStep mode feed c s).clamps = s.clamps ∧ (pathStep mode feed c s).valve = s.valve
      ∧ (pathStep mode feed c s).spindle = s.spindle ∧ (pathStep mode feed c s).gear = s.gear
      ∧ (pathStep mode feed c s).coolant = s.coolant ∧ (pathStep mode feed c s).pendant = s.pendant
      ∧ (pathStep mode feed c s).stop = s.stop ∧ (pathStep mode feed c s).clocks = s.clocks
      ∧ (pathStep mode feed c s).pending = s.pending := by
  unfold pathStep
  (repeat' split) <;> simp

/-! ## Jog demands -/

@[simp] theorem giveDemand_frame (a : Axis) (d : JogDemand) (s : State) :
    (giveDemand a d s).comp = s.comp ∧ (giveDemand a d s).clocks = s.clocks
      ∧ (giveDemand a d s).pending = s.pending := by
  unfold giveDemand
  (repeat' split) <;> simp

@[simp] theorem giveStop_frame (a : Axis) (s : State) :
    (giveStop a s).link = s.link ∧ (giveStop a s).planner = s.planner ∧ (giveStop a s).comp = s.comp
      ∧ (giveStop a s).clamps = s.clamps ∧ (giveStop a s).valve = s.valve ∧ (giveStop a s).spindle = s.spindle
      ∧ (giveStop a s).gear = s.gear ∧ (giveStop a s).coolant = s.coolant ∧ (giveStop a s).pendant = s.pendant
      ∧ (giveStop a s).stop = s.stop ∧ (giveStop a s).clocks = s.clocks ∧ (giveStop a s).pending = s.pending := by
  unfold giveStop
  (repeat' split) <;> simp

@[simp] theorem stopIfJogged_frame (a : Axis) (s : State) :
    (stopIfJogged a s).link = s.link ∧ (stopIfJogged a s).planner = s.planner
      ∧ (stopIfJogged a s).comp = s.comp ∧ (stopIfJogged a s).clamps = s.clamps
      ∧ (stopIfJogged a s).valve = s.valve ∧ (stopIfJogged a s).spindle = s.spindle
      ∧ (stopIfJogged a s).gear = s.gear ∧ (stopIfJogged a s).coolant = s.coolant
      ∧ (stopIfJogged a s).pendant = s.pendant ∧ (stopIfJogged a s).stop = s.stop
      ∧ (stopIfJogged a s).clocks = s.clocks ∧ (stopIfJogged a s).pending = s.pending := by
  unfold stopIfJogged
  (repeat' split) <;> simp

@[simp] theorem withdraw_frame (s : State) :
    (withdraw s).link = s.link ∧ (withdraw s).planner = s.planner ∧ (withdraw s).comp = s.comp
      ∧ (withdraw s).clamps = s.clamps ∧ (withdraw s).valve = s.valve ∧ (withdraw s).spindle = s.spindle
      ∧ (withdraw s).gear = s.gear ∧ (withdraw s).coolant = s.coolant ∧ (withdraw s).stop = s.stop
      ∧ (withdraw s).clocks = s.clocks ∧ (withdraw s).pending = s.pending := by
  unfold withdraw
  simp only [eachAxis]
  (repeat' split) <;> simp

/-! ## Motion Planner -/

@[simp] theorem releaseClaims_frame (s : State) :
    (releaseClaims s).link = s.link ∧ (releaseClaims s).planner = s.planner ∧ (releaseClaims s).comp = s.comp
      ∧ (releaseClaims s).clamps = s.clamps ∧ (releaseClaims s).valve = s.valve
      ∧ (releaseClaims s).spindle = s.spindle ∧ (releaseClaims s).gear = s.gear
      ∧ (releaseClaims s).coolant = s.coolant ∧ (releaseClaims s).pendant = s.pendant
      ∧ (releaseClaims s).stop = s.stop ∧ (releaseClaims s).clocks = s.clocks
      ∧ (releaseClaims s).pending = s.pending := by
  unfold releaseClaims
  simp

@[simp] theorem headLeaves_frame (o : EntryOutcome) (s : State) :
    (headLeaves o s).comp = s.comp ∧ (headLeaves o s).clamps = s.clamps ∧ (headLeaves o s).valve = s.valve
      ∧ (headLeaves o s).spindle = s.spindle ∧ (headLeaves o s).gear = s.gear
      ∧ (headLeaves o s).coolant = s.coolant ∧ (headLeaves o s).pendant = s.pendant
      ∧ (headLeaves o s).stop = s.stop ∧ (headLeaves o s).clocks = s.clocks
      ∧ (headLeaves o s).pending = s.pending := by
  unfold headLeaves
  (repeat' split) <;> simp

@[simp] theorem enterIdle_frame (s : State) :
    (enterIdle s).link = s.link ∧ (enterIdle s).axes = s.axes ∧ (enterIdle s).comp = s.comp
      ∧ (enterIdle s).clamps = s.clamps ∧ (enterIdle s).valve = s.valve ∧ (enterIdle s).spindle = s.spindle
      ∧ (enterIdle s).gear = s.gear ∧ (enterIdle s).coolant = s.coolant ∧ (enterIdle s).pendant = s.pendant
      ∧ (enterIdle s).stop = s.stop ∧ (enterIdle s).clocks = s.clocks ∧ (enterIdle s).pending = s.pending := by
  unfold enterIdle
  simp

@[simp] theorem completeEntry_frame (s : State) :
    (completeEntry s).comp = s.comp ∧ (completeEntry s).clamps = s.clamps ∧ (completeEntry s).valve = s.valve
      ∧ (completeEntry s).spindle = s.spindle ∧ (completeEntry s).gear = s.gear
      ∧ (completeEntry s).coolant = s.coolant ∧ (completeEntry s).pendant = s.pendant
      ∧ (completeEntry s).stop = s.stop ∧ (completeEntry s).clocks = s.clocks
      ∧ (completeEntry s).pending = s.pending := by
  unfold completeEntry
  (repeat' split) <;> simp

@[simp] theorem flushQueue_frame (s : State) :
    (flushQueue s).axes = s.axes ∧ (flushQueue s).comp = s.comp ∧ (flushQueue s).clamps = s.clamps
      ∧ (flushQueue s).valve = s.valve ∧ (flushQueue s).spindle = s.spindle ∧ (flushQueue s).gear = s.gear
      ∧ (flushQueue s).coolant = s.coolant ∧ (flushQueue s).pendant = s.pendant ∧ (flushQueue s).stop = s.stop
      ∧ (flushQueue s).clocks = s.clocks ∧ (flushQueue s).pending = s.pending := by
  unfold flushQueue
  simp

@[simp] theorem completeAbort_frame (headLeft : Bool) (s : State) :
    (completeAbort headLeft s).comp = s.comp ∧ (completeAbort headLeft s).clamps = s.clamps
      ∧ (completeAbort headLeft s).valve = s.valve ∧ (completeAbort headLeft s).spindle = s.spindle
      ∧ (completeAbort headLeft s).gear = s.gear ∧ (completeAbort headLeft s).coolant = s.coolant
      ∧ (completeAbort headLeft s).pendant = s.pendant ∧ (completeAbort headLeft s).stop = s.stop
      ∧ (completeAbort headLeft s).clocks = s.clocks ∧ (completeAbort headLeft s).pending = s.pending := by
  unfold completeAbort
  (repeat' split) <;> simp

@[simp] theorem immediateStop_frame (s : State) :
    (immediateStop s).comp = s.comp ∧ (immediateStop s).clamps = s.clamps ∧ (immediateStop s).stop = s.stop
      ∧ (immediateStop s).clocks = s.clocks ∧ (immediateStop s).pending = s.pending := by
  unfold immediateStop
  simp only [eachAxis]
  simp

@[simp] theorem takeTrip_frame (s : State) :
    (takeTrip s).comp = s.comp ∧ (takeTrip s).stop = s.stop ∧ (takeTrip s).clocks = s.clocks
      ∧ (takeTrip s).pending = s.pending := by
  unfold takeTrip
  simp only [eachAxis]
  simp

@[simp] theorem trip_frame (c : FaultCode) (s : State) :
    (trip c s).comp = s.comp ∧ (trip c s).clocks = s.clocks ∧ (trip c s).pending = s.pending := by
  unfold trip
  simp

@[simp] theorem armWait_frame (m : CoolantMode) (wait : Bool) (s : State) :
    (armWait m wait s).link = s.link ∧ (armWait m wait s).axes = s.axes ∧ (armWait m wait s).comp = s.comp
      ∧ (armWait m wait s).clamps = s.clamps ∧ (armWait m wait s).valve = s.valve
      ∧ (armWait m wait s).spindle = s.spindle ∧ (armWait m wait s).gear = s.gear
      ∧ (armWait m wait s).coolant = s.coolant ∧ (armWait m wait s).pendant = s.pendant
      ∧ (armWait m wait s).stop = s.stop ∧ (armWait m wait s).clocks = s.clocks
      ∧ (armWait m wait s).pending = s.pending := by
  unfold armWait
  (repeat' split) <;> simp

@[simp] theorem fixContext_frame (targets : PerAxis (Option Int)) (s : State) :
    (fixContext targets s).link = s.link ∧ (fixContext targets s).axes = s.axes
      ∧ (fixContext targets s).comp = s.comp ∧ (fixContext targets s).clamps = s.clamps
      ∧ (fixContext targets s).valve = s.valve ∧ (fixContext targets s).spindle = s.spindle
      ∧ (fixContext targets s).gear = s.gear ∧ (fixContext targets s).coolant = s.coolant
      ∧ (fixContext targets s).pendant = s.pendant ∧ (fixContext targets s).stop = s.stop
      ∧ (fixContext targets s).clocks = s.clocks ∧ (fixContext targets s).pending = s.pending := by
  unfold fixContext
  (repeat' split) <;> simp

@[simp] theorem claimAxis_frame (legs : PerAxis (Option Leg)) (a : Axis) (s : State) :
    (claimAxis legs a s).comp = s.comp ∧ (claimAxis legs a s).clocks = s.clocks
      ∧ (claimAxis legs a s).pending = s.pending := by
  unfold claimAxis
  (repeat' split) <;> simp

@[simp] theorem claimAxes_frame (s : State) :
    (claimAxes s).comp = s.comp ∧ (claimAxes s).clocks = s.clocks ∧ (claimAxes s).pending = s.pending := by
  unfold claimAxes
  simp only [eachAxis]
  (repeat' split) <;> simp

@[simp] theorem startActions_frame (s : State) :
    (startActions s).comp = s.comp ∧ (startActions s).clocks = s.clocks ∧ (startActions s).pending = s.pending := by
  unfold startActions
  (repeat' split) <;> simp

@[simp] theorem raiseIf_frame (b : Bool) (c : HoldCause) (s : State) :
    (raiseIf b c s).link = s.link ∧ (raiseIf b c s).axes = s.axes ∧ (raiseIf b c s).comp = s.comp
      ∧ (raiseIf b c s).clamps = s.clamps ∧ (raiseIf b c s).valve = s.valve
      ∧ (raiseIf b c s).spindle = s.spindle ∧ (raiseIf b c s).gear = s.gear
      ∧ (raiseIf b c s).coolant = s.coolant ∧ (raiseIf b c s).pendant = s.pendant
      ∧ (raiseIf b c s).stop = s.stop ∧ (raiseIf b c s).clocks = s.clocks ∧ (raiseIf b c s).pending = s.pending := by
  unfold raiseIf
  (repeat' split) <;> simp

@[simp] theorem startChecks_frame (s : State) :
    (startChecks s).link = s.link ∧ (startChecks s).axes = s.axes ∧ (startChecks s).comp = s.comp
      ∧ (startChecks s).clamps = s.clamps ∧ (startChecks s).valve = s.valve
      ∧ (startChecks s).spindle = s.spindle ∧ (startChecks s).gear = s.gear
      ∧ (startChecks s).coolant = s.coolant ∧ (startChecks s).pendant = s.pendant
      ∧ (startChecks s).stop = s.stop ∧ (startChecks s).clocks = s.clocks ∧ (startChecks s).pending = s.pending := by
  unfold startChecks
  simp

@[simp] theorem beginHead_frame (s : State) :
    (beginHead s).comp = s.comp ∧ (beginHead s).clocks = s.clocks ∧ (beginHead s).pending = s.pending := by
  unfold beginHead
  simp

@[simp] theorem startHead_frame (s : State) :
    (startHead s).comp = s.comp ∧ (startHead s).clocks = s.clocks ∧ (startHead s).pending = s.pending := by
  unfold startHead
  (repeat' split) <;> simp

@[simp] theorem promoteHead_frame (s : State) :
    (promoteHead s).link = s.link ∧ (promoteHead s).axes = s.axes ∧ (promoteHead s).comp = s.comp
      ∧ (promoteHead s).clamps = s.clamps ∧ (promoteHead s).valve = s.valve
      ∧ (promoteHead s).spindle = s.spindle ∧ (promoteHead s).gear = s.gear
      ∧ (promoteHead s).coolant = s.coolant ∧ (promoteHead s).pendant = s.pendant
      ∧ (promoteHead s).stop = s.stop ∧ (promoteHead s).clocks = s.clocks ∧ (promoteHead s).pending = s.pending := by
  unfold promoteHead
  (repeat' split) <;> simp

@[simp] theorem moveWork_frame (mode : FeedMode) (feed : Nat) (s : State) :
    (moveWork mode feed s).1.link = s.link ∧ (moveWork mode feed s).1.comp = s.comp
      ∧ (moveWork mode feed s).1.clamps = s.clamps ∧ (moveWork mode feed s).1.valve = s.valve
      ∧ (moveWork mode feed s).1.spindle = s.spindle ∧ (moveWork mode feed s).1.gear = s.gear
      ∧ (moveWork mode feed s).1.coolant = s.coolant ∧ (moveWork mode feed s).1.pendant = s.pendant
      ∧ (moveWork mode feed s).1.stop = s.stop ∧ (moveWork mode feed s).1.clocks = s.clocks
      ∧ (moveWork mode feed s).1.pending = s.pending := by
  unfold moveWork
  (repeat' split) <;> simp

@[simp] theorem dwellWork_frame (time : Nat) (s : State) :
    (dwellWork time s).1.link = s.link ∧ (dwellWork time s).1.axes = s.axes
      ∧ (dwellWork time s).1.comp = s.comp ∧ (dwellWork time s).1.clamps = s.clamps
      ∧ (dwellWork time s).1.valve = s.valve ∧ (dwellWork time s).1.spindle = s.spindle
      ∧ (dwellWork time s).1.gear = s.gear ∧ (dwellWork time s).1.coolant = s.coolant
      ∧ (dwellWork time s).1.pendant = s.pendant ∧ (dwellWork time s).1.stop = s.stop
      ∧ (dwellWork time s).1.clocks = s.clocks ∧ (dwellWork time s).1.pending = s.pending := by
  unfold dwellWork
  simp

@[simp] theorem activeWork_frame (s : State) :
    (activeWork s).1.link = s.link ∧ (activeWork s).1.comp = s.comp ∧ (activeWork s).1.clamps = s.clamps
      ∧ (activeWork s).1.valve = s.valve ∧ (activeWork s).1.spindle = s.spindle
      ∧ (activeWork s).1.gear = s.gear ∧ (activeWork s).1.coolant = s.coolant
      ∧ (activeWork s).1.pendant = s.pendant ∧ (activeWork s).1.stop = s.stop
      ∧ (activeWork s).1.clocks = s.clocks ∧ (activeWork s).1.pending = s.pending := by
  unfold activeWork
  (repeat' split) <;> simp

@[simp] theorem plannerWork_frame (s : State) :
    (plannerWork s).1.comp = s.comp ∧ (plannerWork s).1.clocks = s.clocks
      ∧ (plannerWork s).1.pending = s.pending := by
  unfold plannerWork
  dsimp only
  (repeat' split) <;> simp

@[simp] theorem becomeHeld_frame (s : State) :
    (becomeHeld s).link = s.link ∧ (becomeHeld s).axes = s.axes ∧ (becomeHeld s).comp = s.comp
      ∧ (becomeHeld s).clamps = s.clamps ∧ (becomeHeld s).valve = s.valve ∧ (becomeHeld s).spindle = s.spindle
      ∧ (becomeHeld s).gear = s.gear ∧ (becomeHeld s).coolant = s.coolant ∧ (becomeHeld s).pendant = s.pendant
      ∧ (becomeHeld s).stop = s.stop ∧ (becomeHeld s).clocks = s.clocks ∧ (becomeHeld s).pending = s.pending := by
  unfold becomeHeld
  simp

@[simp] theorem plannerFinish_frame (completes : Bool) (s : State) :
    (plannerFinish completes s).comp = s.comp ∧ (plannerFinish completes s).clamps = s.clamps
      ∧ (plannerFinish completes s).valve = s.valve ∧ (plannerFinish completes s).spindle = s.spindle
      ∧ (plannerFinish completes s).gear = s.gear ∧ (plannerFinish completes s).coolant = s.coolant
      ∧ (plannerFinish completes s).pendant = s.pendant ∧ (plannerFinish completes s).stop = s.stop
      ∧ (plannerFinish completes s).clocks = s.clocks ∧ (plannerFinish completes s).pending = s.pending := by
  unfold plannerFinish
  (repeat' split) <;> simp

@[simp] theorem dropOperatorCauses_frame (s : State) :
    (dropOperatorCauses s).link = s.link ∧ (dropOperatorCauses s).axes = s.axes
      ∧ (dropOperatorCauses s).comp = s.comp ∧ (dropOperatorCauses s).clamps = s.clamps
      ∧ (dropOperatorCauses s).valve = s.valve ∧ (dropOperatorCauses s).spindle = s.spindle
      ∧ (dropOperatorCauses s).gear = s.gear ∧ (dropOperatorCauses s).coolant = s.coolant
      ∧ (dropOperatorCauses s).pendant = s.pendant ∧ (dropOperatorCauses s).stop = s.stop
      ∧ (dropOperatorCauses s).clocks = s.clocks ∧ (dropOperatorCauses s).pending = s.pending := by
  unfold dropOperatorCauses
  simp

@[simp] theorem awaitSpeed_frame (s : State) :
    (awaitSpeed s).comp = s.comp ∧ (awaitSpeed s).clocks = s.clocks ∧ (awaitSpeed s).pending = s.pending := by
  unfold awaitSpeed
  dsimp only
  (repeat' split) <;> simp

@[simp] theorem resumeProgram_frame (s : State) :
    (resumeProgram s).comp = s.comp ∧ (resumeProgram s).clocks = s.clocks
      ∧ (resumeProgram s).pending = s.pending := by
  unfold resumeProgram
  (repeat' split) <;> simp

@[simp] theorem startProgram_frame (s : State) :
    (startProgram s).comp = s.comp ∧ (startProgram s).clocks = s.clocks ∧ (startProgram s).pending = s.pending := by
  unfold startProgram
  (repeat' split) <;> simp

@[simp] theorem abortReference_frame (a : Axis) (s : State) :
    (abortReference a s).link = s.link ∧ (abortReference a s).planner = s.planner
      ∧ (abortReference a s).comp = s.comp ∧ (abortReference a s).clamps = s.clamps
      ∧ (abortReference a s).valve = s.valve ∧ (abortReference a s).spindle = s.spindle
      ∧ (abortReference a s).gear = s.gear ∧ (abortReference a s).coolant = s.coolant
      ∧ (abortReference a s).pendant = s.pendant ∧ (abortReference a s).stop = s.stop
      ∧ (abortReference a s).clocks = s.clocks ∧ (abortReference a s).pending = s.pending := by
  unfold abortReference
  (repeat' split) <;> simp

@[simp] theorem brakeOrAbort_frame (s : State) :
    (brakeOrAbort s).comp = s.comp ∧ (brakeOrAbort s).clamps = s.clamps ∧ (brakeOrAbort s).valve = s.valve
      ∧ (brakeOrAbort s).spindle = s.spindle ∧ (brakeOrAbort s).gear = s.gear
      ∧ (brakeOrAbort s).coolant = s.coolant ∧ (brakeOrAbort s).pendant = s.pendant
      ∧ (brakeOrAbort s).stop = s.stop ∧ (brakeOrAbort s).clocks = s.clocks
      ∧ (brakeOrAbort s).pending = s.pending := by
  unfold brakeOrAbort
  (repeat' split) <;> simp

@[simp] theorem plannerAbort_frame (s : State) :
    (plannerAbort s).comp = s.comp ∧ (plannerAbort s).clamps = s.clamps ∧ (plannerAbort s).valve = s.valve
      ∧ (plannerAbort s).spindle = s.spindle ∧ (plannerAbort s).gear = s.gear
      ∧ (plannerAbort s).coolant = s.coolant ∧ (plannerAbort s).pendant = s.pendant
      ∧ (plannerAbort s).stop = s.stop ∧ (plannerAbort s).clocks = s.clocks
      ∧ (plannerAbort s).pending = s.pending := by
  unfold plannerAbort
  (repeat' split) <;> simp

@[simp] theorem abortProgram_frame (s : State) :
    (abortProgram s).comp = s.comp ∧ (abortProgram s).clamps = s.clamps ∧ (abortProgram s).pendant = s.pendant
      ∧ (abortProgram s).stop = s.stop ∧ (abortProgram s).clocks = s.clocks
      ∧ (abortProgram s).pending = s.pending := by
  unfold abortProgram
  simp only [eachAxis]
  (repeat' split) <;> simp

/-! ## Axis Units and Compensation Unit -/

@[simp] theorem axisFault_frame (c : FaultCode) (a : Axis) (s : State) :
    (axisFault c a s).clamps = s.clamps ∧ (axisFault c a s).clocks = s.clocks
      ∧ (axisFault c a s).pending = s.pending := by
  unfold axisFault
  simp

@[simp] theorem driveFaultIfActive_frame (a : Axis) (s : State) :
    (driveFaultIfActive a s).clamps = s.clamps ∧ (driveFaultIfActive a s).clocks = s.clocks
      ∧ (driveFaultIfActive a s).pending = s.pending := by
  unfold driveFaultIfActive
  (repeat' split) <;> simp

@[simp] theorem overtravelOpens_frame (a : Axis) (d : Sign) (s : State) :
    (overtravelOpens a d s).comp = s.comp ∧ (overtravelOpens a d s).clamps = s.clamps
      ∧ (overtravelOpens a d s).clocks = s.clocks ∧ (overtravelOpens a d s).pending = s.pending := by
  unfold overtravelOpens
  simp

@[simp] theorem overtravelIfOpen_frame (a : Axis) (d : Sign) (s : State) :
    (overtravelIfOpen a d s).comp = s.comp ∧ (overtravelIfOpen a d s).clamps = s.clamps
      ∧ (overtravelIfOpen a d s).clocks = s.clocks ∧ (overtravelIfOpen a d s).pending = s.pending := by
  unfold overtravelIfOpen
  (repeat' split) <;> simp

@[simp] theorem fitClamp_frame (a : Axis) (s : State) :
    (fitClamp a s).link = s.link ∧ (fitClamp a s).planner = s.planner ∧ (fitClamp a s).axes = s.axes
      ∧ (fitClamp a s).comp = s.comp ∧ (fitClamp a s).valve = s.valve ∧ (fitClamp a s).spindle = s.spindle
      ∧ (fitClamp a s).gear = s.gear ∧ (fitClamp a s).coolant = s.coolant ∧ (fitClamp a s).pendant = s.pendant
      ∧ (fitClamp a s).stop = s.stop ∧ (fitClamp a s).clocks = s.clocks ∧ (fitClamp a s).pending = s.pending := by
  unfold fitClamp
  simp

@[simp] theorem placeRecord_frame (a : Axis) (p : AxisParams) (s : State) :
    (placeRecord a p s).link = s.link ∧ (placeRecord a p s).planner = s.planner
      ∧ (placeRecord a p s).comp = s.comp ∧ (placeRecord a p s).valve = s.valve
      ∧ (placeRecord a p s).spindle = s.spindle ∧ (placeRecord a p s).gear = s.gear
      ∧ (placeRecord a p s).coolant = s.coolant ∧ (placeRecord a p s).pendant = s.pendant
      ∧ (placeRecord a p s).stop = s.stop ∧ (placeRecord a p s).clocks = s.clocks
      ∧ (placeRecord a p s).pending = s.pending := by
  unfold placeRecord
  (repeat' split) <;> simp

@[simp] theorem acceptAxis_frame (a : Axis) (p : AxisParams) (s : State) :
    (acceptAxis a p s).clocks = s.clocks ∧ (acceptAxis a p s).pending = s.pending := by
  unfold acceptAxis
  (repeat' split) <;> simp

@[simp] theorem followMeasured_frame (a : Axis) (s : State) :
    (followMeasured a s).link = s.link ∧ (followMeasured a s).planner = s.planner
      ∧ (followMeasured a s).comp = s.comp ∧ (followMeasured a s).clamps = s.clamps
      ∧ (followMeasured a s).valve = s.valve ∧ (followMeasured a s).spindle = s.spindle
      ∧ (followMeasured a s).gear = s.gear ∧ (followMeasured a s).coolant = s.coolant
      ∧ (followMeasured a s).pendant = s.pendant ∧ (followMeasured a s).stop = s.stop
      ∧ (followMeasured a s).clocks = s.clocks ∧ (followMeasured a s).pending = s.pending := by
  unfold followMeasured
  simp

@[simp] theorem reseat_frame (a : Axis) (s : State) :
    (reseat a s).link = s.link ∧ (reseat a s).planner = s.planner ∧ (reseat a s).clamps = s.clamps
      ∧ (reseat a s).valve = s.valve ∧ (reseat a s).spindle = s.spindle ∧ (reseat a s).gear = s.gear
      ∧ (reseat a s).coolant = s.coolant ∧ (reseat a s).pendant = s.pendant ∧ (reseat a s).stop = s.stop
      ∧ (reseat a s).clocks = s.clocks ∧ (reseat a s).pending = s.pending := by
  unfold reseat
  (repeat' split) <;> simp

@[simp] theorem parkClamp_frame (a : Axis) (s : State) :
    (parkClamp a s).comp = s.comp ∧ (parkClamp a s).clocks = s.clocks ∧ (parkClamp a s).pending = s.pending := by
  unfold parkClamp
  (repeat' split) <;> simp

@[simp] theorem enterParked_frame (a : Axis) (s : State) :
    (enterParked a s).clocks = s.clocks ∧ (enterParked a s).pending = s.pending := by
  unfold enterParked
  simp

@[simp] theorem leaveParked_frame (a : Axis) (s : State) :
    (leaveParked a s).clamps = s.clamps ∧ (leaveParked a s).clocks = s.clocks
      ∧ (leaveParked a s).pending = s.pending := by
  unfold leaveParked
  simp

@[simp] theorem enterLoop_frame (a : Axis) (s : State) :
    (enterLoop a s).link = s.link ∧ (enterLoop a s).planner = s.planner ∧ (enterLoop a s).clamps = s.clamps
      ∧ (enterLoop a s).valve = s.valve ∧ (enterLoop a s).spindle = s.spindle ∧ (enterLoop a s).gear = s.gear
      ∧ (enterLoop a s).coolant = s.coolant ∧ (enterLoop a s).pendant = s.pendant
      ∧ (enterLoop a s).stop = s.stop ∧ (enterLoop a s).clocks = s.clocks ∧ (enterLoop a s).pending = s.pending := by
  unfold enterLoop
  simp

@[simp] theorem leaveLoop_frame (a : Axis) (s : State) :
    (leaveLoop a s).clamps = s.clamps ∧ (leaveLoop a s).clocks = s.clocks ∧ (leaveLoop a s).pending = s.pending := by
  unfold leaveLoop
  dsimp only
  (repeat' split) <;> simp

@[simp] theorem referenceNormal_frame (a : Axis) (s : State) :
    (referenceNormal a s).clocks = s.clocks ∧ (referenceNormal a s).pending = s.pending := by
  unfold referenceNormal
  simp

@[simp] theorem referenceLoop_frame (a : Axis) (p : AxisParams) (s : State) :
    (referenceLoop a p s).link = s.link ∧ (referenceLoop a p s).planner = s.planner
      ∧ (referenceLoop a p s).clamps = s.clamps ∧ (referenceLoop a p s).valve = s.valve
      ∧ (referenceLoop a p s).spindle = s.spindle ∧ (referenceLoop a p s).gear = s.gear
      ∧ (referenceLoop a p s).coolant = s.coolant ∧ (referenceLoop a p s).pendant = s.pendant
      ∧ (referenceLoop a p s).stop = s.stop ∧ (referenceLoop a p s).clocks = s.clocks
      ∧ (referenceLoop a p s).pending = s.pending := by
  unfold referenceLoop
  simp

@[simp] theorem markSeen_frame (a : Axis) (p : AxisParams) (s : State) :
    (markSeen a p s).link = s.link ∧ (markSeen a p s).planner = s.planner ∧ (markSeen a p s).clamps = s.clamps
      ∧ (markSeen a p s).valve = s.valve ∧ (markSeen a p s).spindle = s.spindle
      ∧ (markSeen a p s).gear = s.gear ∧ (markSeen a p s).coolant = s.coolant
      ∧ (markSeen a p s).pendant = s.pendant ∧ (markSeen a p s).stop = s.stop
      ∧ (markSeen a p s).clocks = s.clocks ∧ (markSeen a p s).pending = s.pending := by
  unfold markSeen
  simp

@[simp] theorem noteJog_frame (a : Axis) (before : Int) (s : State) :
    (noteJog a before s).link = s.link ∧ (noteJog a before s).axes = s.axes
      ∧ (noteJog a before s).comp = s.comp ∧ (noteJog a before s).clamps = s.clamps
      ∧ (noteJog a before s).valve = s.valve ∧ (noteJog a before s).spindle = s.spindle
      ∧ (noteJog a before s).gear = s.gear ∧ (noteJog a before s).coolant = s.coolant
      ∧ (noteJog a before s).pendant = s.pendant ∧ (noteJog a before s).stop = s.stop
      ∧ (noteJog a before s).clocks = s.clocks ∧ (noteJog a before s).pending = s.pending := by
  unfold noteJog
  (repeat' split) <;> simp

@[simp] theorem moveLocally_frame (a : Axis) (s : State) :
    (moveLocally a s).link = s.link ∧ (moveLocally a s).comp = s.comp ∧ (moveLocally a s).clamps = s.clamps
      ∧ (moveLocally a s).valve = s.valve ∧ (moveLocally a s).spindle = s.spindle
      ∧ (moveLocally a s).gear = s.gear ∧ (moveLocally a s).coolant = s.coolant
      ∧ (moveLocally a s).pendant = s.pendant ∧ (moveLocally a s).stop = s.stop
      ∧ (moveLocally a s).clocks = s.clocks ∧ (moveLocally a s).pending = s.pending := by
  unfold moveLocally
  (repeat' split) <;> simp

@[simp] theorem stepOutput_frame (a : Axis) (before : Int) (w : CompRecord × Bool) (s : State) :
    (stepOutput a before w s).link = s.link ∧ (stepOutput a before w s).planner = s.planner
      ∧ (stepOutput a before w s).clamps = s.clamps ∧ (stepOutput a before w s).valve = s.valve
      ∧ (stepOutput a before w s).spindle = s.spindle ∧ (stepOutput a before w s).gear = s.gear
      ∧ (stepOutput a before w s).coolant = s.coolant ∧ (stepOutput a before w s).pendant = s.pendant
      ∧ (stepOutput a before w s).stop = s.stop ∧ (stepOutput a before w s).clocks = s.clocks
      ∧ (stepOutput a before w s).pending = s.pending := by
  unfold stepOutput
  simp

@[simp] theorem followPeriod_frame (a : Axis) (before : Int) (s : State) :
    (followPeriod a before s).link = s.link ∧ (followPeriod a before s).planner = s.planner
      ∧ (followPeriod a before s).comp = s.comp ∧ (followPeriod a before s).clamps = s.clamps
      ∧ (followPeriod a before s).valve = s.valve ∧ (followPeriod a before s).spindle = s.spindle
      ∧ (followPeriod a before s).gear = s.gear ∧ (followPeriod a before s).coolant = s.coolant
      ∧ (followPeriod a before s).pendant = s.pendant ∧ (followPeriod a before s).stop = s.stop
      ∧ (followPeriod a before s).clocks = s.clocks ∧ (followPeriod a before s).pending = s.pending := by
  unfold followPeriod
  simp

@[simp] theorem compensateAxis_frame (before : Axis → Int) (a : Axis) (s : State) :
    (compensateAxis before a s).link = s.link ∧ (compensateAxis before a s).planner = s.planner
      ∧ (compensateAxis before a s).clamps = s.clamps ∧ (compensateAxis before a s).valve = s.valve
      ∧ (compensateAxis before a s).spindle = s.spindle ∧ (compensateAxis before a s).gear = s.gear
      ∧ (compensateAxis before a s).coolant = s.coolant ∧ (compensateAxis before a s).pendant = s.pendant
      ∧ (compensateAxis before a s).stop = s.stop ∧ (compensateAxis before a s).clocks = s.clocks
      ∧ (compensateAxis before a s).pending = s.pending := by
  unfold compensateAxis
  (repeat' split) <;> simp

@[simp] theorem checkFollowing_frame (a : Axis) (s : State) :
    (checkFollowing a s).clamps = s.clamps ∧ (checkFollowing a s).clocks = s.clocks
      ∧ (checkFollowing a s).pending = s.pending := by
  unfold checkFollowing
  (repeat' split) <;> simp

@[simp] theorem endLocal_frame (a : Axis) (s : State) :
    (endLocal a s).planner = s.planner ∧ (endLocal a s).comp = s.comp ∧ (endLocal a s).clamps = s.clamps
      ∧ (endLocal a s).valve = s.valve ∧ (endLocal a s).spindle = s.spindle ∧ (endLocal a s).gear = s.gear
      ∧ (endLocal a s).coolant = s.coolant ∧ (endLocal a s).pendant = s.pendant
      ∧ (endLocal a s).clocks = s.clocks ∧ (endLocal a s).pending = s.pending := by
  unfold endLocal
  (repeat' split) <;> simp

@[simp] theorem checkParked_frame (a : Axis) (s : State) :
    (checkParked a s).link = s.link ∧ (checkParked a s).planner = s.planner
      ∧ (checkParked a s).clamps = s.clamps ∧ (checkParked a s).valve = s.valve
      ∧ (checkParked a s).spindle = s.spindle ∧ (checkParked a s).gear = s.gear
      ∧ (checkParked a s).coolant = s.coolant ∧ (checkParked a s).pendant = s.pendant
      ∧ (checkParked a s).stop = s.stop ∧ (checkParked a s).clocks = s.clocks
      ∧ (checkParked a s).pending = s.pending := by
  unfold checkParked
  (repeat' split) <;> simp

@[simp] theorem renewErrorCondition_frame (a : Axis) (s : State) :
    (renewErrorCondition a s).link = s.link ∧ (renewErrorCondition a s).planner = s.planner
      ∧ (renewErrorCondition a s).axes = s.axes ∧ (renewErrorCondition a s).comp = s.comp
      ∧ (renewErrorCondition a s).clamps = s.clamps ∧ (renewErrorCondition a s).valve = s.valve
      ∧ (renewErrorCondition a s).spindle = s.spindle ∧ (renewErrorCondition a s).gear = s.gear
      ∧ (renewErrorCondition a s).coolant = s.coolant ∧ (renewErrorCondition a s).pendant = s.pendant
      ∧ (renewErrorCondition a s).clocks = s.clocks ∧ (renewErrorCondition a s).pending = s.pending := by
  unfold renewErrorCondition
  simp

@[simp] theorem periodLinger_frame (a : Axis) (s : State) :
    (periodLinger a s).comp = s.comp ∧ (periodLinger a s).clocks = s.clocks
      ∧ (periodLinger a s).pending = s.pending := by
  unfold periodLinger
  (repeat' split) <;> simp

@[simp] theorem recordView_frame (a : Axis) (s : State) :
    (recordView a s).link = s.link ∧ (recordView a s).planner = s.planner ∧ (recordView a s).comp = s.comp
      ∧ (recordView a s).clamps = s.clamps ∧ (recordView a s).valve = s.valve
      ∧ (recordView a s).spindle = s.spindle ∧ (recordView a s).gear = s.gear
      ∧ (recordView a s).coolant = s.coolant ∧ (recordView a s).pendant = s.pendant
      ∧ (recordView a s).stop = s.stop ∧ (recordView a s).clocks = s.clocks
      ∧ (recordView a s).pending = s.pending := by
  unfold recordView
  simp

@[simp] theorem axesPeriod_frame (before : Axis → Int) (s : State) :
    (axesPeriod before s).clocks = s.clocks ∧ (axesPeriod before s).pending = s.pending := by
  unfold axesPeriod
  simp only [eachAxis]
  simp

@[simp] theorem periodEnds_frame (s : State) :
    (periodEnds s).clocks = s.clocks ∧ (periodEnds s).pending = s.pending := by
  unfold periodEnds
  simp only [eachAxis]
  simp

@[simp] theorem afterWork_frame (before : Axis → Int) (w : State × Bool) :
    (afterWork before w).clocks = w.1.clocks ∧ (afterWork before w).pending = w.1.pending := by
  unfold afterWork
  simp

@[simp] theorem interpolate_frame (s : State) :
    (interpolate s).pending = s.pending := by
  unfold interpolate
  simp

/-! ## Pendant Unit -/

@[simp] theorem setOverrideValues_frame (feed spindle : Nat) (s : State) :
    (setOverrideValues feed spindle s).link = s.link ∧ (setOverrideValues feed spindle s).planner = s.planner
      ∧ (setOverrideValues feed spindle s).axes = s.axes ∧ (setOverrideValues feed spindle s).comp = s.comp
      ∧ (setOverrideValues feed spindle s).clamps = s.clamps
      ∧ (setOverrideValues feed spindle s).valve = s.valve ∧ (setOverrideValues feed spindle s).gear = s.gear
      ∧ (setOverrideValues feed spindle s).coolant = s.coolant
      ∧ (setOverrideValues feed spindle s).stop = s.stop ∧ (setOverrideValues feed spindle s).clocks = s.clocks
      ∧ (setOverrideValues feed spindle s).pending = s.pending := by
  unfold setOverrideValues
  (repeat' split) <;> simp

@[simp] theorem takeKnobs_frame (r : ScanReply) (s : State) :
    (takeKnobs r s).link = s.link ∧ (takeKnobs r s).planner = s.planner ∧ (takeKnobs r s).axes = s.axes
      ∧ (takeKnobs r s).comp = s.comp ∧ (takeKnobs r s).clamps = s.clamps ∧ (takeKnobs r s).valve = s.valve
      ∧ (takeKnobs r s).gear = s.gear ∧ (takeKnobs r s).coolant = s.coolant ∧ (takeKnobs r s).stop = s.stop
      ∧ (takeKnobs r s).clocks = s.clocks ∧ (takeKnobs r s).pending = s.pending := by
  unfold takeKnobs
  simp

@[simp] theorem clipIf_frame (cut : Bool) (s : State) :
    (clipIf cut s).link = s.link ∧ (clipIf cut s).planner = s.planner ∧ (clipIf cut s).axes = s.axes
      ∧ (clipIf cut s).comp = s.comp ∧ (clipIf cut s).clamps = s.clamps ∧ (clipIf cut s).valve = s.valve
      ∧ (clipIf cut s).spindle = s.spindle ∧ (clipIf cut s).gear = s.gear ∧ (clipIf cut s).coolant = s.coolant
      ∧ (clipIf cut s).stop = s.stop ∧ (clipIf cut s).clocks = s.clocks ∧ (clipIf cut s).pending = s.pending := by
  unfold clipIf
  (repeat' split) <;> simp

@[simp] theorem cycleStart_frame (s : State) :
    (cycleStart s).comp = s.comp ∧ (cycleStart s).clocks = s.clocks ∧ (cycleStart s).pending = s.pending := by
  unfold cycleStart
  (repeat' split) <;> simp

@[simp] theorem takeButtons_frame (previous r : ScanReply) (s : State) :
    (takeButtons previous r s).comp = s.comp ∧ (takeButtons previous r s).clocks = s.clocks
      ∧ (takeButtons previous r s).pending = s.pending := by
  unfold takeButtons
  simp only [doIf]
  (repeat' split) <;> simp

@[simp] theorem judgeSite_frame (r : ScanReply) (s : State) :
    (judgeSite r s).link = s.link ∧ (judgeSite r s).planner = s.planner ∧ (judgeSite r s).comp = s.comp
      ∧ (judgeSite r s).clamps = s.clamps ∧ (judgeSite r s).valve = s.valve
      ∧ (judgeSite r s).spindle = s.spindle ∧ (judgeSite r s).gear = s.gear
      ∧ (judgeSite r s).coolant = s.coolant ∧ (judgeSite r s).stop = s.stop ∧ (judgeSite r s).clocks = s.clocks
      ∧ (judgeSite r s).pending = s.pending := by
  unfold judgeSite
  (repeat' split) <;> simp

@[simp] theorem selectorChange_frame (previous r : ScanReply) (s : State) :
    (selectorChange previous r s).link = s.link ∧ (selectorChange previous r s).planner = s.planner
      ∧ (selectorChange previous r s).comp = s.comp ∧ (selectorChange previous r s).clamps = s.clamps
      ∧ (selectorChange previous r s).valve = s.valve ∧ (selectorChange previous r s).spindle = s.spindle
      ∧ (selectorChange previous r s).gear = s.gear ∧ (selectorChange previous r s).coolant = s.coolant
      ∧ (selectorChange previous r s).stop = s.stop ∧ (selectorChange previous r s).clocks = s.clocks
      ∧ (selectorChange previous r s).pending = s.pending := by
  unfold selectorChange
  dsimp only
  (repeat' split) <;> simp

@[simp] theorem markJogged_frame (a : Axis) (s : State) :
    (markJogged a s).link = s.link ∧ (markJogged a s).planner = s.planner ∧ (markJogged a s).axes = s.axes
      ∧ (markJogged a s).comp = s.comp ∧ (markJogged a s).clamps = s.clamps ∧ (markJogged a s).valve = s.valve
      ∧ (markJogged a s).spindle = s.spindle ∧ (markJogged a s).gear = s.gear
      ∧ (markJogged a s).coolant = s.coolant ∧ (markJogged a s).stop = s.stop
      ∧ (markJogged a s).clocks = s.clocks ∧ (markJogged a s).pending = s.pending := by
  unfold markJogged
  simp

@[simp] theorem pressDiscards_frame (previous r : ScanReply) (s : State) :
    (pressDiscards previous r s).link = s.link ∧ (pressDiscards previous r s).planner = s.planner
      ∧ (pressDiscards previous r s).axes = s.axes ∧ (pressDiscards previous r s).comp = s.comp
      ∧ (pressDiscards previous r s).clamps = s.clamps ∧ (pressDiscards previous r s).valve = s.valve
      ∧ (pressDiscards previous r s).spindle = s.spindle ∧ (pressDiscards previous r s).gear = s.gear
      ∧ (pressDiscards previous r s).coolant = s.coolant ∧ (pressDiscards previous r s).stop = s.stop
      ∧ (pressDiscards previous r s).clocks = s.clocks ∧ (pressDiscards previous r s).pending = s.pending := by
  unfold pressDiscards
  (repeat' split) <;> simp

@[simp] theorem buttonDemand_frame (a : Axis) (r : ScanReply) (s : State) :
    (buttonDemand a r s).comp = s.comp ∧ (buttonDemand a r s).clocks = s.clocks
      ∧ (buttonDemand a r s).pending = s.pending := by
  unfold buttonDemand
  (repeat' split) <;> simp

@[simp] theorem giveWheelGoal_frame (a : Axis) (g : Int) (s : State) :
    (giveWheelGoal a g s).comp = s.comp ∧ (giveWheelGoal a g s).clocks = s.clocks
      ∧ (giveWheelGoal a g s).pending = s.pending := by
  unfold giveWheelGoal
  (repeat' split) <;> simp

@[simp] theorem takeWheel_frame (a : Axis) (detents : Int) (s : State) :
    (takeWheel a detents s).comp = s.comp ∧ (takeWheel a detents s).clocks = s.clocks
      ∧ (takeWheel a detents s).pending = s.pending := by
  unfold takeWheel
  (repeat' split) <;> simp

@[simp] theorem unblock_frame (r : ScanReply) (s : State) :
    (unblock r s).link = s.link ∧ (unblock r s).planner = s.planner ∧ (unblock r s).axes = s.axes
      ∧ (unblock r s).comp = s.comp ∧ (unblock r s).clamps = s.clamps ∧ (unblock r s).valve = s.valve
      ∧ (unblock r s).spindle = s.spindle ∧ (unblock r s).gear = s.gear ∧ (unblock r s).coolant = s.coolant
      ∧ (unblock r s).stop = s.stop ∧ (unblock r s).clocks = s.clocks ∧ (unblock r s).pending = s.pending := by
  unfold unblock
  (repeat' split) <;> simp

@[simp] theorem takeJog_frame (previous r : ScanReply) (a : Axis) (s : State) :
    (takeJog previous r a s).comp = s.comp ∧ (takeJog previous r a s).clocks = s.clocks
      ∧ (takeJog previous r a s).pending = s.pending := by
  unfold takeJog
  (repeat' split) <;> simp

@[simp] theorem jogStage_frame (previous r : ScanReply) (s : State) :
    (jogStage previous r s).comp = s.comp ∧ (jogStage previous r s).clocks = s.clocks
      ∧ (jogStage previous r s).pending = s.pending := by
  unfold jogStage
  dsimp only
  (repeat' split) <;> simp

@[simp] theorem storeReply_frame (r : ScanReply) (s : State) :
    (storeReply r s).link = s.link ∧ (storeReply r s).planner = s.planner ∧ (storeReply r s).axes = s.axes
      ∧ (storeReply r s).comp = s.comp ∧ (storeReply r s).clamps = s.clamps ∧ (storeReply r s).valve = s.valve
      ∧ (storeReply r s).spindle = s.spindle ∧ (storeReply r s).gear = s.gear
      ∧ (storeReply r s).coolant = s.coolant ∧ (storeReply r s).stop = s.stop
      ∧ (storeReply r s).clocks = s.clocks ∧ (storeReply r s).pending = s.pending := by
  unfold storeReply
  simp

@[simp] theorem takeReply_frame (previous r : ScanReply) (s : State) :
    (takeReply previous r s).comp = s.comp ∧ (takeReply previous r s).clocks = s.clocks
      ∧ (takeReply previous r s).pending = s.pending := by
  unfold takeReply
  simp

@[simp] theorem comeOnline_frame (r : ScanReply) (s : State) :
    (comeOnline r s).link = s.link ∧ (comeOnline r s).planner = s.planner ∧ (comeOnline r s).axes = s.axes
      ∧ (comeOnline r s).comp = s.comp ∧ (comeOnline r s).clamps = s.clamps ∧ (comeOnline r s).valve = s.valve
      ∧ (comeOnline r s).gear = s.gear ∧ (comeOnline r s).coolant = s.coolant
      ∧ (comeOnline r s).clocks = s.clocks ∧ (comeOnline r s).pending = s.pending := by
  unfold comeOnline
  simp

@[simp] theorem scanGood_frame (r : ScanReply) (s : State) :
    (scanGood r s).comp = s.comp ∧ (scanGood r s).clocks = s.clocks ∧ (scanGood r s).pending = s.pending := by
  unfold scanGood
  (repeat' split) <;> simp

@[simp] theorem becomeLost_frame (s : State) :
    (becomeLost s).comp = s.comp ∧ (becomeLost s).clamps = s.clamps ∧ (becomeLost s).valve = s.valve
      ∧ (becomeLost s).spindle = s.spindle ∧ (becomeLost s).gear = s.gear ∧ (becomeLost s).coolant = s.coolant
      ∧ (becomeLost s).clocks = s.clocks ∧ (becomeLost s).pending = s.pending := by
  unfold becomeLost
  dsimp only
  (repeat' split) <;> simp

@[simp] theorem missCounted_frame (s : State) :
    (missCounted s).comp = s.comp ∧ (missCounted s).clamps = s.clamps ∧ (missCounted s).valve = s.valve
      ∧ (missCounted s).spindle = s.spindle ∧ (missCounted s).gear = s.gear
      ∧ (missCounted s).coolant = s.coolant ∧ (missCounted s).clocks = s.clocks
      ∧ (missCounted s).pending = s.pending := by
  unfold missCounted
  (repeat' split) <;> simp

@[simp] theorem scanMiss_frame (s : State) :
    (scanMiss s).comp = s.comp ∧ (scanMiss s).clamps = s.clamps ∧ (scanMiss s).valve = s.valve
      ∧ (scanMiss s).spindle = s.spindle ∧ (scanMiss s).gear = s.gear ∧ (scanMiss s).coolant = s.coolant
      ∧ (scanMiss s).clocks = s.clocks ∧ (scanMiss s).pending = s.pending := by
  unfold scanMiss
  (repeat' split) <;> simp

@[simp] theorem replyArrives_frame (bytes : List Byte) (fields : Option ScanReply) (s : State) :
    (replyArrives bytes fields s).comp = s.comp ∧ (replyArrives bytes fields s).clocks = s.clocks
      ∧ (replyArrives bytes fields s).pending = s.pending := by
  unfold replyArrives
  (repeat' split) <;> simp

@[simp] theorem windowCloses_frame (s : State) :
    (windowCloses s).comp = s.comp ∧ (windowCloses s).clamps = s.clamps ∧ (windowCloses s).valve = s.valve
      ∧ (windowCloses s).spindle = s.spindle ∧ (windowCloses s).gear = s.gear
      ∧ (windowCloses s).coolant = s.coolant ∧ (windowCloses s).clocks = s.clocks
      ∧ (windowCloses s).pending = s.pending := by
  unfold windowCloses
  (repeat' split) <;> simp

@[simp] theorem sendRequest_frame (s : State) :
    (sendRequest s).link = s.link ∧ (sendRequest s).planner = s.planner ∧ (sendRequest s).axes = s.axes
      ∧ (sendRequest s).comp = s.comp ∧ (sendRequest s).clamps = s.clamps ∧ (sendRequest s).valve = s.valve
      ∧ (sendRequest s).spindle = s.spindle ∧ (sendRequest s).gear = s.gear
      ∧ (sendRequest s).coolant = s.coolant ∧ (sendRequest s).stop = s.stop ∧ (sendRequest s).clocks = s.clocks
      ∧ (sendRequest s).pending = s.pending := by
  unfold sendRequest
  (repeat' split) <;> simp

/-! ## Queue orders -/

@[simp] theorem appendEntry_frame (e : Entry) (s : State) :
    (appendEntry e s).link = s.link ∧ (appendEntry e s).axes = s.axes ∧ (appendEntry e s).comp = s.comp
      ∧ (appendEntry e s).clamps = s.clamps ∧ (appendEntry e s).valve = s.valve
      ∧ (appendEntry e s).spindle = s.spindle ∧ (appendEntry e s).gear = s.gear
      ∧ (appendEntry e s).coolant = s.coolant ∧ (appendEntry e s).pendant = s.pendant
      ∧ (appendEntry e s).stop = s.stop ∧ (appendEntry e s).clocks = s.clocks
      ∧ (appendEntry e s).pending = s.pending := by
  unfold appendEntry
  (repeat' split) <;> simp

/-! ## Spindle and gear commands -/

@[simp] theorem gearRetarget_frame (t : GearTarget) (s : State) :
    (gearRetarget t s).link = s.link ∧ (gearRetarget t s).axes = s.axes ∧ (gearRetarget t s).comp = s.comp
      ∧ (gearRetarget t s).clamps = s.clamps ∧ (gearRetarget t s).pendant = s.pendant
      ∧ (gearRetarget t s).stop = s.stop ∧ (gearRetarget t s).clocks = s.clocks
      ∧ (gearRetarget t s).pending = s.pending := by
  unfold gearRetarget
  (repeat' split) <;> simp

@[simp] theorem gearTargetTaken_frame (t : GearTarget) (s : State) :
    (gearTargetTaken t s).link = s.link ∧ (gearTargetTaken t s).axes = s.axes
      ∧ (gearTargetTaken t s).comp = s.comp ∧ (gearTargetTaken t s).clamps = s.clamps
      ∧ (gearTargetTaken t s).pendant = s.pendant ∧ (gearTargetTaken t s).stop = s.stop
      ∧ (gearTargetTaken t s).clocks = s.clocks ∧ (gearTargetTaken t s).pending = s.pending := by
  unfold gearTargetTaken
  (repeat' split) <;> simp

@[simp] theorem loadGears_frame (g : GearLoad) (s : State) :
    (loadGears g s).link = s.link ∧ (loadGears g s).axes = s.axes ∧ (loadGears g s).comp = s.comp
      ∧ (loadGears g s).clamps = s.clamps ∧ (loadGears g s).valve = s.valve
      ∧ (loadGears g s).pendant = s.pendant ∧ (loadGears g s).stop = s.stop ∧ (loadGears g s).clocks = s.clocks
      ∧ (loadGears g s).pending = s.pending := by
  unfold loadGears
  simp

@[simp] theorem loadSpindle_frame (x : Nat × Nat × Nat) (s : State) :
    (loadSpindle x s).link = s.link ∧ (loadSpindle x s).planner = s.planner ∧ (loadSpindle x s).axes = s.axes
      ∧ (loadSpindle x s).comp = s.comp ∧ (loadSpindle x s).clamps = s.clamps
      ∧ (loadSpindle x s).valve = s.valve ∧ (loadSpindle x s).gear = s.gear
      ∧ (loadSpindle x s).coolant = s.coolant ∧ (loadSpindle x s).pendant = s.pendant
      ∧ (loadSpindle x s).stop = s.stop ∧ (loadSpindle x s).clocks = s.clocks
      ∧ (loadSpindle x s).pending = s.pending := by
  unfold loadSpindle
  simp

@[simp] theorem updateReference_frame (s : State) :
    (updateReference s).link = s.link ∧ (updateReference s).planner = s.planner
      ∧ (updateReference s).axes = s.axes ∧ (updateReference s).comp = s.comp
      ∧ (updateReference s).clamps = s.clamps ∧ (updateReference s).valve = s.valve
      ∧ (updateReference s).gear = s.gear ∧ (updateReference s).coolant = s.coolant
      ∧ (updateReference s).pendant = s.pendant ∧ (updateReference s).stop = s.stop
      ∧ (updateReference s).clocks = s.clocks ∧ (updateReference s).pending = s.pending := by
  unfold updateReference
  (repeat' split) <;> simp

@[simp] theorem checkStall_frame (s : State) :
    (checkStall s).axes = s.axes ∧ (checkStall s).comp = s.comp ∧ (checkStall s).clamps = s.clamps
      ∧ (checkStall s).valve = s.valve ∧ (checkStall s).gear = s.gear ∧ (checkStall s).coolant = s.coolant
      ∧ (checkStall s).pendant = s.pendant ∧ (checkStall s).clocks = s.clocks
      ∧ (checkStall s).pending = s.pending := by
  unfold checkStall
  (repeat' split) <;> simp

@[simp] theorem reverseIfStopped_frame (s : State) :
    (reverseIfStopped s).link = s.link ∧ (reverseIfStopped s).planner = s.planner
      ∧ (reverseIfStopped s).axes = s.axes ∧ (reverseIfStopped s).comp = s.comp
      ∧ (reverseIfStopped s).clamps = s.clamps ∧ (reverseIfStopped s).valve = s.valve
      ∧ (reverseIfStopped s).gear = s.gear ∧ (reverseIfStopped s).coolant = s.coolant
      ∧ (reverseIfStopped s).pendant = s.pendant ∧ (reverseIfStopped s).stop = s.stop
      ∧ (reverseIfStopped s).clocks = s.clocks ∧ (reverseIfStopped s).pending = s.pending := by
  unfold reverseIfStopped
  (repeat' split) <;> simp

@[simp] theorem planIfStopped_frame (s : State) :
    (planIfStopped s).comp = s.comp ∧ (planIfStopped s).clocks = s.clocks
      ∧ (planIfStopped s).pending = s.pending := by
  unfold planIfStopped
  (repeat' split) <;> simp

@[simp] theorem endWindow_frame (s : State) :
    (endWindow s).comp = s.comp ∧ (endWindow s).clocks = s.clocks ∧ (endWindow s).pending = s.pending := by
  unfold endWindow
  simp

@[simp] theorem inverterFaultActs_frame (s : State) :
    (inverterFaultActs s).axes = s.axes ∧ (inverterFaultActs s).comp = s.comp
      ∧ (inverterFaultActs s).clamps = s.clamps ∧ (inverterFaultActs s).valve = s.valve
      ∧ (inverterFaultActs s).gear = s.gear ∧ (inverterFaultActs s).coolant = s.coolant
      ∧ (inverterFaultActs s).pendant = s.pendant ∧ (inverterFaultActs s).clocks = s.clocks
      ∧ (inverterFaultActs s).pending = s.pending := by
  unfold inverterFaultActs
  simp

@[simp] theorem inverterChange_frame (active : Bool) (s : State) :
    (inverterChange active s).axes = s.axes ∧ (inverterChange active s).comp = s.comp
      ∧ (inverterChange active s).clamps = s.clamps ∧ (inverterChange active s).valve = s.valve
      ∧ (inverterChange active s).gear = s.gear ∧ (inverterChange active s).coolant = s.coolant
      ∧ (inverterChange active s).pendant = s.pendant ∧ (inverterChange active s).clocks = s.clocks
      ∧ (inverterChange active s).pending = s.pending := by
  unfold inverterChange
  dsimp only
  (repeat' split) <;> simp

@[simp] theorem forkSwitchMeans_frame (k : ForkSwitch) (s : State) :
    (forkSwitchMeans k s).comp = s.comp ∧ (forkSwitchMeans k s).clocks = s.clocks
      ∧ (forkSwitchMeans k s).pending = s.pending := by
  unfold forkSwitchMeans
  (repeat' split) <;> simp

@[simp] theorem forkSwitchMoves_frame (k : ForkSwitch) (closed : Bool) (s : State) :
    (forkSwitchMoves k closed s).comp = s.comp ∧ (forkSwitchMoves k closed s).clocks = s.clocks
      ∧ (forkSwitchMoves k closed s).pending = s.pending := by
  unfold forkSwitchMoves
  (repeat' split) <;> simp

@[simp] theorem alternate_frame (s : State) :
    (alternate s).link = s.link ∧ (alternate s).planner = s.planner ∧ (alternate s).axes = s.axes
      ∧ (alternate s).comp = s.comp ∧ (alternate s).clamps = s.clamps ∧ (alternate s).valve = s.valve
      ∧ (alternate s).coolant = s.coolant ∧ (alternate s).pendant = s.pendant ∧ (alternate s).stop = s.stop
      ∧ (alternate s).clocks = s.clocks ∧ (alternate s).pending = s.pending := by
  unfold alternate
  (repeat' split) <;> simp

@[simp] theorem pauseExpires_frame (s : State) :
    (pauseExpires s).comp = s.comp ∧ (pauseExpires s).clocks = s.clocks ∧ (pauseExpires s).pending = s.pending := by
  unfold pauseExpires
  (repeat' split) <;> simp

/-! ## Coolant commands -/

@[simp] theorem unionChanged_frame (s : State) :
    (unionChanged s).link = s.link ∧ (unionChanged s).axes = s.axes ∧ (unionChanged s).comp = s.comp
      ∧ (unionChanged s).clamps = s.clamps ∧ (unionChanged s).valve = s.valve ∧ (unionChanged s).gear = s.gear
      ∧ (unionChanged s).pendant = s.pendant ∧ (unionChanged s).stop = s.stop
      ∧ (unionChanged s).clocks = s.clocks ∧ (unionChanged s).pending = s.pending := by
  unfold unionChanged
  (repeat' split) <;> simp

@[simp] theorem loadCoolant_frame (c : CoolantParams) (s : State) :
    (loadCoolant c s).link = s.link ∧ (loadCoolant c s).axes = s.axes ∧ (loadCoolant c s).comp = s.comp
      ∧ (loadCoolant c s).clamps = s.clamps ∧ (loadCoolant c s).valve = s.valve
      ∧ (loadCoolant c s).gear = s.gear ∧ (loadCoolant c s).pendant = s.pendant
      ∧ (loadCoolant c s).stop = s.stop ∧ (loadCoolant c s).clocks = s.clocks
      ∧ (loadCoolant c s).pending = s.pending := by
  unfold loadCoolant
  simp

@[simp] theorem buildSample_frame (s : State) :
    (buildSample s).link = s.link ∧ (buildSample s).axes = s.axes ∧ (buildSample s).comp = s.comp
      ∧ (buildSample s).clamps = s.clamps ∧ (buildSample s).valve = s.valve ∧ (buildSample s).gear = s.gear
      ∧ (buildSample s).pendant = s.pendant ∧ (buildSample s).stop = s.stop ∧ (buildSample s).clocks = s.clocks
      ∧ (buildSample s).pending = s.pending := by
  unfold buildSample
  (repeat' split) <;> simp

@[simp] theorem lossSample_frame (s : State) :
    (lossSample s).axes = s.axes ∧ (lossSample s).comp = s.comp ∧ (lossSample s).clamps = s.clamps
      ∧ (lossSample s).valve = s.valve ∧ (lossSample s).gear = s.gear ∧ (lossSample s).pendant = s.pendant
      ∧ (lossSample s).clocks = s.clocks ∧ (lossSample s).pending = s.pending := by
  unfold lossSample
  (repeat' split) <;> simp

@[simp] theorem useSample_frame (s : State) :
    (useSample s).axes = s.axes ∧ (useSample s).comp = s.comp ∧ (useSample s).clamps = s.clamps
      ∧ (useSample s).valve = s.valve ∧ (useSample s).gear = s.gear ∧ (useSample s).pendant = s.pendant
      ∧ (useSample s).clocks = s.clocks ∧ (useSample s).pending = s.pending := by
  unfold useSample
  (repeat' split) <;> simp

@[simp] theorem buildExpires_frame (s : State) :
    (buildExpires s).axes = s.axes ∧ (buildExpires s).comp = s.comp ∧ (buildExpires s).clamps = s.clamps
      ∧ (buildExpires s).valve = s.valve ∧ (buildExpires s).gear = s.gear
      ∧ (buildExpires s).pendant = s.pendant ∧ (buildExpires s).clocks = s.clocks
      ∧ (buildExpires s).pending = s.pending := by
  unfold buildExpires
  (repeat' split) <;> simp

@[simp] theorem purgeExpires_frame (s : State) :
    (purgeExpires s).link = s.link ∧ (purgeExpires s).planner = s.planner ∧ (purgeExpires s).axes = s.axes
      ∧ (purgeExpires s).comp = s.comp ∧ (purgeExpires s).clamps = s.clamps ∧ (purgeExpires s).valve = s.valve
      ∧ (purgeExpires s).spindle = s.spindle ∧ (purgeExpires s).gear = s.gear
      ∧ (purgeExpires s).pendant = s.pendant ∧ (purgeExpires s).stop = s.stop
      ∧ (purgeExpires s).clocks = s.clocks ∧ (purgeExpires s).pending = s.pending := by
  unfold purgeExpires
  (repeat' split) <;> simp

@[simp] theorem levelStopsTsc_frame (s : State) :
    (levelStopsTsc s).link = s.link ∧ (levelStopsTsc s).planner = s.planner ∧ (levelStopsTsc s).axes = s.axes
      ∧ (levelStopsTsc s).comp = s.comp ∧ (levelStopsTsc s).clamps = s.clamps
      ∧ (levelStopsTsc s).valve = s.valve ∧ (levelStopsTsc s).gear = s.gear
      ∧ (levelStopsTsc s).pendant = s.pendant ∧ (levelStopsTsc s).stop = s.stop
      ∧ (levelStopsTsc s).clocks = s.clocks ∧ (levelStopsTsc s).pending = s.pending := by
  unfold levelStopsTsc
  (repeat' split) <;> simp

@[simp] theorem levelStopsFlood_frame (s : State) :
    (levelStopsFlood s).link = s.link ∧ (levelStopsFlood s).planner = s.planner
      ∧ (levelStopsFlood s).axes = s.axes ∧ (levelStopsFlood s).comp = s.comp
      ∧ (levelStopsFlood s).clamps = s.clamps ∧ (levelStopsFlood s).valve = s.valve
      ∧ (levelStopsFlood s).spindle = s.spindle ∧ (levelStopsFlood s).gear = s.gear
      ∧ (levelStopsFlood s).pendant = s.pendant ∧ (levelStopsFlood s).stop = s.stop
      ∧ (levelStopsFlood s).clocks = s.clocks ∧ (levelStopsFlood s).pending = s.pending := by
  unfold levelStopsFlood
  (repeat' split) <;> simp

@[simp] theorem tankGoesLow_frame (s : State) :
    (tankGoesLow s).axes = s.axes ∧ (tankGoesLow s).comp = s.comp ∧ (tankGoesLow s).clamps = s.clamps
      ∧ (tankGoesLow s).valve = s.valve ∧ (tankGoesLow s).gear = s.gear ∧ (tankGoesLow s).pendant = s.pendant
      ∧ (tankGoesLow s).clocks = s.clocks ∧ (tankGoesLow s).pending = s.pending := by
  unfold tankGoesLow
  simp

@[simp] theorem tankChange_frame (low : Bool) (s : State) :
    (tankChange low s).axes = s.axes ∧ (tankChange low s).comp = s.comp ∧ (tankChange low s).clamps = s.clamps
      ∧ (tankChange low s).valve = s.valve ∧ (tankChange low s).gear = s.gear
      ∧ (tankChange low s).pendant = s.pendant ∧ (tankChange low s).clocks = s.clocks
      ∧ (tankChange low s).pending = s.pending := by
  unfold tankChange
  (repeat' split) <;> simp

/-! ## Axis commands -/

@[simp] theorem takeReference_frame (a : Axis) (s : State) :
    (takeReference a s).clocks = s.clocks ∧ (takeReference a s).pending = s.pending := by
  unfold takeReference
  (repeat' split) <;> simp

@[simp] theorem takePark_frame (x : Axis × Bool) (s : State) :
    (takePark x s).clocks = s.clocks ∧ (takePark x s).pending = s.pending := by
  unfold takePark
  (repeat' split) <;> simp

@[simp] theorem takeLoop_frame (x : Axis × Bool) (s : State) :
    (takeLoop x s).clamps = s.clamps ∧ (takeLoop x s).clocks = s.clocks ∧ (takeLoop x s).pending = s.pending := by
  unfold takeLoop
  (repeat' split) <;> simp

@[simp] theorem takeMark_frame (a : Axis) (s : State) :
    (takeMark a s).link = s.link ∧ (takeMark a s).planner = s.planner ∧ (takeMark a s).clamps = s.clamps
      ∧ (takeMark a s).valve = s.valve ∧ (takeMark a s).spindle = s.spindle ∧ (takeMark a s).gear = s.gear
      ∧ (takeMark a s).coolant = s.coolant ∧ (takeMark a s).pendant = s.pendant ∧ (takeMark a s).stop = s.stop
      ∧ (takeMark a s).clocks = s.clocks ∧ (takeMark a s).pending = s.pending := by
  unfold takeMark
  (repeat' split) <;> simp

@[simp] theorem driveFaultChange_frame (a : Axis) (active : Bool) (s : State) :
    (driveFaultChange a active s).clamps = s.clamps ∧ (driveFaultChange a active s).clocks = s.clocks
      ∧ (driveFaultChange a active s).pending = s.pending := by
  unfold driveFaultChange
  dsimp only
  (repeat' split) <;> simp

@[simp] theorem overtravelChange_frame (a : Axis) (d : Sign) (isOpen : Bool) (s : State) :
    (overtravelChange a d isOpen s).comp = s.comp ∧ (overtravelChange a d isOpen s).clamps = s.clamps
      ∧ (overtravelChange a d isOpen s).clocks = s.clocks ∧ (overtravelChange a d isOpen s).pending = s.pending := by
  unfold overtravelChange
  dsimp only
  (repeat' split) <;> simp

/-! ## Valve commands -/

@[simp] theorem loadValve_frame (x : Nat × Nat × Nat) (s : State) :
    (loadValve x s).link = s.link ∧ (loadValve x s).planner = s.planner ∧ (loadValve x s).axes = s.axes
      ∧ (loadValve x s).comp = s.comp ∧ (loadValve x s).clamps = s.clamps ∧ (loadValve x s).spindle = s.spindle
      ∧ (loadValve x s).gear = s.gear ∧ (loadValve x s).coolant = s.coolant
      ∧ (loadValve x s).pendant = s.pendant ∧ (loadValve x s).stop = s.stop ∧ (loadValve x s).clocks = s.clocks
      ∧ (loadValve x s).pending = s.pending := by
  unfold loadValve
  simp

@[simp] theorem clampSwitchFault_frame (a : Axis) (s : State) :
    (clampSwitchFault a s).comp = s.comp ∧ (clampSwitchFault a s).clocks = s.clocks
      ∧ (clampSwitchFault a s).pending = s.pending := by
  unfold clampSwitchFault
  simp

@[simp] theorem clampSwitchMeans_frame (a : Axis) (closed : Bool) (s : State) :
    (clampSwitchMeans a closed s).comp = s.comp ∧ (clampSwitchMeans a closed s).clocks = s.clocks
      ∧ (clampSwitchMeans a closed s).pending = s.pending := by
  unfold clampSwitchMeans
  (repeat' split) <;> simp

@[simp] theorem clampSwitchMoves_frame (a : Axis) (closed : Bool) (s : State) :
    (clampSwitchMoves a closed s).comp = s.comp ∧ (clampSwitchMoves a closed s).clocks = s.clocks
      ∧ (clampSwitchMoves a closed s).pending = s.pending := by
  unfold clampSwitchMoves
  dsimp only
  (repeat' split) <;> simp

@[simp] theorem strokeTimesOut_frame (f : ValveFunction) (s : State) :
    (strokeTimesOut f s).comp = s.comp ∧ (strokeTimesOut f s).clocks = s.clocks
      ∧ (strokeTimesOut f s).pending = s.pending := by
  unfold strokeTimesOut
  (repeat' split) <;> simp

@[simp] theorem lingerRunsOut_frame (a : Axis) (s : State) :
    (lingerRunsOut a s).comp = s.comp ∧ (lingerRunsOut a s).clocks = s.clocks
      ∧ (lingerRunsOut a s).pending = s.pending := by
  unfold lingerRunsOut
  (repeat' split) <;> simp

@[simp] theorem pressureOkMoves_frame (ok : Bool) (s : State) :
    (pressureOkMoves ok s).comp = s.comp ∧ (pressureOkMoves ok s).clocks = s.clocks
      ∧ (pressureOkMoves ok s).pending = s.pending := by
  unfold pressureOkMoves
  dsimp only
  (repeat' split) <;> simp

@[simp] theorem hydraulicExpires_frame (s : State) :
    (hydraulicExpires s).planner = s.planner ∧ (hydraulicExpires s).axes = s.axes
      ∧ (hydraulicExpires s).comp = s.comp ∧ (hydraulicExpires s).clamps = s.clamps
      ∧ (hydraulicExpires s).spindle = s.spindle ∧ (hydraulicExpires s).gear = s.gear
      ∧ (hydraulicExpires s).coolant = s.coolant ∧ (hydraulicExpires s).pendant = s.pendant
      ∧ (hydraulicExpires s).clocks = s.clocks ∧ (hydraulicExpires s).pending = s.pending := by
  unfold hydraulicExpires
  (repeat' split) <;> simp

/-! ## Pendant commands -/

@[simp] theorem loadText_frame (t : PendantText) (s : State) :
    (loadText t s).link = s.link ∧ (loadText t s).planner = s.planner ∧ (loadText t s).axes = s.axes
      ∧ (loadText t s).comp = s.comp ∧ (loadText t s).clamps = s.clamps ∧ (loadText t s).valve = s.valve
      ∧ (loadText t s).spindle = s.spindle ∧ (loadText t s).gear = s.gear ∧ (loadText t s).coolant = s.coolant
      ∧ (loadText t s).stop = s.stop ∧ (loadText t s).clocks = s.clocks ∧ (loadText t s).pending = s.pending := by
  unfold loadText
  simp

/-! ## Stop chain and Clear Faults -/

@[simp] theorem reportRemoved_frame (removed : List FaultEntry) (s : State) :
    (reportRemoved removed s).planner = s.planner ∧ (reportRemoved removed s).axes = s.axes
      ∧ (reportRemoved removed s).comp = s.comp ∧ (reportRemoved removed s).clamps = s.clamps
      ∧ (reportRemoved removed s).valve = s.valve ∧ (reportRemoved removed s).spindle = s.spindle
      ∧ (reportRemoved removed s).gear = s.gear ∧ (reportRemoved removed s).coolant = s.coolant
      ∧ (reportRemoved removed s).pendant = s.pendant ∧ (reportRemoved removed s).stop = s.stop
      ∧ (reportRemoved removed s).clocks = s.clocks ∧ (reportRemoved removed s).pending = s.pending := by
  unfold reportRemoved
  exact ⟨foldl_keeps State.planner _ (fun t e => by simp) _ _,
    foldl_keeps State.axes _ (fun t e => by simp) _ _,
    foldl_keeps State.comp _ (fun t e => by simp) _ _,
    foldl_keeps State.clamps _ (fun t e => by simp) _ _,
    foldl_keeps State.valve _ (fun t e => by simp) _ _,
    foldl_keeps State.spindle _ (fun t e => by simp) _ _,
    foldl_keeps State.gear _ (fun t e => by simp) _ _,
    foldl_keeps State.coolant _ (fun t e => by simp) _ _,
    foldl_keeps State.pendant _ (fun t e => by simp) _ _,
    foldl_keeps State.stop _ (fun t e => by simp) _ _,
    foldl_keeps State.clocks _ (fun t e => by simp) _ _,
    foldl_keeps State.pending _ (fun t e => by simp) _ _⟩

@[simp] theorem removeCleared_frame (s : State) :
    (removeCleared s).planner = s.planner ∧ (removeCleared s).axes = s.axes ∧ (removeCleared s).comp = s.comp
      ∧ (removeCleared s).clamps = s.clamps ∧ (removeCleared s).valve = s.valve
      ∧ (removeCleared s).spindle = s.spindle ∧ (removeCleared s).gear = s.gear
      ∧ (removeCleared s).coolant = s.coolant ∧ (removeCleared s).pendant = s.pendant
      ∧ (removeCleared s).clocks = s.clocks ∧ (removeCleared s).pending = s.pending := by
  unfold removeCleared
  simp

@[simp] theorem armChain_frame (s : State) :
    (armChain s).link = s.link ∧ (armChain s).planner = s.planner ∧ (armChain s).axes = s.axes
      ∧ (armChain s).comp = s.comp ∧ (armChain s).clamps = s.clamps ∧ (armChain s).valve = s.valve
      ∧ (armChain s).spindle = s.spindle ∧ (armChain s).gear = s.gear ∧ (armChain s).coolant = s.coolant
      ∧ (armChain s).pendant = s.pendant ∧ (armChain s).clocks = s.clocks ∧ (armChain s).pending = s.pending := by
  unfold armChain
  (repeat' split) <;> simp

@[simp] theorem releaseLatch_frame (removed : List FaultEntry) (d : Sign) (a : Axis) (s : State) :
    (releaseLatch removed d a s).link = s.link ∧ (releaseLatch removed d a s).planner = s.planner
      ∧ (releaseLatch removed d a s).comp = s.comp ∧ (releaseLatch removed d a s).clamps = s.clamps
      ∧ (releaseLatch removed d a s).valve = s.valve ∧ (releaseLatch removed d a s).spindle = s.spindle
      ∧ (releaseLatch removed d a s).gear = s.gear ∧ (releaseLatch removed d a s).coolant = s.coolant
      ∧ (releaseLatch removed d a s).pendant = s.pendant ∧ (releaseLatch removed d a s).stop = s.stop
      ∧ (releaseLatch removed d a s).clocks = s.clocks ∧ (releaseLatch removed d a s).pending = s.pending := by
  unfold releaseLatch
  (repeat' split) <;> simp

@[simp] theorem dropCauses_frame (s : State) :
    (dropCauses s).link = s.link ∧ (dropCauses s).axes = s.axes ∧ (dropCauses s).comp = s.comp
      ∧ (dropCauses s).clamps = s.clamps ∧ (dropCauses s).valve = s.valve ∧ (dropCauses s).spindle = s.spindle
      ∧ (dropCauses s).gear = s.gear ∧ (dropCauses s).coolant = s.coolant ∧ (dropCauses s).pendant = s.pendant
      ∧ (dropCauses s).stop = s.stop ∧ (dropCauses s).clocks = s.clocks ∧ (dropCauses s).pending = s.pending := by
  unfold dropCauses
  simp

@[simp] theorem armingActs_frame (s : State) :
    (armingActs s).comp = s.comp ∧ (armingActs s).clocks = s.clocks ∧ (armingActs s).pending = s.pending := by
  unfold armingActs
  dsimp only
  (repeat' split) <;> simp

@[simp] theorem releaseBlocks_frame (removed : List FaultEntry) (armed : Bool) (s : State) :
    (releaseBlocks removed armed s).comp = s.comp ∧ (releaseBlocks removed armed s).clocks = s.clocks
      ∧ (releaseBlocks removed armed s).pending = s.pending := by
  unfold releaseBlocks
  simp only [eachAxis]
  (repeat' split) <;> simp

@[simp] theorem clearAll_frame (s : State) :
    (clearAll s).comp = s.comp ∧ (clearAll s).clocks = s.clocks ∧ (clearAll s).pending = s.pending := by
  unfold clearAll
  simp

@[simp] theorem takeChannels_frame (open1 open2 : Bool) (s : State) :
    (takeChannels open1 open2 s).link = s.link ∧ (takeChannels open1 open2 s).planner = s.planner
      ∧ (takeChannels open1 open2 s).axes = s.axes ∧ (takeChannels open1 open2 s).comp = s.comp
      ∧ (takeChannels open1 open2 s).clamps = s.clamps ∧ (takeChannels open1 open2 s).valve = s.valve
      ∧ (takeChannels open1 open2 s).spindle = s.spindle ∧ (takeChannels open1 open2 s).gear = s.gear
      ∧ (takeChannels open1 open2 s).coolant = s.coolant ∧ (takeChannels open1 open2 s).pendant = s.pendant
      ∧ (takeChannels open1 open2 s).clocks = s.clocks ∧ (takeChannels open1 open2 s).pending = s.pending := by
  unfold takeChannels
  simp

@[simp] theorem judgeChannels_frame (s : State) :
    (judgeChannels s).comp = s.comp ∧ (judgeChannels s).clocks = s.clocks
      ∧ (judgeChannels s).pending = s.pending := by
  unfold judgeChannels
  (repeat' split) <;> simp

@[simp] theorem channelsMove_frame (open1 open2 : Bool) (s : State) :
    (channelsMove open1 open2 s).comp = s.comp ∧ (channelsMove open1 open2 s).clocks = s.clocks
      ∧ (channelsMove open1 open2 s).pending = s.pending := by
  unfold channelsMove
  (repeat' split) <;> simp

@[simp] theorem discrepancyActs_frame (s : State) :
    (discrepancyActs s).comp = s.comp ∧ (discrepancyActs s).clocks = s.clocks
      ∧ (discrepancyActs s).pending = s.pending := by
  unfold discrepancyActs
  (repeat' split) <;> simp

@[simp] theorem discrepancyExpires_frame (s : State) :
    (discrepancyExpires s).comp = s.comp ∧ (discrepancyExpires s).clocks = s.clocks
      ∧ (discrepancyExpires s).pending = s.pending := by
  unfold discrepancyExpires
  (repeat' split) <;> simp

/-! ## Reporting -/

@[simp] theorem takePeriod_frame (period : Nat) (s : State) :
    (takePeriod period s).planner = s.planner ∧ (takePeriod period s).axes = s.axes
      ∧ (takePeriod period s).comp = s.comp ∧ (takePeriod period s).clamps = s.clamps
      ∧ (takePeriod period s).valve = s.valve ∧ (takePeriod period s).spindle = s.spindle
      ∧ (takePeriod period s).gear = s.gear ∧ (takePeriod period s).coolant = s.coolant
      ∧ (takePeriod period s).pendant = s.pendant ∧ (takePeriod period s).stop = s.stop
      ∧ (takePeriod period s).clocks = s.clocks ∧ (takePeriod period s).pending = s.pending := by
  unfold takePeriod
  (repeat' split) <;> simp

/-! ## Link Unit -/

@[simp] theorem holdBytes_frame (f : Framer) (s : State) :
    (holdBytes f s).planner = s.planner ∧ (holdBytes f s).axes = s.axes ∧ (holdBytes f s).comp = s.comp
      ∧ (holdBytes f s).clamps = s.clamps ∧ (holdBytes f s).valve = s.valve
      ∧ (holdBytes f s).spindle = s.spindle ∧ (holdBytes f s).gear = s.gear
      ∧ (holdBytes f s).coolant = s.coolant ∧ (holdBytes f s).pendant = s.pendant
      ∧ (holdBytes f s).stop = s.stop ∧ (holdBytes f s).clocks = s.clocks ∧ (holdBytes f s).pending = s.pending := by
  unfold holdBytes
  simp

@[simp] theorem hunt_frame (s : State) :
    (hunt s).planner = s.planner ∧ (hunt s).axes = s.axes ∧ (hunt s).comp = s.comp ∧ (hunt s).clamps = s.clamps
      ∧ (hunt s).valve = s.valve ∧ (hunt s).spindle = s.spindle ∧ (hunt s).gear = s.gear
      ∧ (hunt s).coolant = s.coolant ∧ (hunt s).pendant = s.pendant ∧ (hunt s).stop = s.stop
      ∧ (hunt s).clocks = s.clocks ∧ (hunt s).pending = s.pending := by
  unfold hunt
  simp

@[simp] theorem bump_frame (f : Counters → Counters) (s : State) :
    (bump f s).planner = s.planner ∧ (bump f s).axes = s.axes ∧ (bump f s).comp = s.comp
      ∧ (bump f s).clamps = s.clamps ∧ (bump f s).valve = s.valve ∧ (bump f s).spindle = s.spindle
      ∧ (bump f s).gear = s.gear ∧ (bump f s).coolant = s.coolant ∧ (bump f s).pendant = s.pendant
      ∧ (bump f s).stop = s.stop ∧ (bump f s).clocks = s.clocks ∧ (bump f s).pending = s.pending := by
  unfold bump
  simp

@[simp] theorem takeLen_frame (kind tag0 tag1 len : Byte) (s : State) :
    (takeLen kind tag0 tag1 len s).planner = s.planner ∧ (takeLen kind tag0 tag1 len s).axes = s.axes
      ∧ (takeLen kind tag0 tag1 len s).comp = s.comp ∧ (takeLen kind tag0 tag1 len s).clamps = s.clamps
      ∧ (takeLen kind tag0 tag1 len s).valve = s.valve ∧ (takeLen kind tag0 tag1 len s).spindle = s.spindle
      ∧ (takeLen kind tag0 tag1 len s).gear = s.gear ∧ (takeLen kind tag0 tag1 len s).coolant = s.coolant
      ∧ (takeLen kind tag0 tag1 len s).pendant = s.pendant ∧ (takeLen kind tag0 tag1 len s).stop = s.stop
      ∧ (takeLen kind tag0 tag1 len s).clocks = s.clocks ∧ (takeLen kind tag0 tag1 len s).pending = s.pending := by
  unfold takeLen
  (repeat' split) <;> simp

@[simp] theorem gapExpires_frame (s : State) :
    (gapExpires s).planner = s.planner ∧ (gapExpires s).axes = s.axes ∧ (gapExpires s).comp = s.comp
      ∧ (gapExpires s).clamps = s.clamps ∧ (gapExpires s).valve = s.valve ∧ (gapExpires s).spindle = s.spindle
      ∧ (gapExpires s).gear = s.gear ∧ (gapExpires s).coolant = s.coolant ∧ (gapExpires s).pendant = s.pendant
      ∧ (gapExpires s).stop = s.stop ∧ (gapExpires s).clocks = s.clocks ∧ (gapExpires s).pending = s.pending := by
  unfold gapExpires
  (repeat' split) <;> simp

@[simp] theorem positionExpires_frame (s : State) :
    (positionExpires s).planner = s.planner ∧ (positionExpires s).axes = s.axes
      ∧ (positionExpires s).comp = s.comp ∧ (positionExpires s).clamps = s.clamps
      ∧ (positionExpires s).valve = s.valve ∧ (positionExpires s).spindle = s.spindle
      ∧ (positionExpires s).gear = s.gear ∧ (positionExpires s).coolant = s.coolant
      ∧ (positionExpires s).pendant = s.pendant ∧ (positionExpires s).stop = s.stop
      ∧ (positionExpires s).clocks = s.clocks ∧ (positionExpires s).pending = s.pending := by
  unfold positionExpires
  (repeat' split) <;> simp

/-! ## A millisecond -/

@[simp] theorem tick_frame (s : State) :
    (tick s).planner = s.planner ∧ (tick s).axes = s.axes ∧ (tick s).comp = s.comp
      ∧ (tick s).spindle = s.spindle ∧ (tick s).pending = s.pending := by
  unfold tick
  simp

end Sys2Proof.Machine
end

