-- ==== Sys2Proof/Laws/Events.lean ====
section
/-! SUPPORT. What ends every event, and what an order's telegram does, said once: the statements about single
commands cite these laws instead of unfolding `finish`, `transmit` or `takeOrder`. -/

namespace Sys2Proof.Machine

/-! ## What the host is owed -/

theorem Owes.refl (s : State) : Owes s s [] [] := by simp [Owes]

theorem Owes.trans {s t u : State} {r r' : List Reply} {e e' : List EventReport} (h : Owes s t r e)
    (k : Owes t u r' e') : Owes s u (r ++ r') (e ++ e') := by
  obtain ⟨h1, h2, h3, h4, h5, h6, h7, h8, h9⟩ := h
  obtain ⟨k1, k2, k3, k4, k5, k6, k7, k8, k9⟩ := k
  exact ⟨by rw [k1, h1, List.append_assoc], by rw [k2, h2, List.append_assoc], k3.trans h3, k4.trans h4,
    k5.trans h5, k6.trans h6, k7.trans h7, k8.trans h8, k9.trans h9⟩

/-- Only the Link Unit matters to what is owed. -/
theorem Owes.of_link_eq {s s' t : State} {r : List Reply} {e : List EventReport} (h : Owes s t r e)
    (k : s.link = s'.link) : Owes s' t r e := by
  unfold Owes at *
  rw [← k]
  exact h

theorem placeReply_owes (r : Reply) (s : State) : Owes s (placeReply r s) [r] [] := by
  simp [Owes, placeReply, Link.owedReplies, Link.owedEvents]

theorem placeEvent_owes {s : State} (h : EventRoom s 1) (e : EventReport) : Owes s (placeEvent e s) [] [e] := by
  have : s.link.events.length < Config.eventQueueCapacity := by unfold EventRoom at h; omega
  simp [Owes, placeEvent, this, Link.owedReplies, Link.owedEvents]

theorem transmit_owes (s : State) : Owes s (transmit s) [] [] := by
  unfold transmit
  split
  · exact (Owes.refl s).of_link_eq rfl
  · rename_i hs
    split
    · simp_all [Owes, Link.owedReplies, Link.owedEvents]
    · split
      · simp_all [Owes, Link.owedReplies, Link.owedEvents, Link.beginReport]
      · split
        · simp_all [Owes, Link.owedReplies, Link.owedEvents, Link.beginReport]
        · split <;> simp_all [Owes, Link.owedReplies, Link.owedEvents, Link.beginReport]

theorem noteChange_owes (s t : State) : Owes t (noteChange s t) [] [] := by
  unfold noteChange
  split <;> simp [Owes, Link.owedReplies, Link.owedEvents]

/-! ## What the end of an event leaves -/

theorem axesInOrder_all (f : Axis → Bool) : axesInOrder.all f = true ↔ ∀ a, f a = true := by
  simp only [axesInOrder, List.all_cons, List.all_nil, Bool.and_true, Bool.and_eq_true]
  constructor
  · rintro ⟨hx, hy, hz, hw, hb⟩ a
    cases a <;> assumption
  · intro h
    exact ⟨h _, h _, h _, h _, h _⟩

theorem siteReturn_eq_self {s : State} (h : SiteSettled s) : siteReturn s = s := by
  unfold siteReturn
  split
  · rename_i hc
    simp only [Bool.and_eq_true, axesInOrder_all] at hc
    obtain ⟨a, ht, hm⟩ := h hc.1
    have := hc.2 a
    simp [ht, hm] at this
  · rfl

theorem siteReturn_settled (s : State) : SiteSettled (siteReturn s) := by
  unfold siteReturn
  split
  · intro h; simp at h
  · rename_i hc
    intro hw
    simp only [hw, Bool.true_and, axesInOrder_all, not_forall] at hc
    obtain ⟨a, ha⟩ := hc
    refine ⟨a, ?_⟩
    simpa using ha

theorem hydraulicCheck_eq_self {s : State} (h : HydraulicSettled s) : hydraulicCheck s = s := by
  have hc : ((!s.valve.pressureOk && s.valve.requests.any fun r => !r.isActive) = true)
      ↔ (s.valve.pressureOk = false ∧ ∃ r ∈ s.valve.requests, r.isActive = false) := by simp
  unfold HydraulicSettled at h
  unfold hydraulicCheck
  by_cases hp : (!s.valve.pressureOk && s.valve.requests.any fun r => !r.isActive) = true
  · rw [if_pos (hc.mp hp)] at h
    rw [if_pos hp]
    rcases h with h | h
    · cases hw : s.valve.hydraulicWait with
      | none => simp [hw] at h
      | some n => simp
    · simp [h]
  · rw [if_neg (fun k => hp (hc.mpr k))] at h
    rw [if_neg hp, ← h.1, ← h.2]

theorem hydraulicCheck_settled (s : State) : HydraulicSettled (hydraulicCheck s) := by
  have hc : ((!s.valve.pressureOk && s.valve.requests.any fun r => !r.isActive) = true)
      ↔ (s.valve.pressureOk = false ∧ ∃ r ∈ s.valve.requests, r.isActive = false) := by simp
  unfold hydraulicCheck
  by_cases hp : (!s.valve.pressureOk && s.valve.requests.any fun r => !r.isActive) = true
  · rw [if_pos hp]
    split
    · simp [HydraulicSettled, hc.mp hp]
    · rename_i h
      simp only [Bool.and_eq_true, Option.isNone_iff_eq_none, Bool.not_eq_eq_eq_not, Bool.not_true, not_and,
        Bool.not_eq_false] at h
      unfold HydraulicSettled
      rw [if_pos (hc.mp hp)]
      cases hw : s.valve.hydraulicWait with
      | none => exact .inr (h hw)
      | some n => exact .inl rfl
  · rw [if_neg hp]
    unfold HydraulicSettled
    rw [if_neg (fun k => hp (hc.mpr k))]
    exact ⟨rfl, rfl⟩

/-- The site's rest depends on the pendant and the axes alone. -/
theorem SiteSettled.of_eq {s t : State} (h : SiteSettled s) (hp : t.pendant = s.pendant) (ha : t.axes = s.axes) :
    SiteSettled t := by
  unfold SiteSettled State.axis at *
  rw [hp, ha]
  exact h

/-- The hydraulic wait's rest depends on the Valve Bank's record alone. -/
theorem HydraulicSettled.of_eq {s t : State} (h : HydraulicSettled s) (hv : t.valve = s.valve) :
    HydraulicSettled t := by
  unfold HydraulicSettled at *
  rw [hv]
  exact h

theorem Settled.of_eq {s t : State} (h : Settled s) (hp : t.pendant = s.pendant) (ha : t.axes = s.axes)
    (hv : t.valve = s.valve) : Settled t :=
  ⟨h.1.of_eq hp ha, h.2.of_eq hv⟩

theorem transmit_eq (s : State) : transmit s = { s with link := (transmit s).link } := rfl

theorem noteChange_eq (s t : State) : noteChange s t = { t with link := (noteChange s t).link } := by
  unfold noteChange; split <;> rfl

/-- The end of an event changes a settled state in the Link Unit alone, and what the host is owed stays. -/
theorem finish_of_settled (s : State) {t : State} (h : Settled t) :
    finish s t = { t with link := (finish s t).link } ∧ Owes t (finish s t) [] [] := by
  unfold finish
  rw [siteReturn_eq_self h.1, hydraulicCheck_eq_self h.2]
  constructor
  · rw [transmit_eq, noteChange_eq]
  · exact (noteChange_owes s t).trans (transmit_owes _)

/-- Every event leaves a settled state. -/
theorem finish_settled (s t : State) : Settled (finish s t) := by
  unfold finish
  have h1 : SiteSettled (hydraulicCheck (siteReturn t)) := (siteReturn_settled t).of_eq (by simp) (by simp)
  have h2 := hydraulicCheck_settled (siteReturn t)
  exact ⟨h1.of_eq (by simp) (by simp), h2.of_eq (by simp)⟩

theorem noteChange_eq_self {s t : State} (h : stateReport s = stateReport t) : noteChange s t = t := by
  simp [noteChange, h]

theorem transmit_busy {s : State} {o : Outgoing} (h : s.link.sending = some o) : transmit s = s := by
  unfold transmit
  split
  · rfl
  · simp_all

theorem transmit_eq_self {s : State} (h : LineSettled s) : transmit s = s := by
  cases ho : s.link.sending with
  | some o => exact transmit_busy ho
  | none =>
    obtain ⟨h1, h2, h3, h4⟩ := h ho
    unfold transmit
    simp [ho, h1, h2, h3, h4]

/-- After every event an idle transmitter has nothing that waits. -/
theorem transmit_lineSettled (s : State) : LineSettled (transmit s) := by
  unfold transmit
  intro h
  split at h
  · simp_all
  · split at h
    · simp_all
    · split at h
      · simp_all [Link.beginReport]
      · split at h
        · simp_all [Link.beginReport]
        · split at h
          · simp_all [Link.beginReport]
          · simp_all

/-- The end of an event that leaves a settled state and no STATE change to a transmitter at rest changes nothing. -/
theorem finish_eq_self {s t : State} (h : Settled t) (hl : LineSettled t) (hr : stateReport s = stateReport t) :
    finish s t = t := by
  unfold finish
  rw [siteReturn_eq_self h.1, hydraulicCheck_eq_self h.2, noteChange_eq_self hr, transmit_eq_self hl]

/-- The same for any settled state, with the transmitter's choice still to make. -/
theorem finish_eq_transmit {s t : State} (h : Settled t) (hr : stateReport s = stateReport t) :
    finish s t = transmit t := by
  unfold finish
  rw [siteReturn_eq_self h.1, hydraulicCheck_eq_self h.2, noteChange_eq_self hr]

/-! ## Commands -/

/-- A command whose effect leaves a settled state answers it, but for the transmitter. -/
theorem event_next {f : State → State} {s : State} (h : Settled (f s)) :
    ∃ t, event f s = .next t ∧ t = { f s with link := t.link } ∧ Owes (f s) t [] [] :=
  ⟨finish s (f s), rfl, (finish_of_settled s h).1, (finish_of_settled s h).2⟩

theorem takeOrder_accept {kind : Byte} {tag : Tag} {owner : State → Verdict} {s u : State} {p : AcceptPayload}
    (hr : ReplyRoom s) (h : owner s = .accept u p) :
    takeOrder kind tag owner s = placeReply (.accept tag p) u := by
  unfold takeOrder
  rw [if_neg (by unfold ReplyRoom at hr; omega), h]

theorem takeOrder_refuse {kind : Byte} {tag : Tag} {owner : State → Verdict} {s : State} {c : RefuseCode}
    (hr : ReplyRoom s) (h : owner s = .refuse c) :
    takeOrder kind tag owner s = placeReply (.refuse tag c kind) s := by
  unfold takeOrder
  rw [if_neg (by unfold ReplyRoom at hr; omega), h]

theorem takeOrder_overrun {kind : Byte} {tag : Tag} {owner : State → Verdict} {s : State} (hr : ¬ReplyRoom s) :
    takeOrder kind tag owner s =
      { s with
        link := { s.link with counters := { s.link.counters with overrun := s.link.counters.overrun + 1 } } } := by
  unfold takeOrder
  rw [if_pos (by unfold ReplyRoom at hr; omega)]

/-- An accepted order takes effect and owes the host its ACCEPT. -/
theorem order_next {kind : Byte} {tag : Tag} {owner : State → Verdict} {s u : State} {p : AcceptPayload}
    (hr : ReplyRoom s) (h : owner s = .accept u p) (hu : Settled u) :
    ∃ t, event (takeOrder kind tag owner) s = .next t ∧ t = { u with link := t.link }
      ∧ Owes u t [.accept tag p] [] := by
  obtain ⟨t, h1, h2, h3⟩ := event_next (f := takeOrder kind tag owner) (s := s)
    (by rw [takeOrder_accept hr h]; exact hu.of_eq (by simp) (by simp) (by simp))
  rw [takeOrder_accept hr h] at h2 h3
  exact ⟨t, h1, h2, (placeReply_owes _ u).trans h3⟩

/-- A refused order changes nothing but that the host is owed its REFUSE. -/
theorem refused_next {kind : Byte} {tag : Tag} {owner : State → Verdict} {s : State} {c : RefuseCode}
    (hr : ReplyRoom s) (h : owner s = .refuse c) (hs : Settled s) :
    ∃ t, event (takeOrder kind tag owner) s = .next t ∧ t = { s with link := t.link }
      ∧ Owes s t [.refuse tag c kind] [] := by
  obtain ⟨t, h1, h2, h3⟩ := event_next (f := takeOrder kind tag owner) (s := s)
    (by rw [takeOrder_refuse hr h]; exact hs.of_eq (by simp) (by simp) (by simp))
  rw [takeOrder_refuse hr h] at h2 h3
  exact ⟨t, h1, h2, (placeReply_owes _ s).trans h3⟩

/-! ## Judging -/

theorem firstRefusal_none {checks : List (Bool × RefuseCode)} (h : ∀ c ∈ checks, c.1 = false) :
    firstRefusal checks = none := by
  induction checks with
  | nil => rfl
  | cons c l ih =>
    obtain ⟨failed, r⟩ := c
    have hb := h (failed, r) (by simp)
    simp only at hb
    simp [firstRefusal, hb, ih fun c hc => h c (by simp [hc])]

theorem judge_accept {checks : List (Bool × RefuseCode)} {v : Verdict} (h : ∀ c ∈ checks, c.1 = false) :
    judge checks v = v := by
  simp [judge, firstRefusal_none h]

/-- An order whose checks before and after its fields pass is taken with the fields it spells. -/
theorem judgeField_accept {α : Type} {before : List (Bool × RefuseCode)} {f : Option α} {x : α}
    {after : α → List (Bool × RefuseCode)} {taken : α → Verdict} (h1 : ∀ c ∈ before, c.1 = false)
    (h2 : f = some x) (h3 : ∀ c ∈ after x, c.1 = false) : judgeField before f after taken = taken x := by
  unfold judgeField
  rw [firstRefusal_none h1, h2]
  exact judge_accept h3

/-! ## Completion -/

/-- A command whose effect leaves the Link Unit alone completes with that effect and owes nothing. -/
theorem completes_event {c : Instr} {f : State → State} {s u : State} (hc : exec c s = event f s) (hf : f s = u)
    (hu : Settled u) (hl : u.link = s.link) : Completes c s u [] [] := by
  obtain ⟨t, h1, h2, h3⟩ := event_next (f := f) (s := s) (hf ▸ hu)
  rw [hf] at h2 h3
  exact ⟨t, hc.trans h1, h2, h3.of_link_eq hl⟩

/-- An order that its owner accepts completes with the owner's effect and owes its ACCEPT. -/
theorem completes_order {c : Instr} {kind : Byte} {tag : Tag} {owner : State → Verdict} {s u : State}
    {p : AcceptPayload} (hc : ∀ s, exec c s = event (takeOrder kind tag owner) s) (hr : ReplyRoom s)
    (ho : owner s = .accept u p) (hu : Settled u) (hl : u.link = s.link) :
    Completes c s u [.accept tag p] [] := by
  obtain ⟨t, h1, h2, h3⟩ := order_next (kind := kind) (tag := tag) hr ho hu
  exact ⟨t, (hc s).trans h1, h2, h3.of_link_eq hl⟩

/-- An order that its owner refuses completes with no effect and owes its REFUSE. -/
theorem completes_refuse {c : Instr} {kind : Byte} {tag : Tag} {owner : State → Verdict} {s : State} {r : RefuseCode}
    (hc : ∀ s, exec c s = event (takeOrder kind tag owner) s) (hr : ReplyRoom s) (ho : owner s = .refuse r)
    (hs : Settled s) : Completes c s s [.refuse tag r kind] [] := by
  obtain ⟨t, h1, h2, h3⟩ := refused_next (kind := kind) (tag := tag) hr ho hs
  exact ⟨t, (hc s).trans h1, h2, h3⟩

/-- An effect on the framer and the counters alone is all that a command with a settled line does. -/
theorem event_line {s u : State} {f : State → State} (h : Settled s) (hl : LineSettled s) (hf : f s = u)
    (hu : u = { s with link := u.link }) (h1 : u.link.sending = s.link.sending)
    (h2 : u.link.replies = s.link.replies) (h3 : u.link.events = s.link.events)
    (h4 : u.link.statePending = s.link.statePending) (h5 : u.link.due = s.link.due) : event f s = .next u := by
  unfold event
  rw [hf]
  rw [finish_eq_self (s := s) (t := u) (h.of_eq (by rw [hu]) (by rw [hu]) (by rw [hu]))
    (by unfold LineSettled at *; simpa [h1, h2, h3, h4, h5] using hl) (by rw [hu]; rfl)]

/-! ## Fields and faults -/

theorem le16_leBytes (n : Nat) (h : n < 65536) (rest : List Byte) : le16 (leBytes 2 n ++ rest) 0 = n := by
  simp [leBytes, le16, byteAt]
  omega

theorem le32_leBytes (n : Nat) (h : n < 4294967296) (rest : List Byte) : le32 (leBytes 4 n ++ rest) 0 = n := by
  simp [leBytes, le32, le16, byteAt]
  omega

/-- The two bytes of a 16-bit field, high byte first, are the field. -/
theorem append_bytes (w : BitVec 16) : w.extractLsb' 8 8 ++ w.extractLsb' 0 8 = w := by
  apply BitVec.eq_of_toNat_eq
  have := w.isLt
  rw [BitVec.toNat_append, BitVec.extractLsb'_toNat, BitVec.extractLsb'_toNat]
  rw [← Nat.shiftLeft_add_eq_or_of_lt (Nat.mod_lt _ (by decide))]
  simp [Nat.shiftLeft_eq, Nat.shiftRight_eq_div_pow]
  omega

/-- A raised fault is on the list (R185, R186). -/
theorem hasFault_raiseFault (c : FaultCode) (q : Qualifier) (s : State) : hasFault (raiseFault c q s) c q = true := by
  unfold raiseFault hasFault
  split
  · rename_i e he
    have hm := List.mem_of_find?_eq_some he
    have hp := List.find?_some he
    simp only [placeEvent, List.any_map, List.any_eq_true]
    refine ⟨e, hm, ?_⟩
    simp only [Function.comp, hp, if_true]
    simpa [FaultEntry.repeated, FaultEntry.isPair] using hp
  · simp [placeEvent, newFault]

theorem hasFault_of_stop_eq {s t : State} (h : t.stop = s.stop) (c : FaultCode) (q : Qualifier) :
    hasFault t c q = hasFault s c q := by simp [hasFault, h]

/-- With nothing programmed the commanded speed is 0 (R106). -/
theorem commandedSpeed_zero {s : State} {p : Spindle} (h : p.sProg = 0) : (commandedSpeed s p).1 = 0 := by
  unfold commandedSpeed
  split <;> simp [h]

end Sys2Proof.Machine
end

