-- ==== Sys2Proof/Laws/PerInstr.lean ====
section
/-! SUPPORT. Laws about every command as syntax, one lemma for each constructor. -/

namespace Sys2Proof.Laws

/-- The bytes a command carries from a serial line: a telegram's payload, or a pendant reply's bytes. -/
def lineBytes : Instr → List Byte
  | .powerOnReset _ => []
  | .byteReceived _ _ => []
  | .gapTimerExpiry => []
  | .unknownKindTelegram _ _ payload => payload
  | .queueMove _ payload => payload
  | .queueDwell _ payload => payload
  | .queueSpindle _ payload => payload
  | .queueCoolant _ payload => payload
  | .queueMark _ payload => payload
  | .queueEnd _ payload => payload
  | .start _ payload => payload
  | .hold _ payload => payload
  | .abort _ payload => payload
  | .spindleSet _ payload => payload
  | .gearSet _ payload => payload
  | .coolantSet _ payload => payload
  | .reference _ payload => payload
  | .park _ payload => payload
  | .loop _ payload => payload
  | .setAxis _ payload => payload
  | .loadCompensation _ payload => payload
  | .setValveParams _ payload => payload
  | .setSpindleParams _ payload => payload
  | .setGears _ payload => payload
  | .setCoolantParams _ payload => payload
  | .setOverrides _ payload => payload
  | .setPendantText _ payload => payload
  | .setReporting _ payload => payload
  | .clearFaults _ payload => payload
  | .getStatus _ payload => payload
  | .getAxis _ payload => payload
  | .getFaults _ payload => payload
  | .getIdent _ payload => payload
  | .telegramSent => []
  | .positionTimerExpiry => []
  | .interpolationPeriod => []
  | .encoderEdge _ _ => []
  | .referenceMark _ => []
  | .driveFaultInput _ _ => []
  | .overtravelSwitchChange _ _ _ => []
  | .clampReleasedSwitchChange _ _ => []
  | .strokeTimeout _ => []
  | .lingerTimerExpiry _ => []
  | .pressureOkChange _ => []
  | .hydraulicWaitTimerExpiry => []
  | .referenceUpdate => []
  | .spindleEncoderEdge _ => []
  | .speedWindowEnd => []
  | .inverterFaultInput _ => []
  | .forkSwitchChange _ _ => []
  | .creepAlternation => []
  | .pauseTimerExpiry => []
  | .pressureSample _ => []
  | .buildTimerExpiry => []
  | .purgeTimerExpiry => []
  | .tankLowSwitchChange _ => []
  | .scanRequest => []
  | .pendantReply _ none => []
  | .pendantReply bytes (some _) => bytes
  | .replyWindowClose => []
  | .clipTimerExpiry => []
  | .flashPhaseToggle => []
  | .stopChannelChange _ _ => []
  | .discrepancyTimerExpiry => []

/-- A well-formed command carries at most the 240 bytes that a LEN can give (R193, R204); a pendant reply that shows a
record has fewer (R161). -/
def PayloadFits.Statement (i : Instr) : Prop := i.wellFormed = true → (lineBytes i).length ≤ 240

theorem PayloadFits.powerOnReset (inputs : ResetInputs) : PayloadFits.Statement (.powerOnReset inputs) :=
  fun _ => Nat.zero_le _
theorem PayloadFits.byteReceived (byte : Byte) (stopBit : Bool) :
    PayloadFits.Statement (.byteReceived byte stopBit) :=
  fun _ => Nat.zero_le _
theorem PayloadFits.gapTimerExpiry : PayloadFits.Statement .gapTimerExpiry := fun _ => Nat.zero_le _
theorem PayloadFits.unknownKindTelegram (kind : Byte) (tag : Tag) (payload : List Byte) :
    PayloadFits.Statement (.unknownKindTelegram kind tag payload) :=
  by
  intro h
  simp only [Instr.wellFormed, Bool.and_eq_true] at h
  exact of_decide_eq_true h.2
theorem PayloadFits.queueMove (tag : Tag) (payload : List Byte) : PayloadFits.Statement (.queueMove tag payload) :=
  of_decide_eq_true
theorem PayloadFits.queueDwell (tag : Tag) (payload : List Byte) : PayloadFits.Statement (.queueDwell tag payload) :=
  of_decide_eq_true
theorem PayloadFits.queueSpindle (tag : Tag) (payload : List Byte) :
    PayloadFits.Statement (.queueSpindle tag payload) :=
  of_decide_eq_true
theorem PayloadFits.queueCoolant (tag : Tag) (payload : List Byte) :
    PayloadFits.Statement (.queueCoolant tag payload) :=
  of_decide_eq_true
theorem PayloadFits.queueMark (tag : Tag) (payload : List Byte) : PayloadFits.Statement (.queueMark tag payload) :=
  of_decide_eq_true
theorem PayloadFits.queueEnd (tag : Tag) (payload : List Byte) : PayloadFits.Statement (.queueEnd tag payload) :=
  of_decide_eq_true
theorem PayloadFits.start (tag : Tag) (payload : List Byte) : PayloadFits.Statement (.start tag payload) :=
  of_decide_eq_true
theorem PayloadFits.hold (tag : Tag) (payload : List Byte) : PayloadFits.Statement (.hold tag payload) :=
  of_decide_eq_true
theorem PayloadFits.abort (tag : Tag) (payload : List Byte) : PayloadFits.Statement (.abort tag payload) :=
  of_decide_eq_true
theorem PayloadFits.spindleSet (tag : Tag) (payload : List Byte) : PayloadFits.Statement (.spindleSet tag payload) :=
  of_decide_eq_true
theorem PayloadFits.gearSet (tag : Tag) (payload : List Byte) : PayloadFits.Statement (.gearSet tag payload) :=
  of_decide_eq_true
theorem PayloadFits.coolantSet (tag : Tag) (payload : List Byte) : PayloadFits.Statement (.coolantSet tag payload) :=
  of_decide_eq_true
theorem PayloadFits.reference (tag : Tag) (payload : List Byte) : PayloadFits.Statement (.reference tag payload) :=
  of_decide_eq_true
theorem PayloadFits.park (tag : Tag) (payload : List Byte) : PayloadFits.Statement (.park tag payload) :=
  of_decide_eq_true
theorem PayloadFits.loop (tag : Tag) (payload : List Byte) : PayloadFits.Statement (.loop tag payload) :=
  of_decide_eq_true
theorem PayloadFits.setAxis (tag : Tag) (payload : List Byte) : PayloadFits.Statement (.setAxis tag payload) :=
  of_decide_eq_true
theorem PayloadFits.loadCompensation (tag : Tag) (payload : List Byte) :
    PayloadFits.Statement (.loadCompensation tag payload) :=
  of_decide_eq_true
theorem PayloadFits.setValveParams (tag : Tag) (payload : List Byte) :
    PayloadFits.Statement (.setValveParams tag payload) :=
  of_decide_eq_true
theorem PayloadFits.setSpindleParams (tag : Tag) (payload : List Byte) :
    PayloadFits.Statement (.setSpindleParams tag payload) :=
  of_decide_eq_true
theorem PayloadFits.setGears (tag : Tag) (payload : List Byte) : PayloadFits.Statement (.setGears tag payload) :=
  of_decide_eq_true
theorem PayloadFits.setCoolantParams (tag : Tag) (payload : List Byte) :
    PayloadFits.Statement (.setCoolantParams tag payload) :=
  of_decide_eq_true
theorem PayloadFits.setOverrides (tag : Tag) (payload : List Byte) :
    PayloadFits.Statement (.setOverrides tag payload) :=
  of_decide_eq_true
theorem PayloadFits.setPendantText (tag : Tag) (payload : List Byte) :
    PayloadFits.Statement (.setPendantText tag payload) :=
  of_decide_eq_true
theorem PayloadFits.setReporting (tag : Tag) (payload : List Byte) :
    PayloadFits.Statement (.setReporting tag payload) :=
  of_decide_eq_true
theorem PayloadFits.clearFaults (tag : Tag) (payload : List Byte) :
    PayloadFits.Statement (.clearFaults tag payload) :=
  of_decide_eq_true
theorem PayloadFits.getStatus (tag : Tag) (payload : List Byte) : PayloadFits.Statement (.getStatus tag payload) :=
  of_decide_eq_true
theorem PayloadFits.getAxis (tag : Tag) (payload : List Byte) : PayloadFits.Statement (.getAxis tag payload) :=
  of_decide_eq_true
theorem PayloadFits.getFaults (tag : Tag) (payload : List Byte) : PayloadFits.Statement (.getFaults tag payload) :=
  of_decide_eq_true
theorem PayloadFits.getIdent (tag : Tag) (payload : List Byte) : PayloadFits.Statement (.getIdent tag payload) :=
  of_decide_eq_true
theorem PayloadFits.telegramSent : PayloadFits.Statement .telegramSent := fun _ => Nat.zero_le _
theorem PayloadFits.positionTimerExpiry : PayloadFits.Statement .positionTimerExpiry := fun _ => Nat.zero_le _
theorem PayloadFits.interpolationPeriod : PayloadFits.Statement .interpolationPeriod := fun _ => Nat.zero_le _
theorem PayloadFits.encoderEdge (axis : Axis) (aLeads : Bool) : PayloadFits.Statement (.encoderEdge axis aLeads) :=
  fun _ => Nat.zero_le _
theorem PayloadFits.referenceMark (axis : Axis) : PayloadFits.Statement (.referenceMark axis) :=
  fun _ => Nat.zero_le _
theorem PayloadFits.driveFaultInput (axis : Axis) (active : Bool) :
    PayloadFits.Statement (.driveFaultInput axis active) :=
  fun _ => Nat.zero_le _
theorem PayloadFits.overtravelSwitchChange (axis : Axis) (side : Sign) (isOpen : Bool) :
    PayloadFits.Statement (.overtravelSwitchChange axis side isOpen) :=
  fun _ => Nat.zero_le _
theorem PayloadFits.clampReleasedSwitchChange (axis : Axis) (closed : Bool) :
    PayloadFits.Statement (.clampReleasedSwitchChange axis closed) :=
  fun _ => Nat.zero_le _
theorem PayloadFits.strokeTimeout (function : ValveFunction) : PayloadFits.Statement (.strokeTimeout function) :=
  fun _ => Nat.zero_le _
theorem PayloadFits.lingerTimerExpiry (axis : Axis) : PayloadFits.Statement (.lingerTimerExpiry axis) :=
  fun _ => Nat.zero_le _
theorem PayloadFits.pressureOkChange (ok : Bool) : PayloadFits.Statement (.pressureOkChange ok) :=
  fun _ => Nat.zero_le _
theorem PayloadFits.hydraulicWaitTimerExpiry : PayloadFits.Statement .hydraulicWaitTimerExpiry :=
  fun _ => Nat.zero_le _
theorem PayloadFits.referenceUpdate : PayloadFits.Statement .referenceUpdate := fun _ => Nat.zero_le _
theorem PayloadFits.spindleEncoderEdge (clockwise : Bool) : PayloadFits.Statement (.spindleEncoderEdge clockwise) :=
  fun _ => Nat.zero_le _
theorem PayloadFits.speedWindowEnd : PayloadFits.Statement .speedWindowEnd := fun _ => Nat.zero_le _
theorem PayloadFits.inverterFaultInput (active : Bool) : PayloadFits.Statement (.inverterFaultInput active) :=
  fun _ => Nat.zero_le _
theorem PayloadFits.forkSwitchChange (switch : ForkSwitch) (closed : Bool) :
    PayloadFits.Statement (.forkSwitchChange switch closed) :=
  fun _ => Nat.zero_le _
theorem PayloadFits.creepAlternation : PayloadFits.Statement .creepAlternation := fun _ => Nat.zero_le _
theorem PayloadFits.pauseTimerExpiry : PayloadFits.Statement .pauseTimerExpiry := fun _ => Nat.zero_le _
theorem PayloadFits.pressureSample (code : BitVec 12) : PayloadFits.Statement (.pressureSample code) :=
  fun _ => Nat.zero_le _
theorem PayloadFits.buildTimerExpiry : PayloadFits.Statement .buildTimerExpiry := fun _ => Nat.zero_le _
theorem PayloadFits.purgeTimerExpiry : PayloadFits.Statement .purgeTimerExpiry := fun _ => Nat.zero_le _
theorem PayloadFits.tankLowSwitchChange (low : Bool) : PayloadFits.Statement (.tankLowSwitchChange low) :=
  fun _ => Nat.zero_le _
theorem PayloadFits.scanRequest : PayloadFits.Statement .scanRequest := fun _ => Nat.zero_le _
theorem PayloadFits.pendantReply (bytes : List Byte) (fields : Option ScanReply) :
    PayloadFits.Statement (.pendantReply bytes fields) :=
  by
  intro h
  cases fields with
  | none => exact Nat.zero_le _
  | some r =>
    have k : bytes.length = 12 := by simpa [Instr.wellFormed] using h
    simp [lineBytes, k]
theorem PayloadFits.replyWindowClose : PayloadFits.Statement .replyWindowClose := fun _ => Nat.zero_le _
theorem PayloadFits.clipTimerExpiry : PayloadFits.Statement .clipTimerExpiry := fun _ => Nat.zero_le _
theorem PayloadFits.flashPhaseToggle : PayloadFits.Statement .flashPhaseToggle := fun _ => Nat.zero_le _
theorem PayloadFits.stopChannelChange (channel1Open channel2Open : Bool) :
    PayloadFits.Statement (.stopChannelChange channel1Open channel2Open) :=
  fun _ => Nat.zero_le _
theorem PayloadFits.discrepancyTimerExpiry : PayloadFits.Statement .discrepancyTimerExpiry := fun _ => Nat.zero_le _

end Sys2Proof.Laws
end

