-- ==== Sys2Proof/Tests/Slice0.lean ====
section
/-! SUPPORT. Tests: what WellFormed refuses, states that meet the hypotheses of each statement (one theorem for
each statement that has any, clause by clause, at the edges of the ranges), and single steps whose results the
worked cases of spec/ give. -/

namespace Sys2Proof.Tests

open Sys2Proof.Machine

/-! ## Builders -/

/-- What every event leaves, with room for a reply and two event reports and the line settled. -/
def AtRest (s : State) : Prop := Settled s ∧ ReplyRoom s ∧ EventRoom s 2 ∧ LineSettled s

/-- A check of `AtRest` that evaluates. -/
def calm (s : State) : Bool :=
  !s.pendant.withdrawing && s.valve.hydraulicWait.isNone && !s.valve.hydraulicExpired
    && (s.valve.pressureOk || s.valve.requests.all Request.isActive)
    && decide (s.link.replies.length < 8) && decide (s.link.events.length + 2 ≤ 16)
    && (s.link.sending.isSome
      || (s.link.replies.isEmpty && s.link.events.isEmpty && !s.link.statePending && !s.link.due))

theorem atRest {s : State} (h : calm s = true) : AtRest s := by
  simp only [calm, Bool.and_eq_true, Bool.or_eq_true, Bool.not_eq_true', decide_eq_true_eq, List.isEmpty_iff,
    Option.isNone_iff_eq_none, List.all_eq_true] at h
  obtain ⟨⟨⟨⟨⟨⟨hw, hh⟩, hx⟩, hp⟩, hr⟩, he⟩, hl⟩ := h
  refine ⟨⟨?_, ?_⟩, hr, he, ?_⟩
  · intro h
    simp [hw] at h
  · unfold HydraulicSettled
    rw [if_neg]
    · exact ⟨hh, hx⟩
    · rintro ⟨hf, r, hm, hi⟩
      rcases hp with hp | hp
      · simp [hp] at hf
      · simp [hp r hm] at hi
  · intro hs
    rcases hl with hl | hl
    · simp [hs] at hl
    · exact ⟨hl.1.1.1, hl.1.1.2, hl.1.2, hl.2⟩

/-- Reset, then armed and with the STATE report sent. -/
def ready : State :=
  { State.reset with
    link := { State.reset.link with statePending := false }
    stop := { State.reset.stop with estop := .armed } }

/-- A record with soft limits 5,000 and 350,000, of Section 1's forms. -/
def params (fitted : Bool) : AxisParams where
  softMin := 5000
  softMax := 350000
  vmax := 1000
  accel := 50
  jogFeed := 600
  refDirection := .plus
  refSearchFeed := 300
  refValue := 10000
  refSearchDistance := 100000
  feLimit := 1000
  backlash := 0
  backlashRate := 10
  clampFitted := fitted
  clampLinger := 500
  vmaxN := 33333
  refN := 10000
  accelN := 200

/-- A configured and referenced axis at a position. -/
def at_ (fitted : Bool) (x : Int) : AxisUnit :=
  { AxisUnit.afterReset false false false with
    params := some (params fitted), referenced := true, commanded := x, output := x, measured := x }

/-- Every axis configured and referenced at 100,000. -/
def placed (fitted : Bool) : State := { ready with axes := .all (at_ fitted 100000) }

/-- The example gear table of Section 7. -/
def table : GearTable := ⟨⟨1, 45, 40, 1⟩, ⟨30, 180, 10, 1⟩, ⟨120, 600, 3, 1⟩, ⟨450, 1500, 6, 5⟩⟩

/-- The gearbox in range II with the example table, the spindle turning. -/
def geared : State :=
  { ready with
    gear :=
      { ready.gear with
        table := some table, gearbox := .range .ii, switches := ⟨true, false, false, false, true⟩ } }

/-- A change in progress at a step. -/
def changing (st : GearStep) : State :=
  { geared with
    gear := { geared.gear with gearbox := .shifting, step := st, target := some .neutral, owner := some .order } }

/-- A planner state with its queue and head. -/
def planning (st : PlannerState) (q : List Entry) (h : Option HeadState) (s : State) : State :=
  { s with planner := { s.planner with state := st, queue := q, head := h } }

/-- A MOVE of X from 100,000 to 100,010 and a MARK. -/
def cut : List Entry := [⟨7, .move ⟨some 100010, none, none, none, none⟩ .perMinute 300⟩, ⟨8, .mark⟩]

/-- The context of that MOVE, at a travelled path and a velocity. -/
def cutContext (travelled v : Nat) : MoveContext where
  kind := .linear
  legs := ⟨some ⟨100000, 100010⟩, none, none, none, none⟩
  length := 10
  lengthN := 10000
  vLim := 33333
  limiting := some .x
  accel := 200
  travelled := travelled
  v := v
  limiter := .feed

/-- The MOVE under way. -/
def cutting (st : PlannerState) (travelled v : Nat) : State :=
  let s := planning st cut (some .active) (placed false)
  { s with planner := { s.planner with context := some (cutContext travelled v) } }

/-- The valve request list with one request. -/
def requesting (k : Stroke) (st : RequestStatus) (s : State) : State :=
  { s with valve := { s.valve with requests := [⟨k, 0, st⟩] } }

/-- A clamp state on X, with the level of its switch. -/
def clamped (st : ClampState) (closed : Bool) (s : State) : State :=
  s.setClamp .x { s.clamp .x with state := st, switchClosed := closed }

/-- A busy transmitter. -/
def busyLine (s : State) : State :=
  { s with link := { s.link with sending := some (.reply (.refuse 0 .busy 0)) } }

/-- An entry of the fault list. -/
def entry (c : FaultCode) (q : Qualifier) (condition : Bool) : FaultEntry := ⟨c, q, 0, condition, 0⟩

/-- A state with a fault list. -/
def faulted (l : List FaultEntry) (s : State) : State := { s with stop := { s.stop with faults := l } }

/-- A scan reply with everything at rest. -/
def plainReply : ScanReply where
  counter := 0
  selector := none
  increment := .one
  feedKnob := 10
  spindleKnob := 5
  buttons := ⟨false, false, false, false, false, false⟩
  enabling := .released
  mirror1 := false
  mirror2 := false

/-- The pendant link in a state, with a miss count and an open window. -/
def linked (l : LinkState) (misses : Nat) (s : State) : State :=
  { s with pendant := { s.pendant with link := l, misses := misses, window := some 3 } }

/-- The spindle in range II at 150 rpm. -/
def turning : State :=
  { geared with
    spindle := { geared.spindle with sProg := 150, sCmd := 150, dacTarget := 4095, reference := 4095 } }

/-- No pressure. -/
def dry (s : State) : State := { s with valve := { s.valve with pressureOk := false } }

/-- X in a reference run. -/
def searching : State := ready.setAxis .x { at_ false 100000 with referenced := false, motion := .reference .moving }

/-- The gearbox in NEUTRAL, with the table. -/
def neutral : State :=
  { geared with gear := { geared.gear with gearbox := .neutral, switches := ⟨false, true, false, true, false⟩ } }

/-- A change in a creeping stroke. -/
def creeping : State :=
  { changing .stroke with
    gear := { (changing .stroke).gear with creep := some ⟨.cw, 0⟩, stroke := some (.a .high) }
    spindle := { (changing .stroke).spindle with phase := .creep } }

/-- The spindle stopped. -/
def standing (s : State) : State := { s with spindle := { s.spindle with stopped := true, lowCount := 2 } }

/-- A TSC state, asked for. -/
def cooling (t : TscState) (s : State) : State :=
  { s with coolant := { s.coolant with tscRequested := true, tsc := t } }

/-- A reply with X selected and the enabling switch at ENABLE. -/
def readyReply : ScanReply := { plainReply with selector := some .x, enabling := .enable }

/-- The link ONLINE against a last good reply, the site with the pendant. -/
def taken (q : ScanReply) (s : State) : State :=
  { linked .online 0 s with
    pendant := { (linked .online 0 s).pendant with lastGood := some q, site := .pendant, tenure := ⟨true, false, false, false, false⟩ } }

/-- X in a jog under a demand. -/
def jogged (d : JogDemand) : State :=
  let s := taken readyReply ((placed false).setAxis .x { at_ false 349999 with motion := .jog .moving, demand := d })
  { s with pendant := { s.pendant with jogged := some .x } }

/-! ## WellFormed -/

theorem test_wf_kind : (Instr.unknownKindTelegram 0x10 1 []).wellFormed = false := by decide
theorem test_wf_payload : (Instr.queueMark 1 (List.replicate 241 0)).wellFormed = false := by decide +kernel
theorem test_wf_reply : (Instr.pendantReply [] (some plainReply)).wellFormed = false := by decide
theorem test_wf_accepts :
    (Instr.unknownKindTelegram 0x07 1 []).wellFormed = true
      ∧ (Instr.queueMark 1 (List.replicate 240 0)).wellFormed = true
      ∧ (Instr.pendantReply (List.replicate 12 0) (some plainReply)).wellFormed = true := by decide +kernel
theorem test_decode_none : decodeTableWord 0 0 = none := by decide

/-! ## States that meet the hypotheses: the line -/

theorem test_met_EmptyQueuePassesMillisecond : State.reset.pending = [] := by decide

theorem test_met_FrameReceivedWhole :
    (List.replicate 240 (0 : Byte)).length ≤ 240 ∧ ready.link.framer = .hunt ∧ AtRest ready :=
  ⟨by decide +kernel, rfl, atRest rfl⟩

/-- A framer state. -/
def framing (f : Framer) : State := { ready with link := { ready.link with framer := f } }

theorem test_met_BytesByFramerState :
    AtRest ready ∧ (ready.link.framer = .hunt ∧ (0xA4#8 ≠ 0xA5#8))
      ∧ (AtRest (framing (.header [1, 2])) ∧ ([1, 2] : List Byte).length < 3)
      ∧ (AtRest (framing (.header [1, 2, 3])) ∧ 240 < (241#8).toNat)
      ∧ (AtRest (framing (.check 1 2 3 0 [] (some 0))) ∧ crc16 [1, 2, 3, 0] ≠ (0#8) ++ (0#8))
      ∧ AtRest { ready with link := { ready.link with gapTimer := some 2 } } ∧ ready.link.gapTimer = none :=
  ⟨atRest rfl, ⟨rfl, by decide⟩, ⟨atRest rfl, by decide⟩, ⟨atRest rfl, by decide⟩, ⟨atRest rfl, by decide +kernel⟩,
    atRest rfl, rfl⟩

/-- The reply queue full. -/
def fullReplies : State :=
  { busyLine ready with link := { (busyLine ready).link with replies := List.replicate 8 (.refuse 0 .busy 0) } }

theorem test_met_RefusedOrderChangesNothing :
    (AtRest ready ∧ ownerOf 0x05 1 [0] ready = .refuse .badLength) ∧ isOrderKind 0x00 = false
      ∧ (Settled fullReplies ∧ ¬ReplyRoom fullReplies ∧ LineSettled fullReplies) :=
  ⟨⟨atRest rfl, rfl⟩, by decide, (atRest (s := ready) rfl).1, by unfold ReplyRoom; decide, fun h => by cases h⟩

theorem test_met_TransmitterChoice :
    (AtRest (busyLine { ready with link := { ready.link with replies := [.refuse 1 .busy 0] } }))
      ∧ (AtRest (busyLine { ready with link := { ready.link with events := [.flushed []] } }))
      ∧ (AtRest (busyLine { ready with link := { ready.link with statePending := true } }))
      ∧ (AtRest (busyLine { ready with link := { ready.link with due := true } }))
      ∧ AtRest (busyLine ready) ∧ ready.link.replies = [] ∧ ready.link.events = []
      ∧ ready.link.statePending = false ∧ ready.link.due = false :=
  ⟨atRest rfl, atRest rfl, atRest rfl, atRest rfl, atRest rfl, by decide⟩

theorem test_met_PositionTimer :
    AtRest (busyLine ready) ∧ (busyLine ready).link.sending = some (.reply (.refuse 0 .busy 0))
      ∧ ((0 = 0 ∨ (10 ≤ 0 ∧ 0 ≤ 1000)) ∧ (10 = 0 ∨ (10 ≤ 10 ∧ 10 ≤ 1000)) ∧ (1000 = 0 ∨ (10 ≤ 1000 ∧ 1000 ≤ 1000)))
      ∧ AtRest (busyLine { ready with link := { ready.link with period := 10, positionTimer := some 0 } })
      ∧ (busyLine ready).link.positionTimer = none :=
  ⟨atRest rfl, rfl, by decide, atRest rfl, rfl⟩

/-! ## The program queue -/

/-- A queue with one slot left. -/
def nearlyFull : State := planning .idle (List.replicate 31 ⟨1, .mark⟩) (some .queued) (placed false)

theorem test_met_QueueOrdersAppend :
    AtRest nearlyFull ∧ nearlyFull.planner.state ≠ .aborting ∧ nearlyFull.planner.queue.length < 32
      ∧ (1 ≤ 600000 ∧ 600000 ≤ 600000) ∧ (geared.gear.table.isSome = true ∧ 3000 ≤ 3000)
      ∧ (nearlyFull.gear.table.isSome = true ∨ ((0 : Nat) = 0 ∧ (none : Option GearRange) = none))
      ∧ (CoolantMode.asksTsc .floodTsc = true → nearlyFull.link.straps.tscFitted = true) :=
  ⟨atRest rfl, by decide⟩

/-- X latched at its plus end, where it stands. -/
def latched : State := (placed false).setAxis .x { at_ false 350000 with latchPlus := true }

theorem test_met_QueueMoveAppends :
    AtRest latched ∧ latched.planner.state ≠ .aborting ∧ latched.planner.queue.length < 32 ∧ feedFits .perMinute 20000
      ∧ (FeedMode.perMinute = .perRev → latched.gear.table.isSome = true)
      ∧ (∃ a x, PerAxis.get (⟨some 350000, none, none, none, some 5000⟩ : PerAxis (Option Int)) a = some x)
      ∧ latched.link.straps.bFitted = true
      ∧ (∀ a x, PerAxis.get (⟨some 350000, none, none, none, some 5000⟩ : PerAxis (Option Int)) a = some x →
        0 ≤ x ∧ x ≤ travelTop a ∧ Reachable (latched.axis a) x
          ∧ ((latched.axis a).latchPlus = true → x ≤ (latched.axis a).commanded)
          ∧ ((latched.axis a).latchMinus = true → (latched.axis a).commanded ≤ x)) := by
  refine ⟨atRest rfl, by decide, by decide, ⟨by decide, by decide⟩, by decide, ⟨.x, 350000, rfl⟩, rfl, ?_⟩
  intro a x h
  cases a <;> simp only [PerAxis.get, Option.some.injEq, reduceCtorEq] at h <;> subst h <;> unfold Reachable <;> decide

/-- HELD by HOST with a queue. -/
def heldCut : State :=
  let s := planning .held cut (some .queued) (placed false)
  { s with planner := { s.planner with causes := { CauseSet.empty with host := true } } }

/-- HELD by HOST with one entry in a sub-state, the operator's stop set or not, and a spindle fault's note or not. -/
def heldAt (e : EntryBody) (h : HeadState) (stopped retake : Bool) (s : State) : State :=
  let t := planning .held [⟨7, e⟩] (some h) s
  { t with
    planner := { t.planner with causes := { CauseSet.empty with host := true }, retake := retake }
    spindle := { t.spindle with stoppedByOperator := stopped } }

/-- A MOVE of X by 10, in a feed mode. -/
def cutBy (m : FeedMode) : EntryBody := .move ⟨some 100010, none, none, none, none⟩ m 1

/-- What a Start that takes the start actions again asks of a state. -/
def RetakeReady (s : State) : Prop :=
  AtRest s ∧ s.stop.estop = .armed ∧ s.pendant.site = .host ∧ s.planner.state = .held
    ∧ s.planner.causes.hasCondition = false ∧ s.planner.displaced = false ∧ s.valve.requests = []

theorem retakeReady {s : State} (h : calm s = true)
    (k : s.stop.estop = .armed ∧ s.pendant.site = .host ∧ s.planner.state = .held
      ∧ s.planner.causes.hasCondition = false ∧ s.planner.displaced = false ∧ s.valve.requests = []) :
    RetakeReady s := ⟨atRest h, k⟩

theorem test_met_StartRuns :
    AtRest (placed false) ∧ (placed false).stop.estop = .armed ∧ (placed false).pendant.site = .host
      ∧ ((placed false).planner.state = .idle ∧ anyReference (placed false) = false
          ∧ (placed false).spindle.stoppedByOperator = false)
      ∧ (AtRest heldCut ∧ heldCut.planner.state = .held ∧ heldCut.planner.causes.hasCondition = false
          ∧ heldCut.planner.displaced = false ∧ heldCut.planner.head ≠ some .starting
          ∧ heldCut.spindle.stoppedByOperator = false)
      ∧ (AtRest (planning .running cut (some .queued) (placed false))) :=
  ⟨atRest rfl, by decide, by decide, by decide, ⟨atRest rfl, by decide⟩, atRest rfl⟩

theorem test_met_StartRuns_retaken :
    RetakeReady (heldAt (.dwell 1) .starting false false (placed false))
      ∧ (RetakeReady (heldAt (.dwell 600000) .active true false turning)
        ∧ (heldAt (.dwell 600000) .active true false turning).spindle.sProg ≠ 0)
      ∧ RetakeReady (heldAt .mark .starting true false ready)
      ∧ (RetakeReady (heldAt (cutBy .perRev) .active false true (placed false))
        ∧ (heldAt (cutBy .perRev) .active false true (placed false)).planner.retake = true)
      ∧ (RetakeReady (heldAt (cutBy .rapid) .starting false false (placed true))
        ∧ ((newContext (placed true) ⟨some 100010, none, none, none, none⟩).legs.get .x).isSome = true
        ∧ ((placed true).axis .x).motion = .idle ∧ clampNeeded (placed true) .x = true
        ∧ ((placed true).clamp .x).state = .engaged ∧ (placed true).valve.pressureOk = true
        ∧ ((placed true).clamp .x).switchClosed = false)
      ∧ RetakeReady (heldAt (cutBy .rapid) .starting false false (dry (placed true)))
      ∧ RetakeReady (heldAt (cutBy .rapid) .starting false false (clamped .released true (placed true)))
      ∧ RetakeReady (heldAt (cutBy .rapid) .starting false false (clamped .fault false (placed true))) :=
  ⟨retakeReady rfl (by decide), ⟨retakeReady rfl (by decide), by decide⟩, retakeReady rfl (by decide),
    ⟨retakeReady rfl (by decide), rfl⟩, ⟨retakeReady rfl (by decide), by decide⟩, retakeReady rfl (by decide),
    retakeReady rfl (by decide), retakeReady rfl (by decide)⟩

theorem test_met_StartRuns_spindle_and_coolant :
    (RetakeReady (heldAt (.spindle 180 .ccw none true) .starting false false geared)
        ∧ hasSpindleFault geared = false ∧ geared.gear.step = .idle ∧ currentRow geared = some table.ii
        ∧ table.ii.min ≤ 180 ∧ 180 ≤ table.ii.max)
      ∧ (RetakeReady (heldAt (.spindle 1 .cw none false) .starting false false
            (faulted [entry .spindleStall .absent false] geared))
        ∧ hasSpindleFault (faulted [entry .spindleStall .absent false] geared) = true)
      ∧ RetakeReady (heldAt (.coolant .floodTsc true) .starting true false turning) :=
  ⟨⟨retakeReady rfl (by decide), by decide⟩, ⟨retakeReady rfl (by decide), by decide⟩, retakeReady rfl (by decide)⟩

theorem test_met_StartRefusals :
    (AtRest { ready with stop := { ready.stop with estop := .released } })
      ∧ AtRest { ready with pendant := { ready.pendant with site := .pendant } }
      ∧ (AtRest (cutting .holding 0 0) ∧ (cutting .holding 0 0).planner.state = .holding)
      ∧ (AtRest (ready.setAxis .x { at_ false 5000 with motion := .reference .moving })
          ∧ anyReference (ready.setAxis .x { at_ false 5000 with motion := .reference .moving }) = true)
      ∧ AtRest { heldCut with planner := { heldCut.planner with displaced := true } } :=
  ⟨atRest rfl, atRest rfl, ⟨atRest rfl, rfl⟩, ⟨atRest rfl, by decide⟩, atRest rfl⟩

theorem test_met_HoldAddsHost :
    AtRest ready ∧ ready.planner.state = .idle
      ∧ (AtRest (cutting .running 0 0) ∧ (cutting .running 0 0).planner.head = some .active)
      ∧ (AtRest (planning .running cut (some .queued) (placed false)))
      ∧ (AtRest heldCut ∧ heldCut.planner.state = .held) :=
  ⟨atRest rfl, rfl, ⟨atRest rfl, rfl⟩, atRest rfl, atRest rfl, rfl⟩

theorem test_met_AbortEndsProgram :
    (AtRest (cutting .aborting 100 200) ∧ (cutting .aborting 100 200).gear.step = .idle)
      ∧ (AtRest (cutting .running 100 200) ∧ activeMove (cutting .running 100 200) = true
          ∧ pathVelocity (cutting .running 100 200) ≠ 0)
      ∧ (AtRest heldCut ∧ activeMove heldCut = false)
      ∧ (AtRest ready ∧ ready.planner.state = .idle ∧ anyReference ready = false ∧ ready.planner.queue = []) :=
  ⟨⟨atRest rfl, rfl⟩, ⟨atRest rfl, by decide⟩, ⟨atRest rfl, by decide⟩, atRest rfl, by decide⟩

theorem test_met_AbortEndsProgram_elsewhere :
    (AtRest searching ∧ searching.planner.state = .idle ∧ searching.gear.step = .idle
        ∧ searching.pendant.withdrawing = false ∧ (searching.axis .x).motion = .reference .moving)
      ∧ AtRest (searching.setAxis .y { at_ false 0 with motion := .reference .clampWait })
      ∧ AtRest (nearlyFull.setAxis .b { at_ false 0 with motion := .reference .stopping })
      ∧ (AtRest (changing .stopping) ∧ (changing .stopping).gear.step ≠ .idle
        ∧ (changing .stopping).coolant.tsc ≠ .suspended ∧ (changing .stopping).coolant.tsc ≠ .blocked)
      ∧ (AtRest (changing .pause) ∧ AtRest (changing .ending))
      ∧ (AtRest creeping ∧ creeping.gear.creep.isSome = true ∧ creeping.gear.step = .stroke)
      ∧ (AtRest { cutting .running 100 200 with gear := (changing .stroke).gear }
        ∧ activeMove { cutting .running 100 200 with gear := (changing .stroke).gear } = true
        ∧ pathVelocity { cutting .running 100 200 with gear := (changing .stroke).gear } ≠ 0)
      ∧ AtRest { cutting .held 100 0 with gear := (changing .stroke).gear } :=
  ⟨⟨atRest rfl, by decide⟩, atRest rfl, atRest rfl, ⟨atRest rfl, by decide⟩, ⟨atRest rfl, atRest rfl⟩,
    ⟨atRest rfl, by decide⟩, ⟨atRest rfl, by decide⟩, atRest rfl⟩

/-- A check of `FollowsWell` that evaluates. -/
def keepsUp (s : State) : Bool :=
  axesInOrder.all fun a => !driveEnable (periodOutputs s) a || !((periodOutputs s).axis a).errorExceeds

theorem followsWell {s : State} (h : keepsUp s = true) : FollowsWell s := by
  simp only [keepsUp, axesInOrder, List.all_cons, List.all_nil, Bool.and_eq_true, Bool.or_eq_true, Bool.not_eq_true',
    Bool.and_true] at h
  intro a hd
  cases a <;> simp_all

/-- A check of `HeadAlone` that evaluates. -/
def alone (s : State) : Bool :=
  keepsUp s && axesInOrder.all (fun a => (s.axis a).motion == .idle) && s.gear.step == .idle
    && s.valve.requests.isEmpty

theorem headAlone {s : State} (h : alone s = true) : HeadAlone s := by
  simp only [alone, axesInOrder, List.all_cons, List.all_nil, Bool.and_eq_true, beq_iff_eq, List.isEmpty_iff,
    Bool.and_true] at h
  obtain ⟨⟨⟨hf, hx⟩, hg⟩, hv⟩ := h
  refine ⟨followsWell hf, fun a => ?_, hg, hv⟩
  cases a <;> simp_all

/-- X further from its measured position than fe_limit. -/
def lagging : State := (placed false).setAxis .x { at_ false 100000 with measured := 98999 }

theorem nothingStarts {s : State} (h : (s.planner.state != .running || headInProgress s) = true) : NothingStarts s := by
  intro hr
  rw [hr] at h
  exact Or.inl (by simpa using h)

theorem test_met_PeriodKeepsInputs :
    (driveEnable (periodOutputs lagging) .x = true ∧ ((periodOutputs lagging).axis .x).errorExceeds = true)
      ∧ (HeadAlone (placed true) ∧ NothingStarts (placed true) ∧ (placed true).valve.requests = []
        ∧ ((placed true).axis .x).params = some (params true) ∧ positionsFollow (placed true) .x = false
        ∧ (params true).clampLinger ≠ 0)
      ∧ (HeadAlone ready ∧ NothingStarts ready ∧ positionsFollow ready .x = true)
      ∧ (HeadAlone (cutting .running 100 200) ∧ NothingStarts (cutting .running 100 200))
      ∧ HeadAlone (clamped .released true (placed true)) :=
  ⟨by decide, ⟨headAlone (by decide +kernel), nothingStarts (by decide), by decide⟩,
    ⟨headAlone (by decide +kernel), nothingStarts (by decide), by decide⟩,
    ⟨headAlone (by decide +kernel), nothingStarts (by decide)⟩, headAlone (by decide +kernel)⟩

/-- What the statement on a moving program asks of a state. -/
def MoveReady (s : State) (c : MoveContext) : Prop :=
  s.planner.context = some c ∧ c.kind ≠ .null ∧ c.travelled ≤ c.lengthN ∧ s.gear.step = .idle
    ∧ (∀ a, driveEnable (periodOutputs s) a = true → ((periodOutputs s).axis a).errorExceeds = false)
    ∧ (c.legs.get .x).isSome = true ∧ (s.axis .x).configured = true ∧ (s.axis .x).referenced = true
    ∧ (s.axis .x).mode ≠ .parked ∧ (s.axis .x).motion = .idle

theorem test_met_MoveAdvances_running :
    (cutting .running 0 0).planner.queue = cut ∧ MoveReady (cutting .running 0 0) (cutContext 0 0)
      ∧ 0 + nextVelocity (cutContext 0 0) (runningTarget .perMinute 300 100 0 33333) < 10000 := by
  refine ⟨rfl, ⟨rfl, by decide, by decide, rfl, ?_, by decide⟩, by decide⟩
  intro a
  cases a <;> decide

theorem test_met_MoveAdvances_end :
    MoveReady (cutting .running 9900 200) (cutContext 9900 200)
      ∧ 9900 + nextVelocity (cutContext 9900 200) (runningTarget .perMinute 300 100 0 33333) = 10000 := by
  refine ⟨⟨rfl, by decide, by decide, rfl, ?_, by decide⟩, by decide⟩
  intro a
  cases a <;> decide

theorem test_met_MoveAdvances_holding :
    MoveReady (cutting .holding 100 200) (cutContext 100 200) ∧ nextVelocity (cutContext 100 200) 0 = 0 := by
  refine ⟨⟨rfl, by decide, by decide, rfl, ?_, by decide⟩, by decide⟩
  intro a
  cases a <;> decide

/-- What the statement on the head entry asks of every state. -/
def HeadReady (s : State) : Prop := AtRest s ∧ HeadAlone s

theorem headReady {s : State} (h : calm s = true) (k : alone s = true) : HeadReady s := ⟨atRest h, headAlone k⟩

theorem test_met_MoveAdvances_aborting :
    HeadReady (cutting .aborting 100 600) ∧ HeadReady (cutting .aborting 100 200)
      ∧ HeadReady (cutting .aborting 9900 300)
      ∧ (nextVelocity (cutContext 100 600) 0 = 400 ∧ nextVelocity (cutContext 100 200) 0 = 0
        ∧ 9900 + nextVelocity (cutContext 9900 300) 0 = 10000) :=
  ⟨headReady rfl (by decide +kernel), headReady rfl (by decide +kernel), headReady rfl (by decide +kernel),
    by decide +kernel⟩

theorem test_met_MoveAdvances_at_rest :
    HeadReady ready ∧ HeadReady heldCut ∧ HeadReady (planning .running [] none ready)
      ∧ (HeadReady (planning .holding cut (some .queued) (placed false))
        ∧ activeMove (planning .holding cut (some .queued) (placed false)) = false) :=
  ⟨headReady rfl (by decide +kernel), headReady rfl (by decide +kernel), headReady rfl (by decide +kernel),
    headReady rfl (by decide +kernel), by decide⟩

/-- RUNNING with one entry in a sub-state. -/
def runningAt (e : EntryBody) (h : HeadState) (s : State) : State := planning .running [⟨7, e⟩] (some h) s

theorem test_met_MoveAdvances_entries :
    HeadReady (runningAt .mark .queued (placed false)) ∧ HeadReady (runningAt .endProgram .active (placed false))
      ∧ HeadReady (runningAt (.coolant .tsc true) .active ready) ∧ HeadReady (runningAt (.dwell 1) .queued ready)
      ∧ HeadReady (runningAt (.dwell 600000) .starting ready)
      ∧ (HeadReady (runningAt (.spindle 30 .cw none true) .queued geared) ∧ geared.spindle.atSpeed = false
        ∧ geared.gear.deferred = none ∧ currentRow geared = some table.ii ∧ table.ii.min ≤ 30)
      ∧ HeadReady (runningAt (.spindle 0 .cw none false) .queued geared)
      ∧ HeadReady (runningAt (.spindle 1 .cw none false) .queued (faulted [entry .spindleFault .absent true] geared))
      ∧ (HeadReady (runningAt (.coolant .flood true) .queued turning) ∧ turning.stop.estop = .armed)
      ∧ HeadReady (runningAt (.coolant .tsc true) .queued turning)
      ∧ HeadReady (runningAt (.coolant .tsc true) .queued (cooling .ready turning))
      ∧ HeadReady (runningAt (.coolant .tsc true) .queued (cooling .faulted turning)) :=
  ⟨headReady rfl (by decide +kernel), headReady rfl (by decide +kernel), headReady rfl (by decide +kernel),
    headReady rfl (by decide +kernel), headReady rfl (by decide +kernel),
    ⟨headReady rfl (by decide +kernel), by decide⟩, headReady rfl (by decide +kernel),
    headReady rfl (by decide +kernel), ⟨headReady rfl (by decide +kernel), rfl⟩, headReady rfl (by decide +kernel),
    headReady rfl (by decide +kernel), headReady rfl (by decide +kernel)⟩

/-- A STARTING head that waits for the coolant, or for AT_SPEED. -/
def waitingHead (coolant speed : Bool) : State :=
  let s := runningAt .mark .starting (cooling .building turning)
  { s with planner := { s.planner with coolantWait := coolant, speedWait := speed } }

/-- A STARTING MOVE with its context. -/
def startingCut (m : FeedMode) (travelled v : Nat) (s : State) : State :=
  let t := runningAt (.move ⟨some 100010, none, none, none, none⟩ m 300) .starting s
  { t with planner := { t.planner with context := some (cutContext travelled v) } }

theorem test_met_MoveAdvances_waiting :
    (HeadReady (waitingHead true false) ∧ (waitingHead true false).coolant.tsc ≠ .ready)
      ∧ (HeadReady (waitingHead false true) ∧ (waitingHead false true).spindle.atSpeed = false)
      ∧ HeadReady (runningAt (.spindle 1 .cw none true) .starting turning)
      ∧ (HeadReady (startingCut .rapid 0 0 (placed true))
        ∧ clampReleased (startingCut .rapid 0 0 (placed true)) .x = false)
      ∧ (HeadReady (startingCut .perRev 0 0 (placed false)) ∧ (cutContext 0 0).moves = true) :=
  ⟨⟨headReady rfl (by decide +kernel), by decide⟩, ⟨headReady rfl (by decide +kernel), by decide⟩,
    headReady rfl (by decide +kernel), ⟨headReady rfl (by decide +kernel), by decide⟩,
    headReady rfl (by decide +kernel), by decide⟩

/-- The axes placed, the gearbox in range II and the spindle at its speed. -/
def spinning : State :=
  { placed false with
    gear := geared.gear, spindle := { turning.spindle with atSpeed := true, sMeas := 150 } }

theorem test_met_MoveAdvances_moves :
    (HeadReady (runningAt (cutBy .rapid) .queued (placed false))
        ∧ (startCauses (placed false) (cutBy .rapid) (some (cutContext 0 0)) false).hasCondition = false
        ∧ (runningAt (cutBy .rapid) .queued (placed false)).planner.context = none
        ∧ clampReleased (placed false) .x = true)
      ∧ (HeadReady (runningAt (.move ⟨some 100000, none, none, none, none⟩ .rapid 0) .queued (placed false))
        ∧ pathKind (legsOf (placed false) ⟨some 100000, none, none, none, none⟩) = .null)
      ∧ (HeadReady (startingCut .perMinute 9900 200 (placed false))
        ∧ 9900 + nextVelocity (cutContext 9900 200) (runningTarget .perMinute 300 100 0 33333) = 10000)
      ∧ (HeadReady (runningAt (cutBy .perRev) .queued spinning)
        ∧ (startCauses spinning (cutBy .perRev) (some (cutContext 0 0)) false).hasCondition = false
        ∧ spinning.gear.gearbox.inRange = true ∧ spinning.spindle.sCmd ≠ 0)
      ∧ (HeadReady (runningAt (cutBy .perRev) .queued (placed false))
        ∧ (startCauses (placed false) (cutBy .perRev) (some (cutContext 0 0)) false).hasCondition = true)
      ∧ (HeadReady (runningAt (cutBy .rapid) .queued (placed true)) ∧ clampReleased (placed true) .x = false
        ∧ ((placed true).clamp .x).state = .engaged ∧ ((placed true).clamp .x).switchClosed = false) :=
  ⟨⟨headReady rfl (by decide +kernel), by decide⟩, ⟨headReady rfl (by decide +kernel), by decide⟩,
    ⟨headReady rfl (by decide +kernel), by decide +kernel⟩, ⟨headReady rfl (by decide +kernel), by decide⟩,
    ⟨headReady rfl (by decide +kernel), by decide⟩, headReady rfl (by decide +kernel), by decide⟩

theorem test_met_MoveAdvances_starting :
    (HeadReady (runningAt (.spindle 150 .cw none true) .starting spinning) ∧ spinning.spindle.atSpeed = true
        ∧ spinning.gear.gearbox.inRange = true ∧ spinning.gear.deferred = none)
      ∧ (HeadReady (runningAt (.spindle 0 .cw none true) .starting (standing neutral))
        ∧ (standing neutral).spindle.stopped = true ∧ (standing neutral).gear.deferred = none)
      ∧ HeadReady (runningAt (.spindle 0 .ccw (some .ii) false) .starting neutral)
      ∧ (HeadReady (runningAt (.coolant .tsc true) .starting (cooling .faulted turning))
        ∧ (runningAt (.coolant .tsc true) .starting (cooling .faulted turning)).planner.coolantWait = false)
      ∧ (HeadReady (waitingHead false false) ∧ (cooling .ready turning).coolant.tsc = .ready) :=
  ⟨⟨headReady rfl (by decide +kernel), by decide⟩, ⟨headReady rfl (by decide +kernel), by decide⟩,
    headReady rfl (by decide +kernel), ⟨headReady rfl (by decide +kernel), rfl⟩, headReady rfl (by decide +kernel), rfl⟩

/-! ## Axes -/

theorem test_met_LocalStepKeepsLimits :
    (params false).softMin ≤ (params false).softMax ∧ (at_ false 350000).referenced = true
      ∧ (AxisUnit.afterReset false false false).referenced = false := by decide

/-- What the statement on a period of X in local motion asks of a state. -/
def LocalReady (s : State) : Prop :=
  AtRest s ∧ FollowsWell s
    ∧ ((s.planner.state = .idle ∨ s.planner.state = .held) ∧ (s.axis .x).params = some (params false)
      ∧ positionsFollow s .x = false)

theorem localReady {s : State} (h : calm s = true) (f : keepsUp s = true)
    (k : (s.planner.state = .idle ∨ s.planner.state = .held) ∧ (s.axis .x).params = some (params false)
      ∧ positionsFollow s .x = false) : LocalReady s := ⟨atRest h, followsWell f, k⟩

/-- X at 100,000 in a local motion, under a demand, at a velocity. -/
def moving (m : LocalMotion) (d : JogDemand) (v : Nat) (s : State) : State :=
  s.setAxis .x { at_ false 100000 with motion := m, demand := d, velocity := v, p := 100000000, searchGoal := 100000 }

theorem test_met_LocalStepKeepsLimits_jogs :
    LocalReady (moving (.jog .clampWait) (.button .plus) 0 (placed false))
      ∧ LocalReady (moving (.reference .clampWait) .stop 0 (placed false))
      ∧ LocalReady (moving (.jog .moving) (.button .minus) 400 (placed false))
      ∧ (LocalReady (moving (.jog .moving) (.handwheel 100000) 0 (placed false))
        ∧ jogGoal .x ((moving (.jog .moving) (.handwheel 100000) 0 (placed false)).axis .x) (params false) = some 100000
        ∧ (motionStep (params false) (some 100000) 20000
            ((moving (.jog .moving) (.handwheel 100000) 0 (placed false)).axis .x)).velocity = 0)
      ∧ LocalReady (moving (.jog .moving) (.handwheel 350000) 20000 (placed false))
      ∧ LocalReady (moving (.jog .stopping) .stop 400 (placed false))
      ∧ (LocalReady (moving (.jog .stopping) .stop 200 (placed false))
        ∧ (motionStep (params false) none 0
            ((moving (.jog .stopping) .stop 200 (placed false)).axis .x)).velocity = 0)
      ∧ (LocalReady (moving (.jog .moving) (.button .plus) 4000 (planning .held cut (some .starting) (placed false)))
        ∧ headInProgress (planning .held cut (some .starting) (placed false)) = true) :=
  ⟨localReady rfl (by decide +kernel) (by decide), localReady rfl (by decide +kernel) (by decide),
    localReady rfl (by decide +kernel) (by decide), ⟨localReady rfl (by decide +kernel) (by decide), by decide +kernel⟩,
    localReady rfl (by decide +kernel) (by decide), localReady rfl (by decide +kernel) (by decide),
    ⟨localReady rfl (by decide +kernel) (by decide), by decide +kernel⟩,
    localReady rfl (by decide +kernel) (by decide), by decide⟩

/-- X in its search, 10,000 µm from its goal. -/
def seeking : State :=
  let s := moving (.reference .moving) .stop 10000 (placed false)
  s.setAxis .x { s.axis .x with referenced := false, searchGoal := 110000 }

theorem test_met_LocalStepKeepsLimits_references :
    LocalReady seeking
      ∧ (LocalReady (moving (.reference .moving) .stop 0 (placed false))
        ∧ (motionStep (params false) (some 100000) 10000
            ((moving (.reference .moving) .stop 0 (placed false)).axis .x)).velocity = 0)
      ∧ LocalReady (moving (.reference .stopping) .stop 400 (placed false))
      ∧ (LocalReady (moving (.reference .stopping) .stop 0 (placed false))
        ∧ (motionStep (params false) none 0
            ((moving (.reference .stopping) .stop 0 (placed false)).axis .x)).velocity = 0) :=
  ⟨localReady rfl (by decide +kernel) (by decide),
    ⟨localReady rfl (by decide +kernel) (by decide), by decide +kernel⟩,
    localReady rfl (by decide +kernel) (by decide), localReady rfl (by decide +kernel) (by decide), by decide +kernel⟩

theorem test_met_EncoderAndMarkMeasure :
    AtRest searching ∧ (searching.axis .x).params = some (params false)
      ∧ (searching.axis .x).motion = .reference .moving ∧ (searching.axis .y).motion ≠ .reference .moving
      ∧ AtRest (ready.setAxis .x { at_ false 100000 with mode := .loop, loopHeld := some true }) :=
  ⟨atRest rfl, by decide, by decide, by decide, atRest rfl⟩

/-- The state in which an order on one axis is taken at once. -/
def OrderReady (s : State) (a : Axis) : Prop :=
  AtRest s ∧ (a = .b → s.link.straps.bFitted = true) ∧ (s.axis a).configured = true ∧ s.planner.state = .idle
    ∧ s.planner.queue = [] ∧ (s.axis a).atRest = true ∧ (s.axis a).claim = false ∧ (s.axis a).motion = .idle

theorem orderReady {s : State} {a : Axis} (h : calm s = true)
    (k : (a = .b → s.link.straps.bFitted = true) ∧ (s.axis a).configured = true ∧ s.planner.state = .idle
      ∧ s.planner.queue = [] ∧ (s.axis a).atRest = true ∧ (s.axis a).claim = false ∧ (s.axis a).motion = .idle) :
    OrderReady s a := ⟨atRest h, k⟩

/-- An axis in LOOP. -/
def looping (held : Bool) (encoder : Int) : State :=
  ready.setAxis .x { at_ false 100000 with mode := .loop, loopHeld := some held, encoder := encoder }

theorem test_met_ReferenceOrderTaken :
    (OrderReady (looping true 0) .x ∧ (looping true 0).stop.estop = .armed ∧ (looping true 0).pendant.site = .host
        ∧ ((looping true 0).axis .x).latch .plus = false)
      ∧ (OrderReady (placed false) .b ∧ driveEnable (placed false) .b = true ∧ (placed false).valve.requests = []
        ∧ (params false).clampFitted = false)
      ∧ (OrderReady (clamped .released true (placed true)) .x)
      ∧ (OrderReady (placed true) .x ∧ driveEnable (placed true) .x = true
        ∧ ((placed true).clamp .x).state = .engaged ∧ ((placed true).clamp .x).switchClosed = false
        ∧ (placed true).valve.pressureOk = true) :=
  ⟨⟨orderReady rfl (by decide), by decide⟩, ⟨orderReady rfl (by decide), by decide⟩, orderReady rfl (by decide),
    orderReady rfl (by decide), by decide⟩

/-- X parked where its encoder stands. -/
def parkedAt (referenced : Bool) (x : Int) : State :=
  ready.setAxis .x { at_ false x with mode := .parked, referenced := referenced }

theorem test_met_ParkChangesMode :
    (OrderReady (placed true) .x ∧ ((placed true).axis .x).mode = .normal
        ∧ ((placed true).clamp .x).state ≠ .released)
      ∧ OrderReady (looping true 0) .x
      ∧ (OrderReady (parkedAt true 350000) .x ∧ ((parkedAt true 350000).axis .x).driveFault = false
        ∧ withinSoft ((parkedAt true 350000).axis .x)
            (350000 - pitchAt ((parkedAt true 350000).compOf .x) 350000) = true)
      ∧ (OrderReady (parkedAt true 350001) .x
        ∧ withinSoft ((parkedAt true 350001).axis .x)
            (350001 - pitchAt ((parkedAt true 350001).compOf .x) 350001) = false)
      ∧ OrderReady (parkedAt false 0) .x :=
  ⟨⟨orderReady rfl (by decide), by decide⟩, orderReady rfl (by decide), ⟨orderReady rfl (by decide), by decide⟩,
    ⟨orderReady rfl (by decide), by decide⟩, orderReady rfl (by decide)⟩

theorem test_met_LoopChangesMode :
    OrderReady (placed true) .x ∧ OrderReady (parkedAt true 5000) .x
      ∧ (OrderReady (looping true 5000) .x ∧ ((looping true 5000).axis .x).driveFault = false
        ∧ withinSoft ((looping true 5000).axis .x) (5000 - pitchAt ((looping true 5000).compOf .x) 5000) = true)
      ∧ (OrderReady (looping true 4999) .x
        ∧ withinSoft ((looping true 4999).axis .x) (4999 - pitchAt ((looping true 4999).compOf .x) 4999) = false)
      ∧ OrderReady (looping false 0) .x :=
  ⟨orderReady rfl (by decide), orderReady rfl (by decide), ⟨orderReady rfl (by decide), by decide⟩,
    ⟨orderReady rfl (by decide), by decide⟩, orderReady rfl (by decide)⟩

/-- A Set Axis payload for W with a fitted clamp. -/
def wRecord : List Byte :=
  [3] ++ sleBytes 4 5000 ++ sleBytes 4 690000 ++ leBytes 2 1000 ++ leBytes 2 25 ++ leBytes 2 600 ++ [1]
    ++ leBytes 2 300 ++ sleBytes 4 10000 ++ sleBytes 4 100000 ++ leBytes 2 1000 ++ [0, 10, 1]

/-- The record of that payload, with the internal forms of R2. -/
def wParams : AxisParams :=
  { params true with
    softMax := 690000, accel := 25, refDirection := .minus, accelN := 100, backlashRate := 10 }

theorem test_met_SetAxisRecordChecked : setAxisOperand wRecord = some (.w, wParams) := by decide

theorem test_met_SetAxisReplacesRecord :
    AtRest ready ∧ setAxisLength wRecord = true ∧ setAxisOperand wRecord = some (.w, wParams)
      ∧ setAxisBusy .w wParams ready = false ∧ (ready.axis .w).plusOpen = false ∧ (ready.axis .w).minusOpen = false
      ∧ (ready.axis .w).driveFault = false
      ∧ (AtRest (placed false) ∧ setAxisBusy .w wParams (placed false) = false
        ∧ ((placed false).axis .w).configured = true) :=
  ⟨atRest rfl, by decide, by decide, by decide, by decide, by decide, by decide, atRest rfl, by decide, by decide⟩

/-- A Load Compensation of X: the window of 2^22 µm at 0 and c_0. -/
def windowChunk : List Byte := [0, 0, 1, 1] ++ sleBytes 4 0 ++ [22] ++ sleBytes 2 (-500)

/-- A Load Compensation of X: c_128 alone. -/
def pointChunk : List Byte := [0, 128, 0, 1] ++ sleBytes 2 500

/-- X configured and not referenced. -/
def unreferenced : State := ready.setAxis .x { at_ false 0 with referenced := false }

theorem test_met_LoadCompensationWrites :
    AtRest unreferenced ∧ (unreferenced.axis .x).configured = true ∧ tableLocked (unreferenced.axis .x) = false
      ∧ (unreferenced.compOf .x).points.length = 129
      ∧ (windowChunk.length = loadLength windowChunk ∧ compLoad windowChunk = some ⟨.x, 0, some (0, 22), [-500]⟩)
      ∧ (pointChunk.length = loadLength pointChunk ∧ compLoad pointChunk = some ⟨.x, 128, none, [500]⟩) :=
  ⟨atRest rfl, by decide, by decide, by decide +kernel, ⟨by decide, rfl⟩, by decide, rfl⟩

/-- X placed, with its drive-fault input active. -/
def driveOut : State := (placed false).setAxis .x { at_ false 100000 with driveFault := true, referenced := false }

theorem test_met_DriveFaultStops :
    (AtRest driveOut ∧ (driveOut.axis .x).driveFault ≠ false)
      ∧ (AtRest ready ∧ (ready.axis .x).driveFault ≠ true ∧ (ready.axis .x).configured = false)
      ∧ (AtRest (parkedAt true 5000) ∧ ((parkedAt true 5000).axis .x).driveFault ≠ true
        ∧ ((parkedAt true 5000).axis .x).mode ≠ .normal)
      ∧ (AtRest (cutting .running 100 200) ∧ ((cutting .running 100 200).axis .x).driveFault = false
        ∧ ((cutting .running 100 200).axis .x).configured = true
        ∧ ((cutting .running 100 200).axis .x).mode = .normal ∧ (cutting .running 100 200).gear.step = .idle) :=
  ⟨⟨atRest rfl, by decide⟩, ⟨atRest rfl, by decide⟩, ⟨atRest rfl, by decide⟩, atRest rfl, by decide⟩

theorem test_met_OvertravelLatches :
    (AtRest ((placed false).setAxis .x { at_ false 0 with plusOpen := true })
        ∧ (({ at_ false 0 with plusOpen := true } : AxisUnit).switchOpen .plus = true))
      ∧ (AtRest (cutting .running 100 200) ∧ ((cutting .running 100 200).axis .x).switchOpen .minus = false
        ∧ ((cutting .running 100 200).axis .x).configured = true ∧ (cutting .running 100 200).gear.step = .idle)
      ∧ (AtRest ready ∧ (ready.axis .x).switchOpen .plus = false ∧ (ready.axis .x).configured = false) :=
  ⟨⟨atRest rfl, by decide⟩, ⟨atRest rfl, by decide⟩, atRest rfl, by decide⟩

/-! ## Settings and queries -/

theorem test_met_SettingOrdersReplace :
    (AtRest geared ∧ (7 ≤ 7 ∧ 200 ≤ 200 ∧ 10000 ≤ 10000))
      ∧ (500 ≤ 500 ∧ 6000 ≤ 6000 ∧ geared.spindle.reference = 0
        ∧ geared.spindle.phase = .run ∧ geared.spindle.sCmd = 0)
      ∧ (AtRest turning ∧ turning.spindle.motorMax = 1500 ∧ currentRow turning = some table.ii
        ∧ turning.spindle.sCmd ≠ 0)
      ∧ (6000 ≠ turning.spindle.motorMax ∧ turning.spindle.reference ≠ 0)
      ∧ (∀ r, rowFits (table.row r)) ∧ geared.gear.step = .idle ∧ geared.coolant.tsc ≠ .blocked
      ∧ (AtRest (changing .stopping) ∧ (changing .stopping).gear.step ≠ .idle)
      ∧ (AtRest (cooling .blocked turning) ∧ currentRow (cooling .blocked turning) = some table.ii
        ∧ table.ii.min ≤ 100) := by
  refine ⟨⟨atRest rfl, by decide⟩, by decide, ⟨atRest rfl, by decide⟩, by decide, ?_, by decide, by decide,
    ⟨atRest rfl, by decide⟩, atRest rfl, by decide⟩
  intro r
  cases r <;> unfold rowFits <;> decide

theorem test_met_OverridesAndTextTaken :
    (AtRest (linked .lost 3 ready) ∧ 15 ≤ 15 ∧ 5 ≤ 5 ∧ 12 ≤ 12
        ∧ (linked .lost 3 ready).pendant.spindleOverride ≠ 10 * 12)
      ∧ (AtRest ready ∧ ready.pendant.link = .waiting) ∧ (List.replicate 20 (0 : Byte)).length ≤ 20
      ∧ (∀ n, some 100000 = some n → 1000 ≤ n ∧ n ≤ 100000) ∧ ready.link.straps.pendantFitted = true
      ∧ AtRest { ready with link := { ready.link with straps := ⟨0, false, true, true⟩ } } := by
  refine ⟨⟨atRest rfl, by decide⟩, ⟨atRest rfl, rfl⟩, by decide, ?_, rfl, atRest rfl⟩
  intro n h
  cases h
  decide

theorem test_met_QueriesChangeNothing :
    AtRest ready ∧ ready.link.straps.bFitted = true ∧ (7 < 8 ∧ 255 ≤ 255) ∧ 63 ≤ 63
      ∧ AtRest { ready with link := { ready.link with straps := ⟨0, true, false, true⟩ } } :=
  ⟨atRest rfl, rfl, by decide, by decide, atRest rfl⟩

/-! ## Spindle and gears -/

theorem test_met_SpindleSetTaken :
    (AtRest geared ∧ geared.gear.table.isSome = true ∧ geared.stop.estop = .armed ∧ geared.pendant.site = .host
        ∧ geared.planner.state = .idle ∧ geared.gear.step = .idle ∧ hasSpindleFault geared = false
        ∧ geared.valve.requests = [])
      ∧ (currentRow geared = some table.ii ∧ table.ii.min ≤ 180 ∧ 180 ≤ table.ii.max)
      ∧ (AtRest (changing .stopping) ∧ (changing .stopping).gear.step ≠ .idle)
      ∧ (AtRest (faulted [entry .spindleStall .absent false] geared)
        ∧ hasSpindleFault (faulted [entry .spindleStall .absent false] geared) = true)
      ∧ (geared.gear.gearbox = .range .ii ∧ geared.spindle.phase = .run ∧ geared.spindle.stopped = false)
      ∧ (geared.gear.gearbox ≠ .range .iv ∧ geared.gear.held = false ∧ headIsPerRev geared = false)
      ∧ (AtRest neutral ∧ neutral.gear.gearbox = .neutral ∧ neutral.spindle.stopped = false ∧ (table.row .ii).min ≤ 46
        ∧ 46 ≤ (table.row .ii).max
        ∧ ∀ q, (GearRange.byte q).toNat < (GearRange.byte .ii).toNat →
            ¬((table.row q).min ≤ 46 ∧ 46 ≤ (table.row q).max)) := by
  refine ⟨⟨atRest rfl, by decide⟩, by decide, ⟨atRest rfl, by decide⟩, ⟨atRest rfl, by decide⟩, by decide, by decide,
    atRest rfl, by decide, by decide, by decide, by decide, ?_⟩
  intro q
  cases q <;> decide

/-- The gearbox in range IV. -/
def fast : State := { geared with gear := { geared.gear with gearbox := .range .iv, switches := ⟨false, false, true, false, true⟩ } }

/-- Range II without automatic change. -/
def manual : State := { geared with gear := { geared.gear with autoRange := false } }

theorem selected_nearest : Selected table 3000 .iv :=
  Or.inr ⟨fun q => by cases q <;> decide, fun q => by cases q <;> decide⟩

theorem selected_lowest : Selected table 30 .i :=
  Or.inl ⟨by decide, by decide, fun q => by cases q <;> decide⟩

theorem test_met_SpindleSetTaken_auto :
    (AtRest manual ∧ manual.gear.gearbox = .range .ii ∧ manual.gear.autoRange = false)
      ∧ (AtRest fast ∧ fast.gear.gearbox = .range .iv ∧ Selected table 3000 .iv)
      ∧ (AtRest geared ∧ geared.gear.autoRange = true ∧ ¬(table.ii.min ≤ 3000 ∧ 3000 ≤ table.ii.max)
        ∧ geared.gear.gearbox ≠ .range .iv ∧ geared.spindle.stopped = false)
      ∧ (AtRest neutral ∧ neutral.gear.table = some table ∧ Selected table 30 .i) :=
  ⟨⟨atRest rfl, by decide⟩, ⟨atRest rfl, rfl, selected_nearest⟩, ⟨atRest rfl, by decide⟩, atRest rfl, rfl,
    selected_lowest⟩

theorem test_met_GearSetBeginsChange :
    (AtRest (planning .running [] none geared) ∧ (planning .running [] none geared).planner.state ≠ .idle)
      ∧ (AtRest geared ∧ headIsPerRev geared = false ∧ geared.gear.held = false ∧ geared.valve.requests = []
        ∧ geared.gear.gearbox = GearTarget.state (.range .ii))
      ∧ (AtRest (changing .stopping) ∧ (changing .stopping).gear.target ≠ some (.range .i))
      ∧ (geared.gear.gearbox ≠ GearTarget.state .neutral ∧ geared.spindle.stopped = false)
      ∧ (AtRest (standing geared) ∧ (standing geared).spindle.stopped = true
        ∧ planStroke geared.gear.switches .neutral = some (.a .neutral)
        ∧ confirmed geared (.fork (.a .neutral)) = false)
      ∧ (AtRest (standing neutral) ∧ planStroke neutral.gear.switches (.range .i) = some (.a .low)
        ∧ confirmed neutral (.fork (.a .low)) = false ∧ strokeEngages neutral.gear.switches (.a .low) = true) :=
  ⟨⟨atRest rfl, by decide⟩, ⟨atRest rfl, by decide⟩, ⟨atRest rfl, by decide⟩, by decide, ⟨atRest rfl, by decide⟩,
    atRest rfl, by decide⟩

/-- Two clamp strokes in hand, neither confirmed. -/
def busyBank (s : State) : State :=
  let t := (s.setClamp .x ⟨.engaging, false, none, true⟩).setClamp .y ⟨.releasing, false, none, false⟩
  { t with valve := { t.valve with requests := [⟨.engage .x, 0, .active 1⟩, ⟨.release .y, 0, .active 1⟩] } }

/-- A change in its pause. -/
def pausing (w : ForkSwitches) : State :=
  { changing .pause with
    gear := { (changing .pause).gear with switches := w, pauseTimer := some 0, stroke := some (.a .neutral) } }

theorem test_met_GearSetBeginsChange_under_way :
    (AtRest (changing .stroke) ∧ (changing .stroke).gear.target = some .neutral
        ∧ (changing .stroke).planner.state = .idle ∧ headIsPerRev (changing .stroke) = false
        ∧ (changing .stroke).gear.held = false ∧ (changing .stroke).gear.table.isSome = true)
      ∧ (AtRest (pausing ⟨true, false, false, true, false⟩)
        ∧ planStroke ⟨true, false, false, true, false⟩ (.range .iii) = some (.a .high)
        ∧ confirmed (pausing ⟨true, false, false, true, false⟩) (.fork (.a .high)) = false
        ∧ (pausing ⟨true, false, false, true, false⟩).valve.requests = [])
      ∧ (planStroke ⟨true, false, false, true, false⟩ (.range .i) = none
        ∧ (pausing ⟨true, false, false, true, false⟩).coolant.tsc = .off)
      ∧ (AtRest (busyBank (standing geared)) ∧ flowInUse (busyBank (standing geared)).valve.requests = 2
        ∧ (∀ r ∈ (busyBank (standing geared)).valve.requests,
            r.isActive = true ∧ confirmed (busyBank (standing geared)) r.stroke = false)
        ∧ planStroke geared.gear.switches .neutral = some (.a .neutral)) :=
  ⟨⟨atRest rfl, by decide⟩, ⟨atRest rfl, by decide⟩, by decide, atRest rfl, by decide, by decide, by decide⟩

theorem test_met_ReferenceRampsEdgesCount :
    AtRest turning ∧ spindleEnable turning = true ∧ turning.gear.gearbox.inRange = true
      ∧ turning.spindle.phase ≠ .creep := ⟨atRest rfl, by decide⟩

/-- The spindle's counts at a window's end. -/
def windowed (count : Int) (low stall : Nat) (phase : SpindlePhase) (s : State) : State :=
  { s with
    spindle := { s.spindle with windowCount := count, lowCount := low, stallCount := stall, phase := phase } }

/-- What a window's count measures. -/
def measures (s : State) (speed : Nat) : Prop := speed = roundUp (s.spindle.windowCount.natAbs * 600) 4096

theorem test_met_SpeedWindowMeasures :
    (AtRest (windowed 1024 0 0 .run turning) ∧ measures (windowed 1024 0 0 .run turning) 150 ∧ 2 < 150
        ∧ turning.gear.step ≠ .stopping)
      ∧ (AtRest (windowed (-13) 0 28 .run turning) ∧ measures (windowed (-13) 0 28 .run turning) 2
        ∧ spindleEnable (windowed (-13) 0 28 .run turning) = true
        ∧ (windowed (-13) 0 28 .run turning).spindle.sCmd ≠ 0)
      ∧ (AtRest (windowed 0 2 29 .run turning) ∧ measures (windowed 0 2 29 .run turning) 0)
      ∧ (AtRest (windowed 0 1 0 .reversing turning) ∧ measures (windowed 0 1 0 .reversing turning) 0)
      ∧ (AtRest (windowed 0 1 0 .run (changing .stopping)) ∧ (changing .stopping).gear.target = some .neutral
        ∧ (changing .stopping).spindle.sCmd = 0 ∧ (changing .stopping).valve.requests = []
        ∧ (changing .stopping).valve.pressureOk = true
        ∧ planStroke (changing .stopping).gear.switches .neutral = some (.a .neutral)
        ∧ confirmed (changing .stopping) (.fork (.a .neutral)) = false) := by
  unfold measures
  exact ⟨⟨atRest rfl, by decide⟩, ⟨atRest rfl, by decide⟩, ⟨atRest rfl, by decide⟩, ⟨atRest rfl, by decide⟩,
    atRest rfl, by decide⟩

theorem test_met_InverterFaultStopsSpindle :
    (AtRest { turning with spindle := { turning.spindle with inverterFault := true } })
      ∧ (AtRest { ready with stop := { ready.stop with estop := .released } })
      ∧ (AtRest (cutting .running 100 200) ∧ (cutting .running 100 200).spindle.inverterFault = false
        ∧ (cutting .running 100 200).stop.estop = .armed)
      ∧ AtRest (planning .running cut (some .queued) geared)
      ∧ headIsPerRev (runningAt (cutBy .perRev) .active spinning) = true :=
  ⟨atRest rfl, atRest rfl, ⟨atRest rfl, by decide⟩, atRest rfl, by decide⟩

theorem test_met_ForkSwitchSlips :
    (AtRest (changing .pause) ∧ ForkSwitches.level (changing .pause).gear.switches .aLow ≠ false)
      ∧ (AtRest { geared with gear := { geared.gear with held := true, gearbox := .unknown } })
      ∧ (AtRest geared ∧ ForkSwitches.level geared.gear.switches .aLow ≠ false ∧ geared.gear.step = .idle
        ∧ geared.gear.held = false ∧ geared.gear.gearbox = .range .ii ∧ geared.coolant.tsc ≠ .blocked)
      ∧ (AtRest neutral ∧ ForkSwitches.level neutral.gear.switches .aNeu ≠ false ∧ neutral.gear.gearbox = .neutral) :=
  ⟨⟨atRest rfl, by decide⟩, atRest rfl, ⟨atRest rfl, by decide⟩, atRest rfl, by decide⟩

/-- A change with a fork stroke in hand at the valve bank. -/
def forking (st : GearStep) (k : ForkStroke) (g : GearTarget) (w : ForkSwitches) : State :=
  requesting (.fork k) (.active 0)
    { changing st with gear := { (changing st).gear with stroke := some k, target := some g, switches := w } }

theorem test_met_ForkSwitchSlips_under_way :
    (AtRest (forking .stroke (.a .neutral) .neutral ⟨true, false, false, true, false⟩)
        ∧ confirmed (forking .stroke (.a .neutral) .neutral ⟨false, false, false, true, false⟩) (.fork (.a .neutral)) = false)
      ∧ (AtRest (forking .stroke (.a .neutral) .neutral ⟨false, false, false, true, false⟩)
        ∧ confirmed (forking .stroke (.a .neutral) .neutral ⟨false, true, false, true, false⟩) (.fork (.a .neutral)) = true
        ∧ planStroke ⟨false, true, false, true, false⟩ .neutral = none)
      ∧ (AtRest (forking .stroke (.a .neutral) (.range .iv) ⟨false, false, false, true, false⟩)
        ∧ planStroke ⟨false, true, false, true, false⟩ (.range .iv) = some (.b .two)
        ∧ confirmed (forking .stroke (.a .neutral) (.range .iv) ⟨false, true, false, true, false⟩) (.fork (.b .two)) = false
        ∧ headIsPerRev (forking .stroke (.a .neutral) (.range .iv) ⟨false, true, false, true, false⟩) = false)
      ∧ (AtRest (forking .ending (.b .two) (.range .iv) ⟨false, true, false, false, false⟩)
        ∧ confirmed (forking .ending (.b .two) (.range .iv) ⟨false, true, false, false, true⟩) (.fork (.b .two)) = true
        ∧ (forking .ending (.b .two) (.range .iv) ⟨false, true, false, false, false⟩).gear.deferred = none) :=
  ⟨⟨atRest rfl, by decide⟩, ⟨atRest rfl, by decide⟩, ⟨atRest rfl, by decide⟩, atRest rfl, by decide⟩

/-- A stroke of fork A to NEUTRAL with the switch of LOW stuck closed, after some failed attempts. -/
def stuck (attempts : Nat) : State :=
  let s := forking .stroke (.a .neutral) .neutral ⟨true, false, false, true, false⟩
  { s with gear := { s.gear with attempts := attempts } }

theorem test_met_ForkSwitchSlips_repeat :
    (confirmed { stuck 1 with gear := { (stuck 1).gear with switches := ⟨true, true, false, true, false⟩ } }
          (.fork (.a .neutral)) = true
        ∧ planStroke ⟨true, true, false, true, false⟩ .neutral = some (.a .neutral))
      ∧ (AtRest (stuck 1) ∧ (stuck 1).gear.attempts + 1 < (stuck 1).gear.retryLimit)
      ∧ (AtRest (stuck 2) ∧ (stuck 2).gear.retryLimit ≤ (stuck 2).gear.attempts + 1
        ∧ (stuck 2).gear.retryLimit ≠ 0) :=
  ⟨by decide, ⟨atRest rfl, by decide⟩, atRest rfl, by decide⟩

theorem test_met_CreepAndPauseExpire :
    (AtRest creeping ∧ creeping.gear.creep = some ⟨.cw, 0⟩) ∧ (ready.gear.creep = none ∧ ready.gear.pauseTimer = none)
      ∧ (AtRest (pausing ⟨true, false, false, false, true⟩)
        ∧ (pausing ⟨true, false, false, false, true⟩).gear.pauseTimer = some 0
        ∧ planStroke ⟨true, false, false, false, true⟩ .neutral = some (.a .neutral)
        ∧ confirmed (pausing ⟨true, false, false, false, true⟩) (.fork (.a .neutral)) = false)
      ∧ (AtRest (pausing ⟨false, true, false, false, true⟩)
        ∧ planStroke ⟨false, true, false, false, true⟩ .neutral = none) :=
  ⟨⟨atRest rfl, rfl⟩, by decide, ⟨atRest rfl, by decide⟩, atRest rfl, by decide⟩

/-! ## Coolant -/

theorem test_met_CoolantSetPlaces :
    (AtRest { ready with link := { ready.link with straps := ⟨0, true, true, false⟩ } } ∧ CoolantMode.asksTsc .tsc = true)
      ∧ (AtRest (planning .running [] none ready)) ∧ (AtRest turning ∧ turning.coolant.tsc = .off)
      ∧ (AtRest (faulted [entry .coolantLevel .absent false] turning)
        ∧ levelInhibit (faulted [entry .coolantLevel .absent false] turning) = true)
      ∧ (AtRest (changing .stopping) ∧ levelInhibit (changing .stopping) = false
        ∧ (changing .stopping).gear.gearbox = .shifting)
      ∧ (currentRow turning = some table.ii ∧ table.ii.min ≤ turning.coolant.unionLimit)
      ∧ (currentRow { turning with coolant := { turning.coolant with unionLimit := 29 } } = some table.ii
        ∧ 29 < table.ii.min)
      ∧ (AtRest (cooling .ready turning) ∧ (cooling .ready turning).coolant.purgeTime ≠ 0)
      ∧ AtRest (cooling .blocked turning) ∧ AtRest (cooling .purging turning) :=
  ⟨⟨atRest rfl, rfl⟩, atRest rfl, ⟨atRest rfl, rfl⟩, ⟨atRest rfl, by decide⟩, ⟨atRest rfl, by decide⟩, by decide,
    by decide, ⟨atRest rfl, by decide⟩, atRest rfl, atRest rfl⟩

/-- TSC in a state, with its counts and a window of one value. -/
def sampled (t : TscState) (run loss v : Nat) : State :=
  { turning with
    coolant :=
      { turning.coolant with
        tscRequested := true, tsc := t, buildRun := run, lossCount := loss, window := List.replicate 8 v } }

theorem test_met_PressureSampleFilters :
    AtRest ready ∧ ready.coolant.tsc ≠ .building
      ∧ (AtRest (sampled .building 5 0 0) ∧ (roundUp (0 * 1000) 4095) / 8 < (sampled .building 5 0 0).coolant.tscMin)
      ∧ (AtRest (sampled .building 28 0 200)
        ∧ (sampled .building 28 0 200).coolant.tscMin ≤ (7 * 200 + roundUp (819 * 1000) 4095) / 8)
      ∧ AtRest (sampled .building 29 0 200)
      ∧ (AtRest (sampled .ready 30 5 180)
        ∧ (sampled .ready 30 5 180).coolant.tscMin * 90 / 100 ≤ (7 * 180 + roundUp (819 * 1000) 4095) / 8)
      ∧ (AtRest (sampled .ready 30 8 179)
        ∧ (7 * 179 + roundUp (0 * 1000) 4095) / 8 < (sampled .ready 30 8 179).coolant.tscMin * 90 / 100)
      ∧ AtRest (sampled .ready 30 9 179) :=
  ⟨atRest rfl, by decide, ⟨atRest rfl, by decide⟩, ⟨atRest rfl, by decide⟩, atRest rfl, ⟨atRest rfl, by decide⟩,
    ⟨atRest rfl, by decide⟩, atRest rfl⟩

/-- TSC building under a timer. -/
def building (a : BuildAction) : State :=
  { turning with
    coolant :=
      { turning.coolant with tscRequested := true, tsc := .building, buildTimer := some 0, buildAction := a } }

theorem test_met_CoolantTimersAndTank :
    (AtRest (building .wait) ∧ (building .wait).coolant.buildTimer = some 0)
      ∧ (AtRest (building .fault) ∧ (building .fault).coolant.buildAction = .fault)
      ∧ (AtRest ready ∧ ready.coolant.buildTimer = none ∧ ready.coolant.purgeTimer = none
        ∧ ready.coolant.tankLow = false)
      ∧ (AtRest { turning with coolant := { turning.coolant with tsc := .purging, purgeTimer := some 0 } })
      ∧ (AtRest (planning .running cut (some .starting)
          { cooling .ready turning with planner := { turning.planner with coolantWait := true } }))
      ∧ AtRest { turning with coolant := { turning.coolant with tankLow := true } } :=
  ⟨⟨atRest rfl, rfl⟩, ⟨atRest rfl, rfl⟩, ⟨atRest rfl, by decide⟩, atRest rfl, atRest rfl, atRest rfl⟩

theorem test_met_CoolantTimersAndTank_pump :
    tscPump (building .fault) = true
      ∧ AtRest { building .fault with coolant := { (building .fault).coolant with tsc := .off } }
      ∧ tscPump { building .fault with coolant := { (building .fault).coolant with tsc := .off } } = false :=
  ⟨rfl, atRest rfl, rfl⟩

/-! ## Valve bank and clamps -/

theorem test_met_ClampSwitchWatched :
    (AtRest ready ∧ (ready.clamp .x).switchClosed ≠ true ∧ clampTakesPart ready .x = false)
      ∧ (AtRest (clamped .releaseWait false (placed true)))
      ∧ (AtRest (placed true) ∧ clampTakesPart (placed true) .x = true ∧ ((placed true).clamp .x).state = .engaged)
      ∧ (AtRest (clamped .released true (placed true))) ∧ AtRest (clamped .settling true (placed true))
      ∧ (AtRest (requesting (.release .x) (.active 0)
          (clamped .releasing false ((placed true).setAxis .x { at_ true 100000 with claim := true }))))
      ∧ AtRest (requesting (.engage .x) (.active 0) (clamped .engaging true (placed true))) :=
  ⟨⟨atRest rfl, by decide⟩, atRest rfl, ⟨atRest rfl, by decide⟩, atRest rfl, atRest rfl, atRest rfl, atRest rfl⟩

/-- X's clamp in a stroke of its own, the axis in a motion, at rest or not, under a claim or not, with a linger time. -/
def clamping (st : ClampState) (pending closed : Bool) (m : LocalMotion) (rest claim : Bool) (linger : Nat) : State :=
  let s :=
    (placed true).setAxis .x
      { at_ true 100000 with
        motion := m, atRest := rest, claim := claim, params := some { params true with clampLinger := linger } }
  let t := s.setClamp .x ⟨st, pending, none, closed⟩
  requesting (if st = .releasing then .release .x else .engage .x) (.active 0) t

theorem test_met_ClampSwitchWatched_strokes :
    (AtRest (clamping .releasing false true .idle true false 500)
        ∧ clampTakesPart (clamping .releasing false true .idle true false 500) .x = true)
      ∧ AtRest (clamping .engaging false false .idle true false 500)
      ∧ AtRest (clamping .releasing false false (.jog .clampWait) true false 500)
      ∧ AtRest (clamping .releasing false false (.reference .clampWait) true false 500)
      ∧ AtRest (clamping .releasing false false .idle false false 500)
      ∧ AtRest (clamping .releasing false false .idle true false 10000)
      ∧ (AtRest (clamping .releasing false false .idle true false 0)
        ∧ (clamping .releasing false false .idle true false 0).valve.pressureOk = true)
      ∧ AtRest (dry (clamping .releasing false false .idle true false 0)) :=
  ⟨⟨atRest rfl, rfl⟩, atRest rfl, atRest rfl, atRest rfl, atRest rfl, atRest rfl, ⟨atRest rfl, rfl⟩, atRest rfl⟩

/-- X's clamp engaging with release pending, the axis in LOOP. -/
def loopingClamp : State :=
  let s := clamping .engaging true true .idle true false 500
  s.setAxis .x { s.axis .x with mode := .loop, loopHeld := some true }

theorem test_met_ClampSwitchWatched_pending :
    AtRest (clamping .engaging true true .idle true false 500)
      ∧ (AtRest loopingClamp ∧ clampTakesPart loopingClamp .x = true)
      ∧ (AtRest (clamping .engaging true true .idle true true 500)
        ∧ (clamping .engaging true true .idle true true 500).valve.pressureOk = true)
      ∧ AtRest (clamping .engaging true true (.jog .clampWait) true false 500)
      ∧ AtRest (dry (clamping .engaging true true .idle true true 500)) :=
  ⟨atRest rfl, ⟨atRest rfl, rfl⟩, ⟨atRest rfl, rfl⟩, atRest rfl, atRest rfl⟩

/-- A fork stroke at its time limit. -/
def stroking (attempts : Nat) : State :=
  requesting (.fork (.a .neutral)) (.active 0)
    { changing .stroke with
      gear := { (changing .stroke).gear with stroke := some (.a .neutral), attempts := attempts } }

theorem test_met_StrokeTimeoutEnds :
    (AtRest ready ∧ ∀ r ∈ ready.valve.requests, r.isActive = true → r.stroke.function ≠ .forkA)
      ∧ AtRest (requesting (.release .x) (.active 0)
          (clamped .releasing false ((placed true).setAxis .x { at_ true 100000 with motion := .jog .clampWait })))
      ∧ (AtRest (requesting (.engage .x) (.active 0) (clamped .engaging true (cutting .running 100 200))))
      ∧ (AtRest (stroking 1) ∧ (stroking 1).gear.attempts + 1 < (stroking 1).gear.retryLimit)
      ∧ (AtRest (stroking 2) ∧ (stroking 2).gear.retryLimit ≤ (stroking 2).gear.attempts + 1
        ∧ (stroking 2).gear.retryLimit ≠ 0 ∧ (stroking 2).gear.retryLimit ≤ 8) :=
  ⟨⟨atRest rfl, by decide⟩, atRest rfl, atRest rfl, ⟨atRest rfl, by decide⟩, atRest rfl, by decide⟩

theorem test_met_StrokeTimeoutEnds_ending :
    AtRest (forking .ending (.b .two) (.range .iv) ⟨false, true, false, false, false⟩)
      ∧ (forking .ending (.b .two) (.range .iv) ⟨false, true, false, false, false⟩).gear.deferred = none
      ∧ (forking .ending (.b .two) (.range .iv) ⟨false, true, false, false, false⟩).coolant.tsc = .off :=
  ⟨atRest rfl, rfl, rfl⟩

/-- A release that waits for pressure. -/
def waitingRelease (left : Nat) : State :=
  let s := dry (requesting (.release .x) .waiting (clamped .releaseWait false (placed true)))
  { s with valve := { s.valve with hydraulicWait := some left } }

theorem waiting_settled (n : Nat) : Settled (waitingRelease n) := by
  constructor
  · intro h
    cases h
  unfold HydraulicSettled
  rw [if_pos ⟨rfl, ⟨.release .x, 0, .waiting⟩, by simp [waitingRelease, dry, requesting], rfl⟩]
  exact Or.inl rfl

/-- X's clamp lingering. -/
def lingering : State :=
  (placed true).setClamp .x { (placed true).clamp .x with state := .released, switchClosed := true, linger := some 0 }

theorem test_met_LingerAndPressure :
    (AtRest lingering ∧ (lingering.clamp .x).linger = some 0 ∧ lingering.valve.requests = []
        ∧ lingering.stop.estop = .armed ∧ lingering.valve.pressureOk = true ∧ (lingering.clamp .x).switchClosed = true)
      ∧ (AtRest (dry lingering) ∧ (dry lingering).valve.pressureOk = false) ∧ (ready.clamp .x).linger = none
      ∧ (Settled (waitingRelease 0) ∧ (waitingRelease 0).valve.pressureOk = false
        ∧ (waitingRelease 0).stop.estop = .armed
        ∧ (waitingRelease 0).valve.requests = [⟨.release .x, 0, .waiting⟩]
        ∧ ((waitingRelease 0).clamp .x).switchClosed = false ∧ (waitingRelease 0).valve.hydraulicWait = some 0)
      ∧ ready.valve.hydraulicWait = none :=
  ⟨⟨atRest rfl, by decide⟩, ⟨atRest rfl, rfl⟩, rfl, ⟨waiting_settled 0, by decide⟩, rfl⟩

/-! ## Pendant -/

theorem test_met_ScanRequestForms :
    (AtRest creeping ∧ creeping.pendant.link ≠ .absent ∧ creeping.spindle.phase = .creep)
      ∧ (AtRest turning ∧ turning.spindle.phase ≠ .creep ∧ referenceRuns turning = true
        ∧ turning.spindle.reference = turning.spindle.dacTarget)
      ∧ (AtRest (building .wait) ∧ (building .wait).coolant.tsc = .building)
      ∧ AtRest { ready with pendant := { ready.pendant with link := .absent } } :=
  ⟨⟨atRest rfl, by decide⟩, ⟨atRest rfl, by decide⟩, ⟨atRest rfl, rfl⟩, atRest rfl⟩

/-- A reply whose check byte is right (R161). -/
def goodBytes : List Byte := List.replicate 12 0

/-- A lost link with a run of good scans. -/
def recovering (run : Nat) : State :=
  { linked .lost 3 ready with pendant := { (linked .lost 3 ready).pendant with goodRun := run } }

/-- A running program with the link ONLINE. -/
def watched : State :=
  { linked .online 2 (planning .running cut (some .queued) ready) with
    pendant := { (linked .online 2 (planning .running cut (some .queued) ready)).pendant with
                  lastGood := some plainReply } }

theorem test_met_ScanOutcomes :
    (AtRest ready ∧ ready.pendant.window = none)
      ∧ (AtRest (linked .waiting 0 ready) ∧ (linked .waiting 0 ready).pendant.window = some 3
        ∧ replyChecks goodBytes = true)
      ∧ (AtRest (recovering 3) ∧ AtRest (recovering 4) ∧ (recovering 4).pendant.link = .lost)
      ∧ (AtRest watched ∧ watched.pendant.link = .online ∧ plainReply.buttons.feedHold = false
        ∧ watched.planner.state = .running ∧ 2 ≤ watched.pendant.misses ∧ watched.pendant.site = .host)
      ∧ (AtRest (linked .online 1 ready) ∧ replyChecks [0] = false)
      ∧ AtRest { linked .online 2 ready with pendant := { (linked .online 2 ready).pendant with site := .pendant } } :=
  ⟨⟨atRest rfl, rfl⟩, ⟨atRest rfl, rfl, by decide +kernel⟩, ⟨atRest rfl, atRest rfl, rfl⟩, ⟨atRest rfl, by decide⟩,
    ⟨atRest rfl, by decide⟩, atRest rfl⟩

/-- X jogs in the pendant's site over a program, after two misses. -/
def losing (st : PlannerState) : State :=
  let s := jogged (.button .plus)
  planning st cut (some .queued) { s with pendant := { s.pendant with misses := 2 } }

theorem test_met_ScanOutcomes_loss :
    (AtRest (losing .held) ∧ (losing .held).pendant.withdrawing = false ∧ (losing .held).pendant.site = .pendant
        ∧ (losing .held).pendant.tenure.get .x = true ∧ ((losing .held).axis .x).motion = .jog .moving)
      ∧ AtRest (losing .idle) ∧ replyChecks [0] = false :=
  ⟨⟨atRest rfl, by decide⟩, atRest rfl, by decide⟩

theorem test_met_ScanOutcomes_presses :
    (AtRest watched ∧ watched.pendant.lastGood = some plainReply
        ∧ pressedNow Buttons.spindleStop plainReply
            { plainReply with buttons := ⟨true, false, true, true, false, false⟩ } = true)
      ∧ (AtRest (taken readyReply ready) ∧ (taken readyReply ready).gear.step = .idle
        ∧ pressedNow Buttons.coolant plainReply
            { readyReply with buttons := ⟨false, false, false, true, false, false⟩ } = true)
      ∧ (AtRest (linked .online 0 ready) ∧ (linked .online 0 ready).planner.state = .idle
        ∧ pressedNow Buttons.cycleStart plainReply
            { plainReply with buttons := ⟨true, false, false, false, false, false⟩ } = true
        ∧ anyReference ready = false)
      ∧ readyReply.enabling ≠ .panic :=
  ⟨⟨atRest rfl, by decide⟩, ⟨atRest rfl, by decide⟩, ⟨atRest rfl, by decide⟩, by decide⟩

theorem test_met_ScanOutcomes_site :
    (AtRest (linked .online 0 ready) ∧ (linked .online 0 ready).pendant.site = .host
        ∧ (selectorOf ready readyReply).isSome = true ∧ readyReply.enabling = .enable)
      ∧ (AtRest (jogged (.button .plus)) ∧ (jogged (.button .plus)).pendant.withdrawing = false
        ∧ selectorOf (jogged (.button .plus)) plainReply = none
        ∧ (jogged (.button .plus)).pendant.tenure.get .x = true
        ∧ ((jogged (.button .plus)).axis .x).motion = .jog .moving)
      ∧ (selectorOf ready readyReply ≠ selectorOf ready { readyReply with selector := some .b }
        ∧ selectorOf ready { readyReply with selector := some .b } ≠ some .x) :=
  ⟨⟨atRest rfl, by decide⟩, ⟨atRest rfl, by decide⟩, by decide⟩

theorem test_met_ScanOutcomes_jog :
    (AtRest (taken readyReply (placed false)) ∧ NoPress readyReply { readyReply with counter := 127, increment := .hundred }
        ∧ takesJog (taken readyReply (placed false)) .x = true
        ∧ clampReleased (taken readyReply (placed false)) .x = true
        ∧ ((taken readyReply (placed false)).axis .x).latchPlus = false
        ∧ (taken readyReply (placed false)).pendant.buttonJog = .idle)
      ∧ (AtRest (jogged (.handwheel 350000)) ∧ wheelJogRuns (jogged (.handwheel 350000)) .x = true)
      ∧ (AtRest (taken readyReply ready) ∧ takesJog (taken readyReply ready) .x = false)
      ∧ jogDirection { readyReply with buttons := ⟨false, false, false, false, false, true⟩ } = some .minus
      ∧ (AtRest { jogged (.button .plus) with
            pendant := { (jogged (.button .plus)).pendant with buttonJog := .plus } }
        ∧ jogDirection readyReply = none)
      ∧ AtRest { taken readyReply (placed false) with
          pendant := { (taken readyReply (placed false)).pendant with buttonBlocked := true } } := by
  unfold NoPress
  exact ⟨⟨atRest rfl, by decide⟩, ⟨atRest rfl, by decide⟩, ⟨atRest rfl, by decide⟩, by decide,
    ⟨atRest rfl, by decide⟩, atRest rfl⟩

/-! ## Stop chain and fault list -/

/-- A stop chain with its channels. -/
def chain (e : EStop) (c1 c2 : Bool) (timer : Option Nat) (s : State) : State :=
  { s with stop := { s.stop with estop := e, channel1Open := c1, channel2Open := c2, discrepancy := timer } }

theorem test_met_TripReachesEveryBlock :
    AtRest ready ∧ ready.stop.discrepancy = none
      ∧ (ready.stop.estop = .armed ∧ ready.stop.channel1Open = false ∧ ready.stop.channel2Open = false)
      ∧ (AtRest (chain .tripped true true none ready) ∧ (chain .tripped true true none ready).stop.estop = .tripped)
      ∧ (AtRest (chain .tripped true false (some 0) ready))
      ∧ (AtRest (chain .released true false (some 0) ready)
        ∧ (chain .released true false (some 0) ready).stop.discrepancy.isSome = true)
      ∧ (AtRest (stroking 1) ∧ forkActive (stroking 1) = true ∧ (stroking 1).gear.step ≠ .idle)
      ∧ (AtRest (changing .pause) ∧ forkActive (changing .pause) = false)
      ∧ (AtRest lingering ∧ clampTakesPart lingering .x = true ∧ clampTakesPart ready .x = false) :=
  ⟨atRest rfl, rfl, by decide, ⟨atRest rfl, rfl⟩, atRest rfl, ⟨atRest rfl, rfl⟩, ⟨atRest rfl, by decide⟩,
    ⟨atRest rfl, by decide⟩, atRest rfl, by decide⟩

theorem test_met_TripReachesEveryBlock_disagreement :
    (AtRest (chain .armed false false none ready) ∧ AtRest (chain .armed false true (some 50) ready))
      ∧ (AtRest (chain .tripped true true none ready) ∧ AtRest (chain .tripped false true none ready)
        ∧ (chain .tripped true true none ready).stop.estop = .tripped)
      ∧ (AtRest (chain .released false false none ready) ∧ AtRest (chain .released true false (some 1) ready)
        ∧ (chain .released true false (some 1) ready).stop.estop ≠ .tripped) :=
  ⟨⟨atRest rfl, atRest rfl⟩, ⟨atRest rfl, atRest rfl, rfl⟩, atRest rfl, atRest rfl, by decide⟩

/-- A held gearbox and an overtravel, both gone, with a fault that stays. -/
def clearable : State :=
  let s := faulted [entry .overtravel (.axisEnd .x .plus) false, entry .gearSlip (.fork .a) false,
    entry .driveFault (.axis .y) true] (placed true)
  { s with gear := { s.gear with held := true, gearbox := .unknown } }

theorem test_met_ClearFaultsReleases :
    (AtRest clearable
        ∧ (clearable.stop.faults.filter fun e => !e.condition)
          = [entry .overtravel (.axisEnd .x .plus) false, entry .gearSlip (.fork .a) false]
        ∧ EventRoom clearable (clearable.stop.faults.filter fun e => !e.condition).length
        ∧ clearable.stop.estop ≠ .released ∧ clearable.gear.held = true)
      ∧ (AtRest (chain .released false false none (placed true))
        ∧ (chain .released false false none (placed true)).stop.estop = .released
        ∧ (placed true).spindle.inverterFault = false ∧ (placed true).valve.requests = [])
      ∧ (AtRest (chain .tripped true true none clearable)) :=
  ⟨⟨atRest rfl, by decide, by unfold EventRoom; decide, by decide⟩, ⟨atRest rfl, by decide⟩, atRest rfl⟩

/-- A FAULTED TSC with one entry, in a state of the chain. -/
def coolantFault (e : EStop) (code : FaultCode) (condition : Bool) (s : State) : State :=
  chain e false false none (faulted [entry code .absent condition] (cooling .faulted s))

theorem test_met_ClearFaultsReleases_coolant :
    (AtRest (coolantFault .armed .coolantPressure false turning)
        ∧ (coolantFault .armed .coolantPressure false turning).stop.estop = .armed
        ∧ (coolantFault .armed .coolantPressure false turning).coolant.tsc = .faulted
        ∧ currentRow (coolantFault .armed .coolantPressure false turning) = some table.ii
        ∧ table.ii.min ≤ (coolantFault .armed .coolantPressure false turning).coolant.unionLimit)
      ∧ AtRest (coolantFault .armed .coolantPressure false (changing .stopping))
      ∧ (AtRest (coolantFault .armed .coolantLevel true turning)
        ∧ levelInhibit (coolantFault .armed .coolantLevel true turning) = true)
      ∧ AtRest (coolantFault .tripped .coolantPressure false turning)
      ∧ (AtRest (coolantFault .released .coolantPressure false ready)
        ∧ (coolantFault .released .coolantPressure false ready).stop.estop = .released) :=
  ⟨⟨atRest rfl, by decide⟩, atRest rfl, ⟨atRest rfl, by decide⟩, atRest rfl, atRest rfl, rfl⟩

/-! ## Invariants and arithmetic -/

/-- A sound state with a period due. -/
def periodDue : State := { placed true with pending := [.interpolationPeriod] }

theorem periodDue_sound : Sound periodDue := by
  refine ⟨by unfold QueuesBounded; decide, by unfold FaultsDistinct; decide, ?_, by unfold SpindleBounded; decide,
    by unfold SpeedFormed; decide, ?_, by unfold GearSound; decide, by unfold CoolantSound; decide, ?_, ?_,
    (atRest (s := periodDue) rfl).1⟩
  · refine ⟨by decide, by decide, by decide, ?_, by decide, ?_⟩
    · intro c
      cases c <;> decide
    · intro a h
      cases a <;> cases h
  · refine ⟨by decide, by decide, by decide, by decide, ?_, by decide, ?_, ?_⟩ <;> intro a <;> cases a <;> decide
  · intro h
    exact absurd rfl h
  · refine ⟨?_, ?_, ?_, ?_⟩
    · intro a
      cases a <;> decide
    · intro a p h
      cases a <;> cases h <;> decide
    · intro e h
      cases h
    · intro c h
      cases h

theorem test_met_StepKeeps : Sound periodDue ∧ Settled periodDue ∧ ∃ t, step periodDue = .next t :=
  ⟨periodDue_sound, (atRest (s := periodDue) rfl).1, _, rfl⟩

/-- The diagonal cut of 3.3 and its context. -/
def diagonal : MoveContext := newContext (placed false) ⟨some 130000, some 140000, none, none, none⟩

theorem test_met_PathLengthRounds :
    legSize diagonal.legs .x = 30000 ∧ legSize diagonal.legs .y = 40000 ∧ diagonal.legs.x.isSome = true := by decide

theorem test_met_PerMinuteTarget : 1 ≤ 1 ∧ 20000 ≤ 20000 ∧ 150 ≤ 150 := by decide

/-- A table of Section 4's X axis: c_1 is 10, c_31 12, c_32 20. -/
def xTable : CompRecord :=
  { CompRecord.afterReset with points := (((List.replicate 129 (0 : Int)).set 1 10).set 31 12).set 32 20 }

theorem test_met_PitchInterpolates :
    16 ≤ xTable.k ∧ xTable.k ≤ 22 ∧ xTable.points.length = 129 ∧ 32768 * 128 = 2 ^ xTable.k ∧ 127 < 128
      ∧ 32767 < 32768 := by decide +kernel

/-! ## Worked cases of the spec -/

/-- 3.3, the diagonal cut: L is 50,000 µm and L_n 50,000,000 nm. -/
theorem test_path_length : diagonal.length = 50000 ∧ diagonal.lengthN = 50000000 := by decide +kernel

/-- 3.5, the examples of target velocities. -/
theorem test_targets :
    uncappedVelocity .perMinute 600 100 0 = 20000 ∧ uncappedVelocity .perMinute 7 50 0 = 117
      ∧ runningTarget .perMinute 2000 100 0 62500 = 62500 ∧ uncappedVelocity .perRev 200 100 148 = 987
      ∧ uncappedVelocity .perRev 1 100 15 = 1 := by decide

/-- 4.2, the corrections on X. -/
theorem test_pitch : pitchAt xTable 10000 = 3 ∧ pitchAt xTable 9755 = 3 ∧ pitchAt xTable 1030000 = 15 := by
  decide +kernel

/-- A programmed speed and an override in range II. -/
def programmed (speed ovr : Nat) : State :=
  { geared with
    spindle := { geared.spindle with sProg := speed, motorMax := 1800 }
    pendant := { geared.pendant with spindleOverride := ovr } }

/-- 6.2, the examples of the commanded speed in range II. -/
theorem test_commanded_speed :
    (commandedSpeed (programmed 150 110) (programmed 150 110).spindle).1 = 165
      ∧ (commandedSpeed (programmed 170 120) (programmed 170 120).spindle).1 = 180
      ∧ (commandedSpeed (programmed 40 50) (programmed 40 50).spindle).1 = 30
      ∧ (commandedSpeed (programmed 37 110) (programmed 37 110).spindle).1 = 40 := by decide

/-- 6.3, the motor reference in range II: 3,754 for S_cmd 165 and motor_max 1,800. -/
theorem test_dac_target : roundUp (roundUp (165 * 10) 1 * 4095) 1800 = 3754 := by decide

/-- R2: 3,000 mm/min is 100,000 nm per period, 20,000 mm/min is 666,667. -/
theorem test_internal_forms : roundUp (3000 * 100) 3 = 100000 ∧ roundUp (20000 * 100) 3 = 666667 := by decide

/-- R194: the check value of polynomial 0x1021 from 0xFFFF over the digits 1 to 9. -/
theorem test_crc : crc16 [0x31, 0x32, 0x33, 0x34, 0x35, 0x36, 0x37, 0x38, 0x39] = 0x29B1 := by decide +kernel

/-- R194: the seven bytes of a Start order with tag 0x0102 begin with SYNC, KIND, the tag low byte first, and LEN. -/
theorem test_frame :
    (frameBytes 0x10 0x0102 []).take 5 = [0xA5, 0x10, 0x02, 0x01, 0x00] ∧ (frameBytes 0x10 0x0102 []).length = 7 := by
  decide +kernel

/-- R106: a union ceiling below the range min takes a low speed to the min and then to 0, and both steps changed it. -/
theorem test_clamped_to_zero : limitSpeed (some 29) table.ii 0 = (0, true) ∧ limitSpeed none table.ii 30 = (30, false) := by
  decide

/-- R160: chunk 3 is columns 11 to 20 of line 2. -/
theorem test_chunk :
    chunkText { ready.pendant with line2 := List.replicate 10 0x20#8 ++ List.replicate 10 0x41#8 } 3
      = List.replicate 10 0x41#8 := by decide

/-- R204: the payload lengths of ENTRY_DONE, FAULT, REFUSE and POSITION. -/
theorem test_payload_lengths :
    (Outgoing.event 1 false (.entryDone 2 .mark .completed)).payload.length = 5
      ∧ (Outgoing.event 1 true (.fault .raised (entry .overtravel (.axisEnd .b .minus) true))).payload.length = 10
      ∧ (Outgoing.reply (.refuse 1 .busy 0x10)).payload.length = 2
      ∧ (Outgoing.position 1 false (positionReport ready)).payload.length = 55 := by decide +kernel

/-- R204: an axis in a payload is 0 for X to 4 for B, in a fault's qualifier and in the axis selector. -/
theorem test_axis_values : qualifierField (.axis .z) = [2] ∧ selectorField (some .b) = [4] := by decide

/-- R118: SPINDLE_STOP with S_prog 0 has no effect at the Start behind it, though the entry passes its speed again. -/
theorem test_start_after_stop_at_zero :
    (resumeProgram (heldAt (.spindle 180 .cw none false) .starting true false geared)).planner.speedWait = false
      ∧ (resumeProgram (heldAt (.spindle 180 .cw none false) .starting true false turning)).planner.speedWait = true := by
  decide

/-- R106, R151: BLOCKED to OFF removes no ceiling, so the motor cap's speed_clamped stays as it is. -/
theorem test_no_ceiling_no_speed :
    (leaveTsc .off
        { turning with
          coolant := { turning.coolant with tsc := .blocked }
          spindle := { turning.spindle with phase := .reversing, speedClamped := true } }).spindle.speedClamped
      = true := by decide

end Sys2Proof.Tests
end

namespace Sys2Proof

theorem PerAxis.map_set {α β : Type} (f : α → β) (p : PerAxis α) (a : Axis) (v : α) :
    (p.set a v).map f = (p.map f).set a (f v) := by
  cases a <;> rfl

namespace Machine

/-! ## What only the planner and the axis commands change

`AxisUnit.still` forgets an axis's local motion and claim; the program is the queue and the move context. No operation of
the valve bank, the gears, the spindle, the coolant or the pendant touches either. -/

/-- An Axis Unit with its local motion and its planner claim forgotten. -/
def AxisUnit.still (u : AxisUnit) : AxisUnit :=
  { u with claim := false, motion := .idle, velocity := 0, p := 0, searchGoal := 0, demand := .stop }

theorem setAxis_still (s : State) (a : Axis) {u : AxisUnit} (h : u.still = (s.axis a).still) :
    (s.setAxis a u).axes.map AxisUnit.still = s.axes.map AxisUnit.still := by
  rw [State.setAxis_axes, PerAxis.map_set, h]
  exact (congrArg _ (PerAxis.get_map _ _ _).symm).trans (PerAxis.set_get _ _)

/-! ### Causes, coolant, spindle and gears keep the program -/

@[simp] theorem raiseCause_program (c : HoldCause) (s : State) :
    (raiseCause c s).planner.queue = s.planner.queue ∧ (raiseCause c s).planner.context = s.planner.context := by
  unfold raiseCause
  split <;> simp

@[simp] theorem dropCause_program (c : HoldCause) (s : State) :
    (dropCause c s).planner.queue = s.planner.queue ∧ (dropCause c s).planner.context = s.planner.context := by
  unfold dropCause
  split <;> simp

@[simp] theorem dropCauses_program (s : State) :
    (dropCauses s).planner.queue = s.planner.queue ∧ (dropCauses s).planner.context = s.planner.context := by
  simp [dropCauses]

@[simp] theorem noteFaultHold_program (s : State) :
    (noteFaultHold s).planner.queue = s.planner.queue ∧ (noteFaultHold s).planner.context = s.planner.context := by
  unfold noteFaultHold
  split <;> simp

@[simp] theorem spindleFaultActions_program (s : State) :
    (spindleFaultActions s).planner.queue = s.planner.queue
      ∧ (spindleFaultActions s).planner.context = s.planner.context := by
  simp [spindleFaultActions]

@[simp] theorem stopTsc_program (new : TscState) (s : State) :
    (stopTsc new s).planner.queue = s.planner.queue ∧ (stopTsc new s).planner.context = s.planner.context := by
  unfold stopTsc
  split <;> simp

@[simp] theorem startJudgement_program (s : State) :
    (startJudgement s).planner.queue = s.planner.queue ∧ (startJudgement s).planner.context = s.planner.context := by
  unfold startJudgement
  (repeat' split) <;> simp

@[simp] theorem placeTsc_program (s : State) :
    (placeTsc s).planner.queue = s.planner.queue ∧ (placeTsc s).planner.context = s.planner.context := by
  unfold placeTsc
  split <;> simp

@[simp] theorem moveTsc_program (s : State) :
    (moveTsc s).planner.queue = s.planner.queue ∧ (moveTsc s).planner.context = s.planner.context := by
  unfold moveTsc
  (repeat' split) <;> simp

@[simp] theorem setRequests_program (flood tsc : Bool) (s : State) :
    (setRequests flood tsc s).planner.queue = s.planner.queue
      ∧ (setRequests flood tsc s).planner.context = s.planner.context := by
  unfold setRequests
  split <;> simp

@[simp] theorem coolantRequest_program (m : CoolantMode) (s : State) :
    (coolantRequest m s).planner.queue = s.planner.queue
      ∧ (coolantRequest m s).planner.context = s.planner.context := by
  simp [coolantRequest]

@[simp] theorem floodToggle_program (s : State) :
    (floodToggle s).planner.queue = s.planner.queue ∧ (floodToggle s).planner.context = s.planner.context := by
  simp [floodToggle]

@[simp] theorem coolantChangeEnds_program (s : State) :
    (coolantChangeEnds s).planner.queue = s.planner.queue
      ∧ (coolantChangeEnds s).planner.context = s.planner.context := by
  unfold coolantChangeEnds
  split <;> simp

@[simp] theorem coolantRejudge_program (s : State) :
    (coolantRejudge s).planner.queue = s.planner.queue ∧ (coolantRejudge s).planner.context = s.planner.context := by
  unfold coolantRejudge
  split <;> simp

@[simp] theorem pressureFault_program (s : State) :
    (pressureFault s).planner.queue = s.planner.queue ∧ (pressureFault s).planner.context = s.planner.context := by
  simp [pressureFault]

@[simp] theorem tscReady_program (s : State) :
    (tscReady s).planner.queue = s.planner.queue ∧ (tscReady s).planner.context = s.planner.context := by
  simp [tscReady]

@[simp] theorem coolantRelease_program (s : State) :
    (coolantRelease s).planner.queue = s.planner.queue ∧ (coolantRelease s).planner.context = s.planner.context := by
  unfold coolantRelease
  dsimp only
  (repeat' split) <;> simp

@[simp] theorem settleChange_program (s : State) :
    (settleChange s).planner.queue = s.planner.queue ∧ (settleChange s).planner.context = s.planner.context := by
  unfold settleChange
  dsimp only
  split <;> simp

@[simp] theorem planFirst_program (s : State) :
    (planFirst s).planner.queue = s.planner.queue ∧ (planFirst s).planner.context = s.planner.context := by
  unfold planFirst
  split <;> simp

@[simp] theorem beginChange_program (t : GearTarget) (o : Owner) (s : State) :
    (beginChange t o s).planner.queue = s.planner.queue ∧ (beginChange t o s).planner.context = s.planner.context := by
  unfold beginChange
  dsimp only
  split <;> simp

@[simp] theorem gearFault_program (s : State) :
    (gearFault s).planner.queue = s.planner.queue ∧ (gearFault s).planner.context = s.planner.context := by
  unfold gearFault
  dsimp only
  split <;> simp

@[simp] theorem failedAttempt_program (s : State) :
    (failedAttempt s).planner.queue = s.planner.queue ∧ (failedAttempt s).planner.context = s.planner.context := by
  unfold failedAttempt
  dsimp only
  split <;> simp

@[simp] theorem strokeSucceeded_program (s : State) :
    (strokeSucceeded s).planner.queue = s.planner.queue ∧ (strokeSucceeded s).planner.context = s.planner.context := by
  unfold strokeSucceeded
  dsimp only
  (repeat' split) <;> simp

@[simp] theorem pauseEnds_program (s : State) :
    (pauseEnds s).planner.queue = s.planner.queue ∧ (pauseEnds s).planner.context = s.planner.context := by
  unfold pauseEnds
  dsimp only
  (repeat' split) <;> simp

@[simp] theorem retarget_program (t : GearTarget) (o : Owner) (s : State) :
    (retarget t o s).planner.queue = s.planner.queue ∧ (retarget t o s).planner.context = s.planner.context := by
  unfold retarget
  dsimp only
  split <;> simp

@[simp] theorem commandAtIdle_program (o : Owner) (speed : Nat) (forced : Option GearRange) (s : State) :
    (commandAtIdle o speed forced s).planner.queue = s.planner.queue
      ∧ (commandAtIdle o speed forced s).planner.context = s.planner.context := by
  unfold commandAtIdle
  (repeat' split) <;> simp

@[simp] theorem commandInChange_program (o : Owner) (speed : Nat) (forced : Option GearRange) (s : State) :
    (commandInChange o speed forced s).planner.queue = s.planner.queue
      ∧ (commandInChange o speed forced s).planner.context = s.planner.context := by
  unfold commandInChange
  (repeat' split) <;> simp

@[simp] theorem gearCommand_program (o : Owner) (speed : Nat) (forced : Option GearRange) (s : State) :
    (gearCommand o speed forced s).planner.queue = s.planner.queue
      ∧ (gearCommand o speed forced s).planner.context = s.planner.context := by
  unfold gearCommand
  split <;> simp

@[simp] theorem takeDeferred_program (s : State) :
    (takeDeferred s).planner.queue = s.planner.queue ∧ (takeDeferred s).planner.context = s.planner.context := by
  unfold takeDeferred
  split <;> simp

@[simp] theorem endAbortedChange_program (s : State) :
    (endAbortedChange s).planner.queue = s.planner.queue
      ∧ (endAbortedChange s).planner.context = s.planner.context := by
  simp [endAbortedChange]

@[simp] theorem gearAbort_program (s : State) :
    (gearAbort s).planner.queue = s.planner.queue ∧ (gearAbort s).planner.context = s.planner.context := by
  unfold gearAbort
  dsimp only
  (repeat' split) <;> simp

@[simp] theorem gearTrip_program (wasActive : Bool) (s : State) :
    (gearTrip wasActive s).planner.queue = s.planner.queue
      ∧ (gearTrip wasActive s).planner.context = s.planner.context := by
  unfold gearTrip
  dsimp only
  (repeat' split) <;> simp

@[simp] theorem forkOutcome_program (success : Bool) (s : State) :
    (forkOutcome success s).planner.queue = s.planner.queue
      ∧ (forkOutcome success s).planner.context = s.planner.context := by
  unfold forkOutcome
  (repeat' split) <;> simp

@[simp] theorem gearSlip_program (f : Fork) (s : State) :
    (gearSlip f s).planner.queue = s.planner.queue ∧ (gearSlip f s).planner.context = s.planner.context := by
  simp [gearSlip]

@[simp] theorem releaseGearbox_program (s : State) :
    (releaseGearbox s).planner.queue = s.planner.queue ∧ (releaseGearbox s).planner.context = s.planner.context := by
  unfold releaseGearbox
  split <;> simp

/-! ### The valve bank keeps the axes still and the program -/

@[simp] theorem endMotion_still (a : Axis) (s : State) :
    (endMotion a s).axes.map AxisUnit.still = s.axes.map AxisUnit.still := by
  exact setAxis_still s a rfl

@[simp] theorem axisStop_still (a : Axis) (s : State) :
    (axisStop a s).axes.map AxisUnit.still = s.axes.map AxisUnit.still := by
  unfold axisStop
  split <;> simp

@[simp] theorem endClampWait_still (a : Axis) (s : State) :
    (endClampWait a s).axes.map AxisUnit.still = s.axes.map AxisUnit.still := by
  unfold endClampWait
  split <;> simp

@[simp] theorem startMoving_still (a : Axis) (s : State) :
    (startMoving a s).axes.map AxisUnit.still = s.axes.map AxisUnit.still := by
  unfold startMoving
  split
  · exact setAxis_still s a rfl
  · split
    · rfl
    · exact setAxis_still s a rfl
  · rfl

@[simp] theorem releaseSucceeded_still (a : Axis) (s : State) :
    (releaseSucceeded a s).axes.map AxisUnit.still = s.axes.map AxisUnit.still := by
  unfold releaseSucceeded
  dsimp only
  split <;> simp

@[simp] theorem clampTimedOut_course (a : Axis) (s : State) :
    (clampTimedOut a s).axes.map AxisUnit.still = s.axes.map AxisUnit.still
      ∧ (clampTimedOut a s).planner.queue = s.planner.queue
      ∧ (clampTimedOut a s).planner.context = s.planner.context := by
  simp [clampTimedOut]

@[simp] theorem strokeEnds_course (k : Stroke) (success : Bool) (s : State) :
    (strokeEnds k success s).axes.map AxisUnit.still = s.axes.map AxisUnit.still
      ∧ (strokeEnds k success s).planner.queue = s.planner.queue
      ∧ (strokeEnds k success s).planner.context = s.planner.context := by
  unfold strokeEnds
  (repeat' split) <;> simp

@[simp] theorem settleStrokes_course (n : Nat) (s : State) :
    (settleStrokes n s).axes.map AxisUnit.still = s.axes.map AxisUnit.still
      ∧ (settleStrokes n s).planner.queue = s.planner.queue
      ∧ (settleStrokes n s).planner.context = s.planner.context := by
  induction n generalizing s with
  | zero => simp [settleStrokes]
  | succ n ih =>
    unfold settleStrokes
    split <;> simp [ih]

@[simp] theorem grantOpportunity_course (s : State) :
    (grantOpportunity s).axes.map AxisUnit.still = s.axes.map AxisUnit.still
      ∧ (grantOpportunity s).planner.queue = s.planner.queue
      ∧ (grantOpportunity s).planner.context = s.planner.context := by
  simp [grantOpportunity]

@[simp] theorem withOpportunity_course (f : State → State) (s : State) :
    (withOpportunity f s).axes.map AxisUnit.still = (f s).axes.map AxisUnit.still
      ∧ (withOpportunity f s).planner.queue = (f s).planner.queue
      ∧ (withOpportunity f s).planner.context = (f s).planner.context := by
  rcases withOpportunity_cases f s with ⟨_, e⟩ | ⟨_, e⟩ <;> simp [e]

@[simp] theorem askClamp_still (a : Axis) (s : State) :
    (askClamp a s).axes.map AxisUnit.still = s.axes.map AxisUnit.still := by
  unfold askClamp
  (repeat' split) <;> simp

@[simp] theorem askRelease_course (a : Axis) (s : State) :
    (askRelease a s).axes.map AxisUnit.still = s.axes.map AxisUnit.still
      ∧ (askRelease a s).planner.queue = s.planner.queue
      ∧ (askRelease a s).planner.context = s.planner.context := by
  unfold askRelease
  dsimp only
  (repeat' split) <;> simp

@[simp] theorem handSpeed_course (o : Owner) (speed : Nat) (forced : Option GearRange) (s : State) :
    (handSpeed o speed forced s).axes = s.axes ∧ (handSpeed o speed forced s).planner.queue = s.planner.queue
      ∧ (handSpeed o speed forced s).planner.context = s.planner.context := by
  simp [handSpeed]

@[simp] theorem spindleCommand_course (o : Owner) (speed : Nat) (d : Rotation) (forced : Option GearRange) (s : State) :
    (spindleCommand o speed d forced s).axes.map AxisUnit.still = s.axes.map AxisUnit.still
      ∧ (spindleCommand o speed d forced s).planner.queue = s.planner.queue
      ∧ (spindleCommand o speed d forced s).planner.context = s.planner.context := by
  unfold spindleCommand
  split <;> simp

/-! ### Jog demands and the pendant's withdrawal -/

@[simp] theorem giveDemand_course (a : Axis) (d : JogDemand) (s : State) :
    (giveDemand a d s).axes.map AxisUnit.still = s.axes.map AxisUnit.still
      ∧ (giveDemand a d s).planner.queue = s.planner.queue
      ∧ (giveDemand a d s).planner.context = s.planner.context := by
  have keep : ∀ u : AxisUnit, u.still = (s.axis a).still →
      (s.axes.set a u).map AxisUnit.still = s.axes.map AxisUnit.still := fun u h => setAxis_still s a h
  unfold giveDemand
  (repeat' split) <;> simp <;> exact keep _ rfl

@[simp] theorem giveStop_still (a : Axis) (s : State) :
    (giveStop a s).axes.map AxisUnit.still = s.axes.map AxisUnit.still := by
  unfold giveStop
  split
  case h_1 | h_5 => rfl
  all_goals exact setAxis_still s a rfl

@[simp] theorem stopIfJogged_still (a : Axis) (s : State) :
    (stopIfJogged a s).axes.map AxisUnit.still = s.axes.map AxisUnit.still := by
  unfold stopIfJogged
  split <;> simp

@[simp] theorem withdraw_still (s : State) :
    (withdraw s).axes.map AxisUnit.still = s.axes.map AxisUnit.still := by
  unfold withdraw
  split <;> simp [eachAxis]

end Machine
end Sys2Proof

namespace Sys2Proof.Machine

/-! ### Stops, aborts and trips keep the axes still and empty the program -/

@[simp] theorem releaseClaims_still (s : State) :
    (releaseClaims s).axes.map AxisUnit.still = s.axes.map AxisUnit.still := by
  refine PerAxis.ext_get fun a => ?_
  simp [releaseClaims, AxisUnit.still]

@[simp] theorem headLeaves_still (o : EntryOutcome) (s : State) :
    (headLeaves o s).axes.map AxisUnit.still = s.axes.map AxisUnit.still := by
  unfold headLeaves
  split <;> simp

/-- The head leaves with its move context; an empty queue has none to leave. -/
theorem headLeaves_program (o : EntryOutcome) (s : State) :
    (headLeaves o s).planner.queue = s.planner.queue.tail
      ∧ (s.planner.queue ≠ [] → (headLeaves o s).planner.context = none)
      ∧ (s.planner.queue = [] → headLeaves o s = s) := by
  unfold headLeaves
  split
  · next h => simp [h]
  · next e rest h => simp [h]

@[simp] theorem enterIdle_program (s : State) :
    (enterIdle s).planner.queue = s.planner.queue ∧ (enterIdle s).planner.context = s.planner.context := by
  simp [enterIdle]

@[simp] theorem completeEntry_still (s : State) :
    (completeEntry s).axes.map AxisUnit.still = s.axes.map AxisUnit.still := by
  unfold completeEntry
  split <;> simp

theorem completeEntry_program (s : State) :
    (completeEntry s).planner.queue = s.planner.queue.tail
      ∧ (s.planner.queue ≠ [] → (completeEntry s).planner.context = none)
      ∧ (s.planner.queue = [] → (completeEntry s).planner.context = s.planner.context) := by
  obtain ⟨hq, hc, he⟩ := headLeaves_program .completed s
  unfold completeEntry
  split <;> simp +contextual [hq, hc, he]

@[simp] theorem completeAbort_still (headLeft : Bool) (s : State) :
    (completeAbort headLeft s).axes.map AxisUnit.still = s.axes.map AxisUnit.still := by
  cases headLeft <;> simp [completeAbort]

/-- An abort that completes leaves an idle planner with no program. -/
@[simp] theorem completeAbort_planner (headLeft : Bool) (s : State) :
    (completeAbort headLeft s).planner = idlePlanner [] := by
  simp [completeAbort, enterIdle, flushQueue, idlePlanner]

@[simp] theorem immediateStop_still (s : State) :
    (immediateStop s).axes.map AxisUnit.still = s.axes.map AxisUnit.still := by
  simp [immediateStop, eachAxis]

@[simp] theorem immediateStop_planner (s : State) : (immediateStop s).planner = idlePlanner [] := by
  simp [immediateStop]

@[simp] theorem takeTrip_still (s : State) :
    (takeTrip s).axes.map AxisUnit.still = s.axes.map AxisUnit.still := by
  simp [takeTrip, eachAxis]

@[simp] theorem takeTrip_program (s : State) :
    (takeTrip s).planner.queue = [] ∧ (takeTrip s).planner.context = none := by
  simp [takeTrip, idlePlanner]

@[simp] theorem trip_still (c : FaultCode) (s : State) :
    (trip c s).axes.map AxisUnit.still = s.axes.map AxisUnit.still := by
  simp [trip]

@[simp] theorem trip_program (c : FaultCode) (s : State) :
    (trip c s).planner.queue = [] ∧ (trip c s).planner.context = none := by
  simp [trip]

@[simp] theorem abortReference_still (a : Axis) (s : State) :
    (abortReference a s).axes.map AxisUnit.still = s.axes.map AxisUnit.still := by
  unfold abortReference
  split
  · simp
  · exact setAxis_still s a rfl
  all_goals rfl

/-! ### Start actions -/

@[simp] theorem claimAxis_course (legs : PerAxis (Option Leg)) (a : Axis) (s : State) :
    (claimAxis legs a s).axes.map AxisUnit.still = s.axes.map AxisUnit.still
      ∧ (claimAxis legs a s).planner.queue = s.planner.queue
      ∧ (claimAxis legs a s).planner.context = s.planner.context := by
  have claim := setAxis_still s a (u := { s.axis a with claim := true }) rfl
  unfold claimAxis
  split <;> simp_all

@[simp] theorem claimAxes_course (s : State) :
    (claimAxes s).axes.map AxisUnit.still = s.axes.map AxisUnit.still
      ∧ (claimAxes s).planner.queue = s.planner.queue ∧ (claimAxes s).planner.context = s.planner.context := by
  unfold claimAxes
  split <;> simp [eachAxis]

@[simp] theorem fixContext_queue (targets : PerAxis (Option Int)) (s : State) :
    (fixContext targets s).planner.queue = s.planner.queue := by
  unfold fixContext
  split <;> rfl

@[simp] theorem armWait_program (m : CoolantMode) (wait : Bool) (s : State) :
    (armWait m wait s).planner.queue = s.planner.queue ∧ (armWait m wait s).planner.context = s.planner.context := by
  unfold armWait
  split <;> simp

@[simp] theorem startActions_still (s : State) :
    (startActions s).axes.map AxisUnit.still = s.axes.map AxisUnit.still
      ∧ (startActions s).planner.queue = s.planner.queue := by
  unfold startActions
  (repeat' split) <;> simp

/-- The start actions keep the move context, but that a MOVE at the head fixes one where there is none. -/
theorem startActions_context (s : State) :
    (startActions s).planner.context = s.planner.context
      ∨ ∃ e rest targets m f, s.planner.queue = e :: rest ∧ e.body = .move targets m f
          ∧ (startActions s).planner.context = some (newContext s targets) := by
  unfold startActions
  split
  · exact .inl rfl
  · next e rest hq =>
    split
    · next targets m f hb =>
      cases hc : s.planner.context with
      | some c => exact .inl (by simp [fixContext, hc])
      | none => exact .inr ⟨e, rest, targets, m, f, hq, hb, by simp [fixContext, hc]⟩
    all_goals exact .inl (by simp)

@[simp] theorem raiseIf_program (b : Bool) (c : HoldCause) (s : State) :
    (raiseIf b c s).planner.queue = s.planner.queue ∧ (raiseIf b c s).planner.context = s.planner.context := by
  unfold raiseIf
  split <;> simp

@[simp] theorem startChecks_program (s : State) :
    (startChecks s).planner.queue = s.planner.queue ∧ (startChecks s).planner.context = s.planner.context := by
  simp [startChecks]

@[simp] theorem dropOperatorCauses_program (s : State) :
    (dropOperatorCauses s).planner.queue = s.planner.queue
      ∧ (dropOperatorCauses s).planner.context = s.planner.context := ⟨rfl, rfl⟩

/-! ## Travel

`TravelSafe` is a fact about each Axis Unit and a fact about the program; the axis part reads four fields. -/

/-- The fields of an Axis Unit that its travel is judged by. -/
def AxisUnit.travel (u : AxisUnit) : Option AxisParams × Bool × Mode × Int :=
  (u.params, u.referenced, u.mode, u.commanded)

/-- What `TravelSafe` asks of an Axis Unit. -/
def AxisSafe (u : AxisUnit) : Prop :=
  (u.referenced = true → u.configured = true ∧ (u.mode ≠ .parked → withinSoft u u.commanded = true))
    ∧ ∀ p, u.params = some p → p.softMin < p.softMax ∧ p.softMin ≤ p.refValue ∧ p.refValue ≤ p.softMax

/-- What `TravelSafe` asks of a queue. -/
def QueueSafe (s : State) : Prop :=
  ∀ e ∈ s.planner.queue, ∀ targets m f, e.body = .move targets m f →
    ∀ a x, targets.get a = some x → Reachable (s.axis a) x

/-- What `TravelSafe` asks of a move context. -/
def ContextSafe (s : State) (c : MoveContext) : Prop :=
  c.travelled ≤ c.lengthN ∧ c.lengthN = c.length * 1000
    ∧ ∀ a l, c.legs.get a = some l → Reachable (s.axis a) l.start ∧ Reachable (s.axis a) l.target

theorem travelSafe_iff (s : State) :
    TravelSafe s ↔
      (∀ a, AxisSafe (s.axis a)) ∧ QueueSafe s
        ∧ ∀ c, s.planner.context = some c → s.planner.queue ≠ [] ∧ ContextSafe s c := by
  constructor
  · rintro ⟨hr, hp, hq, hc⟩
    exact ⟨fun a => ⟨hr a, hp a⟩, hq, hc⟩
  · rintro ⟨ha, hq, hc⟩
    exact ⟨fun a => (ha a).1, fun a => (ha a).2, hq, hc⟩

theorem AxisSafe.of_travel {u v : AxisUnit} (h : AxisSafe u) (e : v.travel = u.travel) : AxisSafe v := by
  simp only [AxisUnit.travel, Prod.mk.injEq] at e
  obtain ⟨hp, hr, hm, hc⟩ := e
  simpa [AxisSafe, AxisUnit.configured, withinSoft, hp, hr, hm, hc] using h

theorem Reachable.of_travel {u v : AxisUnit} {x : Int} (h : Reachable u x) (e : v.travel = u.travel) :
    Reachable v x := by
  simp only [AxisUnit.travel, Prod.mk.injEq] at e
  obtain ⟨hp, hr, hm, -⟩ := e
  simpa [Reachable, withinSoft, hp, hr, hm] using h

/-- An axis that keeps its safety and every position it could reach, with the same program. -/
theorem TravelSafe.of_axes {s t : State} (h : TravelSafe s) (ha : ∀ a, AxisSafe (t.axis a))
    (hr : ∀ a x, Reachable (s.axis a) x → Reachable (t.axis a) x) (hq : t.planner.queue = s.planner.queue)
    (hc : t.planner.context = s.planner.context) : TravelSafe t := by
  obtain ⟨-, kq, kc⟩ := (travelSafe_iff s).mp h
  refine (travelSafe_iff t).mpr ⟨ha, ?_, ?_⟩
  · intro e he targets m f hb a x hx
    exact hr a x (kq e (hq ▸ he) targets m f hb a x hx)
  · intro c hcc
    obtain ⟨hn, ht, hl, hlegs⟩ := kc c (hc ▸ hcc)
    refine ⟨hq ▸ hn, ht, hl, fun a l e => ?_⟩
    exact ⟨hr a _ (hlegs a l e).1, hr a _ (hlegs a l e).2⟩

/-- With no program only the axes matter. -/
theorem TravelSafe.of_noProgram {t : State} (ha : ∀ a, AxisSafe (t.axis a)) (hq : t.planner.queue = [])
    (hc : t.planner.context = none) : TravelSafe t :=
  (travelSafe_iff t).mpr ⟨ha, by simp [QueueSafe, hq], by simp [hc]⟩

theorem TravelSafe.axisSafe {s : State} (h : TravelSafe s) (a : Axis) : AxisSafe (s.axis a) :=
  ((travelSafe_iff s).mp h).1 a

theorem TravelSafe.of_travel {s t : State} (h : TravelSafe s) (ha : ∀ a, (t.axis a).travel = (s.axis a).travel)
    (hq : t.planner.queue = s.planner.queue) (hc : t.planner.context = s.planner.context) : TravelSafe t :=
  h.of_axes (fun a => (h.axisSafe a).of_travel (ha a)) (fun a _ k => k.of_travel (ha a)) hq hc

/-- Axes that stand still have the travel they had. -/
theorem travel_eq_of_still {s t : State} (h : t.axes.map AxisUnit.still = s.axes.map AxisUnit.still) (a : Axis) :
    (t.axis a).travel = (s.axis a).travel := by
  have ha := congrArg (fun p => (PerAxis.get p a).travel) h
  simpa [AxisUnit.still, AxisUnit.travel, State.axis] using ha

theorem TravelSafe.of_still {s t : State} (h : TravelSafe s)
    (ha : t.axes.map AxisUnit.still = s.axes.map AxisUnit.still) (hq : t.planner.queue = s.planner.queue)
    (hc : t.planner.context = s.planner.context) : TravelSafe t :=
  h.of_travel (travel_eq_of_still ha) hq hc

theorem TravelSafe.of_still_noProgram {s t : State} (h : TravelSafe s)
    (ha : t.axes.map AxisUnit.still = s.axes.map AxisUnit.still) (hq : t.planner.queue = [])
    (hc : t.planner.context = none) : TravelSafe t :=
  .of_noProgram (fun a => (h.axisSafe a).of_travel (travel_eq_of_still ha a)) hq hc

/-- One axis replaced by a safe one that can reach what it could. -/
theorem TravelSafe.setAxis {s : State} (h : TravelSafe s) {a : Axis} {u : AxisUnit} (ha : AxisSafe u)
    (hr : ∀ x, Reachable (s.axis a) x → Reachable u x) : TravelSafe (s.setAxis a u) := by
  refine h.of_axes (fun c => ?_) (fun c x k => ?_) rfl rfl
  · by_cases hc : c = a
    · subst hc; simpa using ha
    · rw [State.setAxis_axis_ne _ _ hc]; exact h.axisSafe c
  · by_cases hc : c = a
    · subst hc; simpa using hr x k
    · rw [State.setAxis_axis_ne _ _ hc]; exact k

/-- One axis replaced by a safe one where there is no program. -/
theorem TravelSafe.setAxis_noProgram {s : State} (h : TravelSafe s) {a : Axis} {u : AxisUnit} (ha : AxisSafe u)
    (hq : s.planner.queue = []) (hc : s.planner.context = none) : TravelSafe (s.setAxis a u) := by
  refine .of_noProgram (fun c => ?_) hq hc
  by_cases hc : c = a
  · subst hc; simpa using ha
  · rw [State.setAxis_axis_ne _ _ hc]; exact h.axisSafe c

/-- An empty queue has no move context. -/
theorem TravelSafe.context_none {s : State} (h : TravelSafe s) (hq : s.planner.queue = []) :
    s.planner.context = none := by
  cases hc : s.planner.context with
  | none => rfl
  | some c => exact absurd hq (((travelSafe_iff s).mp h).2.2 c hc).1

/-- The head leaves a safe program safe. -/
theorem TravelSafe.of_tail {s t : State} (h : TravelSafe s)
    (ha : t.axes.map AxisUnit.still = s.axes.map AxisUnit.still)
    (hq : t.planner.queue = s.planner.queue.tail) (hc : s.planner.queue ≠ [] → t.planner.context = none)
    (he : s.planner.queue = [] → t.planner.context = s.planner.context) : TravelSafe t := by
  have hnone : t.planner.context = none := by
    by_cases hs : s.planner.queue = []
    · rw [he hs, h.context_none hs]
    · exact hc hs
  obtain ⟨-, kq, -⟩ := (travelSafe_iff s).mp h
  refine (travelSafe_iff t).mpr ⟨fun a => (h.axisSafe a).of_travel (travel_eq_of_still ha a), ?_, by simp [hnone]⟩
  intro e hm targets m f hb a x hx
  exact (kq e (List.mem_of_mem_tail (hq ▸ hm)) targets m f hb a x hx).of_travel (travel_eq_of_still ha a)

end Sys2Proof.Machine

namespace Sys2Proof.Machine

/-! ## Axis operations keep travel safe -/

/-- What holds after each axis's turn holds after all of them. -/
theorem eachAxis_keeps {P : State → Prop} {f : Axis → State → State} (h : ∀ a s, P s → P (f a s)) {s : State}
    (hs : P s) : P (eachAxis f s) :=
  h _ _ (h _ _ (h _ _ (h _ _ (h _ _ hs))))

theorem AxisSafe.unreferenced {u v : AxisUnit} (h : AxisSafe u) (hp : v.params = u.params)
    (hr : v.referenced = false) : AxisSafe v :=
  ⟨by simp [hr], by rw [hp]; exact h.2⟩

theorem AxisSafe.seated {u v : AxisUnit} (h : AxisSafe u) (hp : v.params = u.params)
    (hr : v.referenced = true → u.configured = true ∧ withinSoft u v.commanded = true) : AxisSafe v := by
  refine ⟨fun k => ?_, by rw [hp]; exact h.2⟩
  have hu := hr k
  simp only [AxisUnit.configured, withinSoft] at hu ⊢
  rw [hp]
  exact ⟨hu.1, fun _ => hu.2⟩

theorem TravelSafe.setComp {s : State} (h : TravelSafe s) (a : Axis) (c : CompRecord) : TravelSafe (s.setComp a c) :=
  h.of_still rfl rfl rfl

theorem TravelSafe.seatComp {s : State} (h : TravelSafe s) (a : Axis) : TravelSafe (seatComp a s) :=
  h.setComp a _

theorem TravelSafe.raiseFault {s : State} (h : TravelSafe s) (c : FaultCode) (q : Qualifier) :
    TravelSafe (raiseFault c q s) :=
  h.of_still (by simp) (by simp) (by simp)

theorem TravelSafe.immediateStop {s : State} (h : TravelSafe s) : TravelSafe (immediateStop s) :=
  h.of_still_noProgram (by simp) (by simp [idlePlanner]) (by simp [idlePlanner])

/-- An axis loses its reference where there is no program. -/
theorem TravelSafe.loseReference {s : State} (h : TravelSafe s) (a : Axis) (hq : s.planner.queue = []) :
    TravelSafe (loseReference a s) := by
  unfold Machine.loseReference
  split
  · refine TravelSafe.seatComp ?_ a
    exact h.setAxis_noProgram ((h.axisSafe a).unreferenced rfl rfl) hq (h.context_none hq)
  · exact h

theorem TravelSafe.axisFault {s : State} (h : TravelSafe s) (c : FaultCode) (a : Axis) :
    TravelSafe (axisFault c a s) :=
  ((h.raiseFault c _).immediateStop).loseReference a (by simp [idlePlanner])

theorem TravelSafe.driveFaultIfActive {s : State} (h : TravelSafe s) (a : Axis) :
    TravelSafe (driveFaultIfActive a s) := by
  unfold Machine.driveFaultIfActive
  split
  · exact h.axisFault _ a
  · exact h

/-- A change that keeps an axis's travel. -/
theorem TravelSafe.setAxis_travel {s : State} (h : TravelSafe s) {a : Axis} {u : AxisUnit}
    (hu : u.travel = (s.axis a).travel) : TravelSafe (s.setAxis a u) :=
  h.setAxis ((h.axisSafe a).of_travel hu) fun _ k => k.of_travel hu

@[simp] theorem putLatch_travel (u : AxisUnit) (d : Sign) (v : Bool) : (u.putLatch d v).travel = u.travel := by
  cases d <;> rfl

@[simp] theorem putSwitch_travel (u : AxisUnit) (d : Sign) (v : Bool) : (u.putSwitch d v).travel = u.travel := by
  cases d <;> rfl

theorem TravelSafe.overtravelOpens {s : State} (h : TravelSafe s) (a : Axis) (d : Sign) :
    TravelSafe (overtravelOpens a d s) :=
  ((h.raiseFault _ _).setAxis_travel (putLatch_travel _ _ _)).immediateStop

theorem TravelSafe.overtravelIfOpen {s : State} (h : TravelSafe s) (a : Axis) (d : Sign) :
    TravelSafe (overtravelIfOpen a d s) := by
  unfold Machine.overtravelIfOpen
  split
  · exact h.overtravelOpens a d
  · exact h

/-! ### Set Axis -/

/-- A record that Set Axis reads has its soft limits in order and ref_value between them (R1). -/
theorem setAxisOperand_checked {bytes : List Byte} {a : Axis} {p : AxisParams}
    (h : setAxisOperand bytes = some (a, p)) :
    p.inRange a = true ∧ p.allowanceFits = true ∧ ∃ d fitted, p = axisRecord bytes d fitted := by
  simp only [setAxisOperand, checkedRecord, Option.bind_eq_bind, Option.bind_eq_some_iff, Option.some.injEq,
    Prod.mk.injEq, Option.ite_none_right_eq_some, Bool.and_eq_true] at h
  obtain ⟨c, -, d, -, fitted, -, r, ⟨⟨hr, hf⟩, e⟩, hc, hp⟩ := h
  subst hc hp e
  exact ⟨hr, hf, d, fitted, rfl⟩

/-- A record in force keeps travel safe where its axis is in its limits, if referenced, and there is no program. -/
theorem TravelSafe.placeRecord {s : State} (h : TravelSafe s) {a : Axis} {p : AxisParams}
    (hp : p.softMin < p.softMax ∧ p.softMin ≤ p.refValue ∧ p.refValue ≤ p.softMax)
    (hr : (s.axis a).referenced = true → p.softMin ≤ (s.axis a).commanded ∧ (s.axis a).commanded ≤ p.softMax)
    (hq : s.planner.queue = []) : TravelSafe (placeRecord a p s) := by
  have hu : AxisSafe { s.axis a with params := some p } :=
    ⟨fun k => ⟨rfl, fun _ => by simpa [withinSoft] using hr k⟩, fun q hq => by cases hq; exact hp⟩
  have ht := h.setAxis_noProgram (a := a) hu hq (h.context_none hq)
  unfold Machine.placeRecord
  split
  · exact ht.of_still rfl rfl rfl
  · exact ht

theorem TravelSafe.acceptAxis {s : State} (h : TravelSafe s) {bytes : List Byte} {a : Axis} {p : AxisParams}
    (ho : setAxisOperand bytes = some (a, p)) (hb : setAxisBusy a p s = false) : TravelSafe (acceptAxis a p s) := by
  obtain ⟨hrange, -, -⟩ := setAxisOperand_checked ho
  simp only [AxisParams.inRange, Bool.and_eq_true, decide_eq_true_eq] at hrange
  simp only [setAxisBusy, Bool.or_eq_false_iff] at hb
  obtain ⟨⟨⟨⟨-, hqueue⟩, -⟩, -⟩, hold⟩ := hb
  have hq : s.planner.queue = [] := by simpa using hqueue
  have hp : TravelSafe (Machine.placeRecord a p s) := by
    refine h.placeRecord (by omega) (fun k => ?_) hq
    have hconf := ((h.axisSafe a).1 k).1
    cases hpar : (s.axis a).params with
    | none => simp [AxisUnit.configured, hpar] at hconf
    | some old =>
      simp only [hpar, k, Bool.true_and, Bool.or_eq_false_iff, Bool.not_eq_false', decide_eq_true_eq] at hold
      exact hold.1.2
  unfold Machine.acceptAxis
  split
  · exact hp
  · exact ((hp.overtravelIfOpen a .plus).overtravelIfOpen a .minus).driveFaultIfActive a

/-! ### Modes -/

/-- Positions set to the measured one at an axis that keeps no reference, or is PARKED. -/
theorem TravelSafe.followMeasured {s : State} (h : TravelSafe s) (a : Axis)
    (hr : (s.axis a).referenced = true → (s.axis a).mode = .parked) : TravelSafe (followMeasured a s) := by
  refine h.setAxis ⟨fun k => ⟨((h.axisSafe a).1 k).1, fun n => absurd (hr k) n⟩, (h.axisSafe a).2⟩ fun x k => ?_
  simpa [Reachable, withinSoft] using k

/-- A re-seated axis lies in its soft limits or loses its reference (R17); the modes change with no program. -/
theorem TravelSafe.reseat {s t : State} {a : Axis} {u : AxisUnit} (h : TravelSafe s) (ht : t = s.setAxis a u)
    (hp : u.params = (s.axis a).params) (hr : u.referenced = true → (s.axis a).configured = true)
    (hq : s.planner.queue = []) : TravelSafe (reseat a t) := by
  have hn := h.context_none hq
  have hu : AxisSafe (s.axis a) := h.axisSafe a
  subst ht
  unfold Machine.reseat
  simp only [State.setAxis_axis_same, State.setAxis_setAxis]
  split
  · next href =>
    split
    · next hin =>
      refine TravelSafe.seatComp ?_ a
      refine h.setAxis_noProgram (hu.seated hp fun _ => ⟨hr href, ?_⟩) hq hn
      simpa [withinSoft, hp] using hin
    · refine TravelSafe.seatComp ?_ a
      unfold Machine.followMeasured
      simp only [State.setAxis_axis_same, State.setAxis_setAxis]
      exact h.setAxis_noProgram (hu.unreferenced hp rfl) hq hn
  · next href => exact h.setAxis_noProgram (hu.unreferenced hp (by simpa using href)) hq hn

theorem TravelSafe.grantOpportunity {s : State} (h : TravelSafe s) : TravelSafe (grantOpportunity s) :=
  h.of_still (by simp) (by simp) (by simp)

theorem TravelSafe.parkClamp {s : State} (h : TravelSafe s) (a : Axis) : TravelSafe (parkClamp a s) := by
  unfold Machine.parkClamp
  split
  · exact h.of_still (by simp) (by simp) (by simp)
  · exact h

theorem TravelSafe.enterParked {s : State} (h : TravelSafe s) (a : Axis) (hq : s.planner.queue = []) :
    TravelSafe (enterParked a s) := by
  have hu := h.axisSafe a
  have hpark : TravelSafe (s.setAxis a { s.axis a with mode := .parked }) :=
    h.setAxis_noProgram ⟨fun k => ⟨(hu.1 k).1, fun n => absurd rfl n⟩, hu.2⟩ hq (h.context_none hq)
  exact ((hpark.followMeasured a fun _ => by simp).seatComp a).parkClamp a

theorem TravelSafe.leaveParked {s : State} (h : TravelSafe s) (a : Axis) (hq : s.planner.queue = []) :
    TravelSafe (leaveParked a s) :=
  (h.reseat (u := { s.axis a with mode := .normal }) rfl rfl (fun k => ((h.axisSafe a).1 k).1) hq).driveFaultIfActive a

theorem TravelSafe.enterLoop {s : State} (h : TravelSafe s) (a : Axis) (hm : (s.axis a).mode = .normal)
    (hq : s.planner.queue = []) : TravelSafe (enterLoop a s) := by
  have hu := h.axisSafe a
  refine TravelSafe.seatComp ?_ a
  refine h.setAxis_noProgram (hu.seated rfl fun k => ?_) hq (h.context_none hq)
  exact ⟨(hu.1 k).1, (hu.1 k).2 (by simp [hm])⟩

theorem TravelSafe.leaveLoop {s : State} (h : TravelSafe s) (a : Axis) (hconf : (s.axis a).configured = true)
    (hq : s.planner.queue = []) : TravelSafe (leaveLoop a s) := by
  refine TravelSafe.driveFaultIfActive ?_ a
  dsimp only
  split
  · exact h.reseat rfl rfl (fun _ => hconf) hq
  · next href =>
    refine TravelSafe.seatComp (TravelSafe.followMeasured ?_ a fun k => absurd k href) a
    refine h.setAxis_noProgram ((h.axisSafe a).unreferenced rfl ?_) hq (h.context_none hq)
    simpa using href

theorem TravelSafe.takePark {s : State} (h : TravelSafe s) (x : Axis × Bool) (hq : s.planner.queue = []) :
    TravelSafe (takePark x s) := by
  unfold Machine.takePark
  split
  · exact h.enterParked _ hq
  · exact h.leaveParked _ hq
  all_goals exact h

theorem TravelSafe.takeLoop {s : State} (h : TravelSafe s) (x : Axis × Bool)
    (hconf : (s.axis x.1).configured = true) (hq : s.planner.queue = []) : TravelSafe (takeLoop x s) := by
  unfold Machine.takeLoop
  split
  · next hm _ => exact h.enterLoop _ hm hq
  · exact h.leaveLoop _ hconf hq
  all_goals exact h

/-! ### Reference runs -/

/-- An axis seated at ref_value is in its soft limits (R1). -/
theorem TravelSafe.seatedAtRef {s : State} (h : TravelSafe s) {a : Axis} {p : AxisParams} {u : AxisUnit}
    (hp : (s.axis a).params = some p) (hup : u.params = some p) (hm : u.mode = (s.axis a).mode)
    (hr : u.referenced = true) (hc : u.commanded = p.refValue) : TravelSafe (s.setAxis a u) := by
  have hu := h.axisSafe a
  refine h.setAxis (hu.seated (hup.trans hp.symm) fun _ => ?_) fun x k => ?_
  · exact ⟨by simp [AxisUnit.configured, hp], by simpa [withinSoft, hp, hc] using (hu.2 p hp).2⟩
  · simp only [Reachable, withinSoft, hp, hup, hm, hr] at k ⊢
    exact ⟨rfl, trivial, k.2.2⟩

theorem TravelSafe.takeMark {s : State} (h : TravelSafe s) (a : Axis) : TravelSafe (takeMark a s) := by
  unfold Machine.takeMark
  split
  · exact h
  · next p hp =>
    split
    · refine TravelSafe.seatComp ?_ a
      exact h.seatedAtRef hp hp rfl rfl rfl
    · exact h

theorem TravelSafe.takeReference {s : State} (h : TravelSafe s) (a : Axis) (hq : s.planner.queue = []) :
    TravelSafe (takeReference a s) := by
  unfold Machine.takeReference
  split
  · exact h
  · next p hp =>
    split
    · refine TravelSafe.seatComp ?_ a
      exact h.seatedAtRef hp hp rfl rfl rfl
    · refine ((h.loseReference a hq).setAxis_travel (a := a)
        (u := { (Machine.loseReference a s).axis a with motion := .reference .clampWait, velocity := 0 }) rfl).of_still
        ?_ ?_ ?_ <;> simp [referenceNormal]

end Sys2Proof.Machine

namespace Sys2Proof.Machine

/-! ## Path and program keep travel safe -/

/-- Rounding never goes beyond a whole bound. -/
theorem roundUp_le {n d b : Nat} (h : n ≤ b * d) : roundUp n d ≤ b := by
  unfold roundUp
  rcases Nat.eq_zero_or_pos d with hd | hd
  · simp [hd]
  · rw [Nat.div_le_iff_le_mul_add_pred (by omega)]
    have : 2 * d * b = 2 * (b * d) := by ring
    omega

/-- A leg's position on a path that is not overrun lies between its ends (R64). -/
theorem legPosition_between (l : Leg) {travelled lengthN : Nat} (h : travelled ≤ lengthN) :
    min l.start l.target ≤ legPosition l travelled lengthN
      ∧ legPosition l travelled lengthN ≤ max l.start l.target := by
  have hround : roundUp (l.d * travelled).natAbs lengthN ≤ l.d.natAbs :=
    roundUp_le (by rw [Int.natAbs_mul]; exact Nat.mul_le_mul_left _ h)
  have hd : l.d = l.target - l.start := rfl
  have hsign : 0 ≤ l.d → 0 ≤ l.d * travelled := fun k => Int.mul_nonneg k (by omega)
  have hneg : l.d < 0 → l.d * travelled ≤ 0 := fun k => Int.mul_nonpos_of_nonpos_of_nonneg (by omega) (by omega)
  unfold legPosition roundAway
  split
  · next hn =>
    rcases Int.lt_or_le l.d 0 with k | k
    · have hz : l.d * travelled = 0 := le_antisymm (hneg k) hn
      have : roundUp (l.d * travelled).natAbs lengthN = 0 := by
        have := roundUp_le (n := (l.d * travelled).natAbs) (d := lengthN) (b := 0) (by simp [hz])
        omega
      omega
    · omega
  · next hn =>
    have : l.d < 0 := by
      by_contra k
      exact hn (hsign (by omega))
    omega

theorem withinSoft_between {u : AxisUnit} {x y z : Int} (hx : withinSoft u x = true) (hy : withinSoft u y = true)
    (h1 : min x y ≤ z) (h2 : z ≤ max x y) : withinSoft u z = true := by
  unfold withinSoft at *
  split
  · rfl
  · next p hp =>
    simp only [hp, decide_eq_true_eq] at *
    omega

@[simp] theorem distribute_axis (c : MoveContext) (s : State) (a : Axis) :
    (distribute c s).axis a = { s.axis a with commanded := distributed c a (s.axis a).commanded } := by
  simp [distribute, State.axis]

/-- Positions taken from a safe context keep travel safe (R64, R65). -/
theorem TravelSafe.distribute {s : State} (h : TravelSafe s) {c : MoveContext} (hc : ContextSafe s c)
    (hq : s.planner.queue ≠ []) : TravelSafe (distribute c s) := by
  obtain ⟨-, kq, -⟩ := (travelSafe_iff s).mp h
  have reach : ∀ a x, Reachable (s.axis a) x → Reachable ((Machine.distribute c s).axis a) x := by
    intro a x k
    rw [distribute_axis]
    simpa [Reachable, withinSoft] using k
  refine (travelSafe_iff _).mpr ⟨fun a => ?_, ?_, ?_⟩
  · rw [distribute_axis]
    refine ⟨fun k => ⟨((h.axisSafe a).1 k).1, fun n => ?_⟩, (h.axisSafe a).2⟩
    simp only [distributed]
    split
    · exact ((h.axisSafe a).1 k).2 n
    · next l hl =>
      obtain ⟨hs, ht⟩ := hc.2.2 a l hl
      exact withinSoft_between hs.2.2.2 ht.2.2.2 (legPosition_between l hc.1).1 (legPosition_between l hc.1).2
  · intro e he targets m f hb a x hx
    exact reach a x (kq e he targets m f hb a x hx)
  · intro d hd
    cases hd
    exact ⟨hq, hc.1, hc.2.1, fun a l hl => ⟨reach a _ (hc.2.2 a l hl).1, reach a _ (hc.2.2 a l hl).2⟩⟩

theorem ContextSafe.step {s : State} {c : MoveContext} (h : ContextSafe s c) (target : Nat) (limiter : Limiter) :
    ContextSafe s (stepContext c target limiter) := by
  obtain ⟨ht, hl, hlegs⟩ := h
  refine ⟨?_, hl, hlegs⟩
  simp only [stepContext]
  omega

theorem TravelSafe.pathStep {s : State} (h : TravelSafe s) (mode : FeedMode) (feed : Nat) {c : MoveContext}
    (hc : s.planner.context = some c) : TravelSafe (pathStep mode feed c s) := by
  obtain ⟨hq, hs⟩ := ((travelSafe_iff s).mp h).2.2 c hc
  unfold Machine.pathStep
  split
  · exact h.distribute (hs.step _ _) hq
  · exact h.distribute (hs.step _ _) hq

theorem TravelSafe.activeWork {s : State} (h : TravelSafe s) : TravelSafe (activeWork s).1 := by
  unfold Machine.activeWork
  split
  · exact h
  · unfold moveWork
    split
    · exact h
    · next c hc =>
      split
      · exact h
      · exact h.pathStep _ _ hc
  · exact h.of_still rfl rfl rfl
  all_goals exact h

/-- The context that a MOVE of a safe queue fixes is safe (R31, R49). -/
theorem ContextSafe.new {s : State} (h : TravelSafe s) {e : Entry} (he : e ∈ s.planner.queue)
    {targets : PerAxis (Option Int)} {m : FeedMode} {f : Nat} (hb : e.body = .move targets m f) :
    ContextSafe s (newContext s targets) := by
  refine ⟨Nat.zero_le _, rfl, fun a l hl => ?_⟩
  have hleg : legOf (s.axis a).commanded (targets.get a) = some l := by
    simpa [newContext, legsOf] using hl
  unfold legOf at hleg
  split at hleg
  · cases hleg
  · next x hx =>
    have hreach := ((travelSafe_iff s).mp h).2.1 e he targets m f hb a x hx
    split at hleg
    · cases hleg
    · cases hleg
      exact ⟨⟨hreach.1, hreach.2.1, hreach.2.2.1, ((h.axisSafe a).1 hreach.2.1).2 hreach.2.2.1⟩, hreach⟩

theorem ContextSafe.of_travel {s t : State} {c : MoveContext} (h : ContextSafe s c)
    (ha : ∀ a, (t.axis a).travel = (s.axis a).travel) : ContextSafe t c :=
  ⟨h.1, h.2.1, fun a l hl => ⟨(h.2.2 a l hl).1.of_travel (ha a), (h.2.2 a l hl).2.of_travel (ha a)⟩⟩

theorem TravelSafe.startActions {s : State} (h : TravelSafe s) : TravelSafe (startActions s) := by
  have ha := travel_eq_of_still (startActions_still s).1
  have hq := (startActions_still s).2
  rcases startActions_context s with hc | ⟨e, rest, targets, m, f, hqueue, hb, hc⟩
  · exact h.of_travel ha hq hc
  · obtain ⟨-, kq, -⟩ := (travelSafe_iff s).mp h
    refine (travelSafe_iff _).mpr ⟨fun a => (h.axisSafe a).of_travel (ha a), ?_, ?_⟩
    · intro e' he targets' m' f' hb' a x hx
      exact (kq e' (hq ▸ he) targets' m' f' hb' a x hx).of_travel (ha a)
    · intro c hcc
      obtain rfl : newContext s targets = c := Option.some.inj (hc ▸ hcc)
      exact ⟨by simp [hqueue], (ContextSafe.new h (by simp [hqueue]) hb).of_travel ha⟩

theorem TravelSafe.beginHead {s : State} (h : TravelSafe s) : TravelSafe (beginHead s) := by
  have hstart : TravelSafe (Machine.startActions { s with planner := { s.planner with head := some .starting } }) :=
    TravelSafe.startActions (h.of_still rfl rfl rfl)
  exact hstart.of_still (by simp [Machine.beginHead]) (by simp [Machine.beginHead]) (by simp [Machine.beginHead])

theorem TravelSafe.startHead {s : State} (h : TravelSafe s) : TravelSafe (startHead s) := by
  unfold Machine.startHead
  split
  · exact h.beginHead
  · exact h

theorem TravelSafe.promoteHead {s : State} (h : TravelSafe s) : TravelSafe (promoteHead s) := by
  unfold Machine.promoteHead
  split
  · exact h.of_still rfl rfl rfl
  · exact h

theorem TravelSafe.plannerWork {s : State} (h : TravelSafe s) : TravelSafe (plannerWork s).1 := by
  unfold Machine.plannerWork
  split
  · dsimp only
    split
    · exact h.startHead.promoteHead.activeWork
    · exact h.startHead.promoteHead
  · split
    · exact h.activeWork
    · exact h
  · split
    · exact h.activeWork
    · exact h
  · exact h
  · exact h

theorem TravelSafe.completeEntry {s : State} (h : TravelSafe s) : TravelSafe (completeEntry s) := by
  obtain ⟨hq, hc, he⟩ := completeEntry_program s
  exact h.of_tail (by simp) hq hc he

theorem TravelSafe.completeAbort {s : State} (h : TravelSafe s) (headLeft : Bool) :
    TravelSafe (completeAbort headLeft s) :=
  h.of_still_noProgram (by simp) (by simp [idlePlanner]) (by simp [idlePlanner])

theorem TravelSafe.becomeHeld {s : State} (h : TravelSafe s) : TravelSafe (becomeHeld s) :=
  h.of_still rfl rfl rfl

theorem TravelSafe.plannerFinish {s : State} (h : TravelSafe s) (completes : Bool) :
    TravelSafe (plannerFinish completes s) := by
  unfold Machine.plannerFinish
  split
  · exact h
  · split
    · exact h.completeEntry
    · exact h
  · split
    · exact h.completeEntry.becomeHeld
    · split
      · exact h.becomeHeld
      · exact h
  · exact h
  · split
    · exact h.completeEntry.completeAbort true
    · split
      · exact h.completeAbort false
      · exact h

/-! ### Start and Abort -/

theorem TravelSafe.clearOperatorStop {s : State} (h : TravelSafe s) : TravelSafe (clearOperatorStop s) := by
  unfold Machine.clearOperatorStop
  split
  · exact h.of_still (by simp) (by simp) (by simp)
  · exact h

theorem TravelSafe.awaitSpeed {s : State} (h : TravelSafe s) : TravelSafe (awaitSpeed s) := by
  unfold Machine.awaitSpeed
  dsimp only
  split
  · split
    · exact h.beginHead.of_still rfl rfl rfl
    · exact h.of_still rfl rfl rfl
  · exact h

theorem TravelSafe.startProgram {s : State} (h : TravelSafe s) : TravelSafe (startProgram s) := by
  unfold Machine.startProgram
  split
  · exact TravelSafe.clearOperatorStop (h.of_still rfl rfl rfl)
  · have hclear : TravelSafe (Machine.clearOperatorStop (dropOperatorCauses s)) :=
      TravelSafe.clearOperatorStop (h.of_still (by simp) (by simp) (by simp))
    have htake : TravelSafe
        ((if takesStartAgain s then Machine.beginHead else id) (Machine.clearOperatorStop (dropOperatorCauses s))) := by
      split
      · exact hclear.beginHead
      · exact hclear
    unfold resumeProgram
    split
    · exact htake.awaitSpeed
    · exact htake
  all_goals exact h

theorem TravelSafe.gearAbort {s : State} (h : TravelSafe s) : TravelSafe (gearAbort s) :=
  h.of_still (by simp) (by simp) (by simp)

theorem TravelSafe.brakeOrAbort {s : State} (h : TravelSafe s) : TravelSafe (brakeOrAbort s) := by
  unfold Machine.brakeOrAbort
  split
  · exact h.of_still rfl rfl rfl
  · exact h.completeAbort false

theorem TravelSafe.abortProgram {s : State} (h : TravelSafe s) : TravelSafe (abortProgram s) := by
  have habort : ∀ t, TravelSafe t → TravelSafe (plannerAbort t) := by
    intro t ht
    unfold plannerAbort
    split
    · exact ht
    · exact ht.completeAbort false
    all_goals exact ht.brakeOrAbort
  unfold Machine.abortProgram
  refine habort _ ?_
  split
  · exact eachAxis_keeps (fun a t ht => ht.of_still (by simp) (by simp) (by simp)) h.gearAbort
  · exact h.gearAbort

/-! ## The interpolation period keeps travel safe -/

theorem softGuard_commanded {p : AxisParams} (h : p.softMin ≤ p.softMax) {u : AxisUnit} (hr : u.referenced = true) :
    p.softMin ≤ (softGuard p u).commanded ∧ (softGuard p u).commanded ≤ p.softMax := by
  unfold softGuard AxisUnit.stoppedAt
  rw [if_pos hr]
  split
  · exact ⟨le_rfl, h⟩
  · split
    · exact ⟨h, le_rfl⟩
    · omega

theorem softGuard_fields (p : AxisParams) (u : AxisUnit) :
    (softGuard p u).params = u.params ∧ (softGuard p u).referenced = u.referenced
      ∧ (softGuard p u).mode = u.mode := by
  unfold softGuard AxisUnit.stoppedAt
  (repeat' split) <;> exact ⟨rfl, rfl, rfl⟩

theorem motionStep_fields (p : AxisParams) (goal : Option Int) (target : Nat) (u : AxisUnit) :
    (motionStep p goal target u).params = u.params ∧ (motionStep p goal target u).referenced = u.referenced
      ∧ (motionStep p goal target u).mode = u.mode :=
  softGuard_fields p _

/-- One step never takes a referenced axis out of its soft limits (R22). -/
theorem motionStep_commanded {p : AxisParams} (h : p.softMin ≤ p.softMax) {u : AxisUnit} (hr : u.referenced = true)
    (goal : Option Int) (target : Nat) :
    p.softMin ≤ (motionStep p goal target u).commanded ∧ (motionStep p goal target u).commanded ≤ p.softMax :=
  softGuard_commanded h hr

/-- A step keeps the record, the reference and the mode, and a referenced axis inside its soft limits (R22). -/
theorem localStep_safe {a : Axis} {ovr : Nat} {p : AxisParams} {u : AxisUnit} (h : AxisSafe u)
    (hp : u.params = some p) :
    AxisSafe (localStep a ovr p u) ∧ ∀ x, Reachable u x → Reachable (localStep a ovr p u) x := by
  have hstep : ∀ goal target, AxisSafe (motionStep p goal target u)
      ∧ ∀ x, Reachable u x → Reachable (motionStep p goal target u) x := by
    intro goal target
    obtain ⟨kp, kr, km⟩ := motionStep_fields p goal target u
    refine ⟨h.seated kp fun k => ⟨(h.1 (kr ▸ k)).1, ?_⟩, fun x k => ?_⟩
    · simpa [withinSoft, hp] using motionStep_commanded (h.2 p hp).1.le (kr ▸ k) goal target
    · simpa [Reachable, withinSoft, kp, kr, km] using k
  unfold localStep
  split
  · exact hstep _ _
  · exact hstep _ _
  · exact hstep _ _
  · exact hstep _ _
  all_goals exact ⟨h, fun _ k => k⟩

theorem TravelSafe.moveLocally {s : State} (h : TravelSafe s) (a : Axis) : TravelSafe (moveLocally a s) := by
  unfold Machine.moveLocally
  split
  · exact h
  · next p hp =>
    obtain ⟨hu, hr⟩ := localStep_safe (a := a) (ovr := s.pendant.feedOverride) (h.axisSafe a) hp
    have hset := h.setAxis hu hr
    unfold noteJog
    split
    · exact hset.of_still rfl rfl rfl
    · exact hset

/-- An axis whose positions follow is unreferenced or PARKED. -/
theorem TravelSafe.followPeriod {s : State} (h : TravelSafe s) (a : Axis) (before : Int)
    (hf : positionsFollow s a = true) : TravelSafe (followPeriod a before s) := by
  have hpark : (s.axis a).referenced = true → (s.axis a).mode = .parked := by
    intro k
    have hconf := ((h.axisSafe a).1 k).1
    simpa [positionsFollow, hconf, k] using hf
  exact (h.followMeasured a hpark).setAxis_travel rfl

theorem TravelSafe.stepOutput {s : State} (h : TravelSafe s) (a : Axis) (before : Int) (w : CompRecord × Bool) :
    TravelSafe (stepOutput a before w s) := by
  refine TravelSafe.setComp ?_ a _
  exact h.setAxis_travel rfl

theorem TravelSafe.compensateAxis {s : State} (h : TravelSafe s) (before : Axis → Int) (a : Axis) :
    TravelSafe (compensateAxis before a s) := by
  unfold Machine.compensateAxis
  split
  · next hf => exact h.followPeriod a _ hf
  · exact h.stepOutput a _ _

theorem TravelSafe.checkFollowing {s : State} (h : TravelSafe s) (a : Axis) : TravelSafe (checkFollowing a s) := by
  unfold Machine.checkFollowing
  split
  · exact h.axisFault _ a
  · exact h

@[simp] theorem endLocal_still (a : Axis) (s : State) :
    (endLocal a s).axes.map AxisUnit.still = s.axes.map AxisUnit.still := by
  unfold endLocal
  (repeat' split) <;> simp

/-- A PARKED axis is named by no program, so it may lose its reference (R17, R24). -/
theorem TravelSafe.checkParked {s : State} (h : TravelSafe s) (a : Axis) : TravelSafe (checkParked a s) := by
  unfold Machine.checkParked
  split
  · next hc =>
    simp only [Bool.and_eq_true, beq_iff_eq] at hc
    unfold Machine.loseReference
    split
    · refine TravelSafe.seatComp ?_ a
      exact h.setAxis ((h.axisSafe a).unreferenced rfl rfl) fun x k => absurd hc.1 k.2.2.1
    · exact h
  · exact h

@[simp] theorem periodLinger_course (a : Axis) (s : State) :
    (periodLinger a s).axes.map AxisUnit.still = s.axes.map AxisUnit.still
      ∧ (periodLinger a s).planner.queue = s.planner.queue
      ∧ (periodLinger a s).planner.context = s.planner.context := by
  unfold periodLinger
  (repeat' split) <;> simp

theorem TravelSafe.interpolate {s : State} (h : TravelSafe s) : TravelSafe (interpolate s) := by
  have hwork : TravelSafe (Machine.plannerWork { s with clocks := { s.clocks with interpolation := 2 } }).1 :=
    TravelSafe.plannerWork (h.of_still rfl rfl rfl)
  have haxes : TravelSafe (axesPeriod (fun a => (s.axis a).commanded)
      (Machine.plannerWork { s with clocks := { s.clocks with interpolation := 2 } }).1) := by
    unfold axesPeriod
    refine eachAxis_keeps (fun a t ht => ht.of_still (by simp) (by simp) (by simp)) ?_
    refine eachAxis_keeps (fun a t ht => ht.checkFollowing a) ?_
    refine eachAxis_keeps (fun a t ht => ht.compensateAxis _ a) ?_
    exact eachAxis_keeps (fun a t ht => ht.moveLocally a) hwork
  unfold Machine.interpolate afterWork periodEnds
  refine eachAxis_keeps (fun a t ht => ht.setAxis_travel rfl) ?_
  refine eachAxis_keeps (fun a t ht => ht.of_still (by simp) (by simp) (by simp)) ?_
  refine eachAxis_keeps (fun a t ht => ht.of_still (by simp) (by simp) (by simp)) ?_
  exact eachAxis_keeps (fun a t ht => ht.checkParked a) (haxes.plannerFinish _)

end Sys2Proof.Machine

namespace Sys2Proof.Machine

/-! ## Orders: what an accepted one passed -/

theorem firstRefusal_eq_none {checks : List (Bool × RefuseCode)} (h : firstRefusal checks = none) :
    ∀ c ∈ checks, c.1 = false := by
  induction checks with
  | nil => simp
  | cons c l ih =>
    obtain ⟨failed, code⟩ := c
    cases failed with
    | true => simp [firstRefusal] at h
    | false => simpa using fun a b hm => ih (by simpa [firstRefusal] using h) (a, b) hm

/-- An order taken passed its checks. -/
theorem judge_eq_accept {checks : List (Bool × RefuseCode)} {taken : Verdict} {u : State} {r : AcceptPayload}
    (h : judge checks taken = .accept u r) : (∀ c ∈ checks, c.1 = false) ∧ taken = .accept u r := by
  unfold judge at h
  split at h
  · cases h
  · next hn => exact ⟨firstRefusal_eq_none hn, h⟩

/-- An order taken passed the checks before and after its fields, and was taken with the fields it spells. -/
theorem judgeField_eq_accept {α : Type} {before : List (Bool × RefuseCode)} {f : Option α}
    {after : α → List (Bool × RefuseCode)} {taken : α → Verdict} {u : State} {r : AcceptPayload}
    (h : judgeField before f after taken = .accept u r) :
    (∀ c ∈ before, c.1 = false) ∧ ∃ x, f = some x ∧ (∀ c ∈ after x, c.1 = false) ∧ taken x = .accept u r := by
  unfold judgeField at h
  split at h
  · cases h
  · next hb =>
    split at h
    · cases h
    · next x => exact ⟨firstRefusal_eq_none hb, x, rfl, (judge_eq_accept h).1, (judge_eq_accept h).2⟩

theorem accepted_eq_accept {f : State → State} {payload : State → AcceptPayload} {s u : State} {r : AcceptPayload}
    (h : accepted f payload s = .accept u r) : u = f s := by
  cases h; rfl

/-! ## Every order keeps travel safe -/

/-- An order's owner keeps travel safe: whatever it accepts leaves a safe state. -/
def OwnerTravels (owner : State → Verdict) : Prop :=
  ∀ s u r, TravelSafe s → owner s = .accept u r → TravelSafe u

theorem TravelSafe.takeOrder {s : State} (h : TravelSafe s) {owner : State → Verdict} (ho : OwnerTravels owner)
    (kind : Byte) (tag : Tag) : TravelSafe (takeOrder kind tag owner s) := by
  unfold Machine.takeOrder
  split
  · exact h.of_still rfl rfl rfl
  · split
    · next u r hu => exact (ho s u r h hu).of_still rfl rfl rfl
    · exact h.of_still rfl rfl rfl

/-- An order with fields whose effect keeps travel safe once its checks have passed. -/
theorem ownerTravels_field {α : Type} {before : State → List (Bool × RefuseCode)} {f : State → Option α}
    {after : State → α → List (Bool × RefuseCode)} {effect : State → α → State → State}
    {payload : State → α → State → AcceptPayload}
    (h : ∀ s x, TravelSafe s → f s = some x → (∀ c ∈ after s x, c.1 = false) → TravelSafe (effect s x s)) :
    OwnerTravels fun s => judgeField (before s) (f s) (after s) fun x => accepted (effect s x) (payload s x) s := by
  intro s u r hs hu
  obtain ⟨-, x, hx, hchecks, htaken⟩ := judgeField_eq_accept hu
  rw [accepted_eq_accept htaken]
  exact h s x hs hx hchecks

theorem ownerTravels_empty {p : List Byte} {after : State → List (Bool × RefuseCode)} {effect : State → State}
    {payload : State → AcceptPayload} (h : ∀ s, TravelSafe s → TravelSafe (effect s)) :
    OwnerTravels fun s => judgeEmpty p (after s) (accepted effect payload s) := by
  intro s u r hs hu
  rw [accepted_eq_accept (judge_eq_accept hu).2]
  exact h s hs

/-- A query answers and changes nothing. -/
theorem ownerTravels_query {α : Type} {before : State → List (Bool × RefuseCode)} {f : State → Option α}
    {payload : State → α → AcceptPayload} :
    OwnerTravels fun s => judgeField (before s) (f s) (fun _ => []) fun x => .accept s (payload s x) := by
  intro s u r hs hu
  obtain ⟨-, x, -, -, htaken⟩ := judgeField_eq_accept hu
  cases htaken
  exact hs

/-- An entry that names only positions its axes can reach joins a safe program. -/
theorem TravelSafe.appendEntry {s : State} (h : TravelSafe s) {e : Entry}
    (he : ∀ targets m f, e.body = .move targets m f → ∀ a x, targets.get a = some x → Reachable (s.axis a) x) :
    TravelSafe (appendEntry e s) := by
  obtain ⟨ha, kq, kc⟩ := (travelSafe_iff s).mp h
  refine (travelSafe_iff _).mpr ⟨ha, fun e' hm targets m f hb a x hx => ?_, fun c hc => ⟨?_, (kc c hc).2⟩⟩
  · rcases List.mem_append.mp hm with hm | hm
    · exact kq e' hm targets m f hb a x hx
    · rw [List.mem_singleton.mp hm] at hb
      exact he targets m f hb a x hx
  · simp [Machine.appendEntry]

theorem moveEntry_isMove {p : List Byte} {b : EntryBody} (h : moveEntry p = some b) :
    ∃ targets m f, b = .move targets m f := by
  unfold moveEntry at h
  split at h
  · cases h
  · obtain ⟨m, -, rfl⟩ := Option.map_eq_some_iff.mp h
    exact ⟨_, _, _, rfl⟩

/-- Every target of a move that passed its checks can be reached (R24). -/
theorem moveRefusals_reachable {s : State} {targets : PerAxis (Option Int)} {m : FeedMode} {f : Nat}
    (h : ∀ c ∈ moveRefusals s (.move targets m f), c.1 = false) {a : Axis} {x : Int} (hx : targets.get a = some x) :
    Reachable (s.axis a) x := by
  simp only [moveRefusals, someAxis, List.forall_mem_cons, Bool.or_eq_false_iff, List.any_eq_false,
    Bool.and_eq_true, not_and, Bool.not_eq_true] at h
  obtain ⟨⟨hconf, -⟩, -, hpark, href, hlim, -⟩ := h
  have hm : a ∈ axesInOrder := by cases a <;> decide
  have hsome : (targets.get a).isSome = true := by simp [hx]
  have hout := hlim a hm
  simp only [outOfLimits, hx, Bool.or_eq_false_iff, Bool.not_eq_false'] at hout
  exact ⟨by simpa [AxisUnit.configured] using hconf a hm hsome, by simpa using href a hm hsome,
    by simpa using hpark a hm hsome, hout.1⟩

theorem queueMove_travels (tag : Tag) (p : List Byte) : OwnerTravels (queueMoveOrder tag p) :=
  ownerTravels_field fun s b hs hb hchecks => by
    obtain ⟨targets, m, f, rfl⟩ := moveEntry_isMove hb
    refine hs.appendEntry fun targets' m' f' he a x hx => ?_
    cases he
    exact moveRefusals_reachable hchecks hx

theorem notMove_travels {tag : Tag} {b : EntryBody} (h : b.isMove = false) {s : State} (hs : TravelSafe s) :
    TravelSafe (appendEntry ⟨tag, b⟩ s) :=
  hs.appendEntry fun targets m f e => by
    change b = _ at e
    simp [e, EntryBody.isMove] at h

theorem queueDwell_travels (tag : Tag) (p : List Byte) : OwnerTravels (queueDwellOrder tag p) :=
  ownerTravels_field fun s b hs hb _ => by
    obtain ⟨t, -, rfl⟩ := Option.map_eq_some_iff.mp hb
    exact notMove_travels rfl hs

theorem queueSpindle_travels (tag : Tag) (p : List Byte) : OwnerTravels (queueSpindleOrder tag p) :=
  ownerTravels_field fun s b hs hb _ => by
    simp only [spindleEntry, Option.bind_eq_bind, Option.bind_eq_some_iff, Option.some.injEq] at hb
    obtain ⟨speed, -, d, -, forced, -, wait, -, rfl⟩ := hb
    exact notMove_travels rfl hs

theorem queueCoolant_travels (tag : Tag) (p : List Byte) : OwnerTravels (queueCoolantOrder tag p) :=
  ownerTravels_field fun s b hs hb _ => by
    simp only [coolantEntry, Option.bind_eq_bind, Option.bind_eq_some_iff, Option.some.injEq] at hb
    obtain ⟨m, -, wait, -, rfl⟩ := hb
    exact notMove_travels rfl hs

theorem queueMark_travels (tag : Tag) (p : List Byte) : OwnerTravels (queueMarkOrder tag p) :=
  ownerTravels_empty fun _ hs => notMove_travels rfl hs

theorem queueEnd_travels (tag : Tag) (p : List Byte) : OwnerTravels (queueEndOrder tag p) :=
  ownerTravels_empty fun _ hs => notMove_travels rfl hs

/-- Orders of the axes are taken with an empty queue alone (R1, R13, R16). -/
theorem plannerBusy_queue {s : State} (h : plannerBusy s = false) : s.planner.queue = [] := by
  simp only [plannerBusy, Bool.or_eq_false_iff] at h
  simpa using h.2

theorem reference_travels (p : List Byte) : OwnerTravels (referenceOrder p) :=
  ownerTravels_field fun s a hs _ hchecks => by
    simp only [referenceRefusals, List.forall_mem_cons, Bool.or_eq_false_iff] at hchecks
    obtain ⟨-, -, -, ⟨⟨hbusy, -⟩, -⟩, -⟩ := hchecks
    exact hs.takeReference a (plannerBusy_queue hbusy)

theorem modeRefusals_pass {conflict : Mode} {s : State} {x : Axis × Bool}
    (h : ∀ c ∈ modeRefusals conflict s x, c.1 = false) :
    (s.axis x.1).configured = true ∧ s.planner.queue = [] := by
  simp only [modeRefusals, List.forall_mem_cons, Bool.or_eq_false_iff, Bool.not_eq_false'] at h
  obtain ⟨hconf, ⟨⟨hbusy, -⟩, -⟩, -⟩ := h
  exact ⟨hconf, plannerBusy_queue hbusy⟩

theorem park_travels (p : List Byte) : OwnerTravels (parkOrder p) :=
  ownerTravels_field fun _ x hs _ hchecks => hs.takePark x (modeRefusals_pass hchecks).2

theorem loop_travels (p : List Byte) : OwnerTravels (loopOrder p) :=
  ownerTravels_field fun _ x hs _ hchecks =>
    hs.takeLoop x (modeRefusals_pass hchecks).1 (modeRefusals_pass hchecks).2

theorem setAxis_travels (p : List Byte) : OwnerTravels (setAxisOrder p) :=
  ownerTravels_field fun _ x hs hx hchecks => hs.acceptAxis (a := x.1) (p := x.2) hx (by simpa using hchecks)

@[simp] theorem releaseLatch_travel (removed : List FaultEntry) (d : Sign) (a c : Axis) (s : State) :
    ((releaseLatch removed d a s).axis c).travel = (s.axis c).travel := by
  unfold releaseLatch
  split
  · by_cases h : c = a
    · subst h; simp
    · rw [State.setAxis_axis_ne _ _ h]
  · rfl

theorem TravelSafe.clearAll {s : State} (h : TravelSafe s) : TravelSafe (clearAll s) := by
  have hrem : TravelSafe (armChain (removeCleared s)) := h.of_still (by simp) (by simp) (by simp)
  have hlatch : ∀ removed d, ∀ t, TravelSafe t → TravelSafe (eachAxis (releaseLatch removed d) t) :=
    fun removed d t ht =>
      eachAxis_keeps (fun a u hu => hu.of_travel (fun c => releaseLatch_travel ..) (by simp) (by simp)) ht
  have hblocks := hlatch (clearable s) .minus _ (hlatch (clearable s) .plus _ hrem)
  have hrelease : TravelSafe (coolantRelease (releaseGearbox (dropCauses (eachAxis releaseClamp
      (eachAxis (releaseLatch (clearable s) .minus) (eachAxis (releaseLatch (clearable s) .plus)
        (armChain (removeCleared s)))))))) :=
    hblocks.of_still (by simp [eachAxis]) (by simp [eachAxis]) (by simp [eachAxis])
  unfold Machine.clearAll releaseBlocks
  dsimp only
  split
  · unfold armingActs
    refine TravelSafe.grantOpportunity ?_
    dsimp only
    split
    · exact hrelease.of_still (by simp [inverterFaultActs]) (by simp [inverterFaultActs]) (by simp [inverterFaultActs])
    · exact hrelease.of_still (by simp) (by simp) (by simp)
  · exact hrelease

theorem clearFaults_travels (p : List Byte) : OwnerTravels (clearFaultsOrder p) := by
  intro s u r hs hu
  cases (judge_eq_accept hu).2
  exact hs.clearAll

theorem start_travels (p : List Byte) : OwnerTravels (startOrder p) := ownerTravels_empty fun _ hs => hs.startProgram

theorem hold_travels (p : List Byte) : OwnerTravels (holdOrder p) :=
  ownerTravels_empty fun _ hs => hs.of_still (by simp) (by simp) (by simp)

theorem abort_travels (p : List Byte) : OwnerTravels (abortOrder p) := ownerTravels_empty fun _ hs => hs.abortProgram

@[simp] theorem gearTargetTaken_program (t : GearTarget) (s : State) :
    (gearTargetTaken t s).planner.queue = s.planner.queue
      ∧ (gearTargetTaken t s).planner.context = s.planner.context := by
  unfold gearTargetTaken gearRetarget
  (repeat' split) <;> simp

@[simp] theorem loadGears_program (g : GearLoad) (s : State) :
    (loadGears g s).planner.queue = s.planner.queue ∧ (loadGears g s).planner.context = s.planner.context := by
  simp [loadGears]

@[simp] theorem unionChanged_program (s : State) :
    (unionChanged s).planner.queue = s.planner.queue ∧ (unionChanged s).planner.context = s.planner.context := by
  unfold unionChanged
  (repeat' split) <;> simp

@[simp] theorem loadCoolant_program (c : CoolantParams) (s : State) :
    (loadCoolant c s).planner.queue = s.planner.queue ∧ (loadCoolant c s).planner.context = s.planner.context := by
  simp [loadCoolant]

/-- Orders of the other blocks keep the axes still and the program. -/
theorem ownerTravels_still {α : Type} {before : State → List (Bool × RefuseCode)} {f : State → Option α}
    {after : State → α → List (Bool × RefuseCode)} {effect : State → α → State → State}
    {payload : State → α → State → AcceptPayload}
    (h : ∀ s x, (effect s x s).axes.map AxisUnit.still = s.axes.map AxisUnit.still
      ∧ (effect s x s).planner.queue = s.planner.queue ∧ (effect s x s).planner.context = s.planner.context) :
    OwnerTravels fun s => judgeField (before s) (f s) (after s) fun x => accepted (effect s x) (payload s x) s :=
  ownerTravels_field fun s x hs _ _ => hs.of_still (h s x).1 (h s x).2.1 (h s x).2.2

/-- Whatever an order's KIND, its owner keeps travel safe. -/
theorem ownerOf_travels (kind : Byte) (tag : Tag) (p : List Byte) : OwnerTravels (ownerOf kind tag p) := by
  unfold ownerOf
  split
  case h_1 => exact queueMove_travels tag p
  case h_2 => exact queueDwell_travels tag p
  case h_3 => exact queueSpindle_travels tag p
  case h_4 => exact queueCoolant_travels tag p
  case h_5 => exact queueMark_travels tag p
  case h_6 => exact queueEnd_travels tag p
  case h_7 => exact start_travels p
  case h_8 => exact hold_travels p
  case h_9 => exact abort_travels p
  case h_10 => exact ownerTravels_still fun s x => by simp
  case h_11 => exact ownerTravels_still fun s x => by simp
  case h_12 => exact ownerTravels_still fun s x => by simp
  case h_13 => exact reference_travels p
  case h_14 => exact park_travels p
  case h_15 => exact loop_travels p
  case h_16 => exact setAxis_travels p
  case h_17 => exact ownerTravels_still fun s x => by simp
  case h_18 => exact ownerTravels_still fun s x => by simp
  case h_19 => exact ownerTravels_still fun s x => by simp
  case h_20 => exact ownerTravels_still fun s x => by simp
  case h_21 => exact ownerTravels_still fun s x => by simp
  case h_22 => exact ownerTravels_still fun s x => by simp
  case h_23 => exact ownerTravels_still fun s x => by simp
  case h_24 => exact ownerTravels_still fun s x => by simp
  case h_25 => exact clearFaults_travels p
  case h_26 => exact ownerTravels_query
  case h_27 => exact ownerTravels_query
  case h_28 => exact ownerTravels_query
  case h_29 =>
    intro s u r hs hu
    cases (judge_eq_accept hu).2
    exact hs
  case h_30 => intro s u r _ hu; cases hu

end Sys2Proof.Machine

namespace Sys2Proof.Machine

/-! ## Every event keeps travel safe -/

/-- The state `t` has the axes, but for their local motion and claims, and the program of `s`. -/
def SameCourse (s t : State) : Prop :=
  t.axes.map AxisUnit.still = s.axes.map AxisUnit.still ∧ t.planner.queue = s.planner.queue
    ∧ t.planner.context = s.planner.context

theorem TravelSafe.of_sameCourse {s t : State} (h : TravelSafe s) (k : SameCourse s t) : TravelSafe t :=
  h.of_still k.1 k.2.1 k.2.2

/-! ### Spindle, gears and coolant -/

@[simp] theorem checkStall_program (s : State) :
    (checkStall s).planner.queue = s.planner.queue ∧ (checkStall s).planner.context = s.planner.context := by
  unfold checkStall
  (repeat' split) <;> simp

@[simp] theorem planIfStopped_course (s : State) :
    (planIfStopped s).axes.map AxisUnit.still = s.axes.map AxisUnit.still
      ∧ (planIfStopped s).planner.queue = s.planner.queue
      ∧ (planIfStopped s).planner.context = s.planner.context := by
  unfold planIfStopped
  split <;> simp

theorem endWindow_course (s : State) : SameCourse s (endWindow s) := by
  simp [SameCourse, endWindow]

theorem inverterChange_course (active : Bool) (s : State) : SameCourse s (inverterChange active s) := by
  unfold inverterChange inverterFaultActs
  dsimp only
  (repeat' split) <;> simp [SameCourse]

theorem forkSwitchMoves_course (k : ForkSwitch) (closed : Bool) (s : State) :
    SameCourse s (forkSwitchMoves k closed s) := by
  unfold forkSwitchMoves forkSwitchMeans
  (repeat' split) <;> simp [SameCourse]

theorem pauseExpires_course (s : State) : SameCourse s (pauseExpires s) := by
  unfold pauseExpires
  split <;> simp [SameCourse]

theorem useSample_course (s : State) : SameCourse s (useSample s) := by
  unfold useSample buildSample lossSample
  (repeat' split) <;> simp [SameCourse]

theorem buildExpires_course (s : State) : SameCourse s (buildExpires s) := by
  unfold buildExpires
  (repeat' split) <;> simp [SameCourse]

theorem tankChange_course (low : Bool) (s : State) : SameCourse s (tankChange low s) := by
  unfold tankChange tankGoesLow
  (repeat' split) <;> simp [SameCourse]

/-! ### Valves -/

theorem TravelSafe.clampSwitchFault {s : State} (h : TravelSafe s) (a : Axis) : TravelSafe (clampSwitchFault a s) :=
  TravelSafe.immediateStop (h.of_still (by simp) (by simp) (by simp))

theorem TravelSafe.clampSwitchMeans {s : State} (h : TravelSafe s) (a : Axis) (closed : Bool) :
    TravelSafe (clampSwitchMeans a closed s) := by
  unfold Machine.clampSwitchMeans
  split
  · exact h.clampSwitchFault a
  · exact h
  · exact h.clampSwitchFault a
  all_goals exact h.of_still (by simp) (by simp) (by simp)

theorem TravelSafe.clampSwitchMoves {s : State} (h : TravelSafe s) (a : Axis) (closed : Bool) :
    TravelSafe (clampSwitchMoves a closed s) := by
  have hset : TravelSafe (s.setClamp a { s.clamp a with switchClosed := closed }) := h.of_still rfl rfl rfl
  unfold Machine.clampSwitchMoves
  dsimp only
  split
  · exact h
  · split
    · exact hset.clampSwitchMeans a closed
    · exact hset

theorem strokeTimesOut_course (f : ValveFunction) (s : State) : SameCourse s (strokeTimesOut f s) := by
  unfold strokeTimesOut
  split <;> simp [SameCourse]

theorem lingerRunsOut_course (a : Axis) (s : State) : SameCourse s (lingerRunsOut a s) := by
  unfold lingerRunsOut
  split <;> simp [SameCourse]

theorem pressureOkMoves_course (ok : Bool) (s : State) : SameCourse s (pressureOkMoves ok s) := by
  unfold pressureOkMoves
  dsimp only
  (repeat' split) <;> simp [SameCourse]

/-! ### Axis inputs -/

theorem TravelSafe.driveFaultChange {s : State} (h : TravelSafe s) (a : Axis) (active : Bool) :
    TravelSafe (driveFaultChange a active s) := by
  have hset : TravelSafe (setCondition .driveFault (.axis a) active
      (s.setAxis a { s.axis a with driveFault := active })) :=
    (h.setAxis_travel (a := a) (u := { s.axis a with driveFault := active }) rfl).of_still (by simp) (by simp) (by simp)
  unfold Machine.driveFaultChange
  dsimp only
  split
  · exact h
  · split
    · exact hset.axisFault _ a
    · exact hset

theorem TravelSafe.overtravelChange {s : State} (h : TravelSafe s) (a : Axis) (d : Sign) (isOpen : Bool) :
    TravelSafe (overtravelChange a d isOpen s) := by
  have hset : TravelSafe (setCondition .overtravel (.axisEnd a d) isOpen
      (s.setAxis a ((s.axis a).putSwitch d isOpen))) :=
    (h.setAxis_travel (putSwitch_travel (s.axis a) d isOpen)).of_still (by simp) (by simp) (by simp)
  unfold Machine.overtravelChange
  dsimp only
  split
  · exact h
  · split
    · exact hset.overtravelOpens a d
    · exact hset

theorem TravelSafe.counted {s : State} (h : TravelSafe s) (a : Axis) (n : Int) :
    TravelSafe (s.setAxis a ((s.axis a).counted n)) :=
  h.setAxis_travel rfl

/-! ### The pendant -/

theorem TravelSafe.withdraw {s : State} (h : TravelSafe s) : TravelSafe (withdraw s) :=
  h.of_still (by simp) (by simp) (by simp)

theorem TravelSafe.doIf {s : State} (h : TravelSafe s) (b : Bool) {f : State → State}
    (hf : ∀ t, TravelSafe t → TravelSafe (f t)) : TravelSafe (doIf b f s) := by
  unfold Machine.doIf
  split
  · exact hf s h
  · exact h

theorem TravelSafe.raiseCause {s : State} (h : TravelSafe s) (c : HoldCause) : TravelSafe (raiseCause c s) :=
  h.of_still (by simp) (by simp) (by simp)

theorem TravelSafe.cycleStart {s : State} (h : TravelSafe s) : TravelSafe (cycleStart s) := by
  unfold Machine.cycleStart
  split
  · exact h
  · exact h.startProgram

theorem TravelSafe.takeButtons {s : State} (h : TravelSafe s) (previous r : ScanReply) :
    TravelSafe (takeButtons previous r s) := by
  unfold Machine.takeButtons
  refine TravelSafe.doIf ?_ _ fun t ht => ht.cycleStart
  refine TravelSafe.doIf ?_ _ fun t ht => ht.withdraw
  refine TravelSafe.doIf ?_ _ fun t ht => (ht.raiseCause _).withdraw
  refine TravelSafe.doIf ?_ _ fun t ht => ht.doIf _ fun u hu => hu.of_still (by simp) (by simp) (by simp)
  refine TravelSafe.doIf ?_ _ fun t ht => ht.of_still (by simp) (by simp) (by simp)
  exact h.doIf _ fun t ht => ht.raiseCause _

@[simp] theorem judgeSite_still (r : ScanReply) (s : State) :
    (judgeSite r s).axes.map AxisUnit.still = s.axes.map AxisUnit.still := by
  unfold judgeSite
  (repeat' split) <;> simp

@[simp] theorem selectorChange_still (previous r : ScanReply) (s : State) :
    (selectorChange previous r s).axes.map AxisUnit.still = s.axes.map AxisUnit.still := by
  unfold selectorChange
  dsimp only
  (repeat' split) <;> simp

@[simp] theorem buttonDemand_course (a : Axis) (r : ScanReply) (s : State) :
    (buttonDemand a r s).axes.map AxisUnit.still = s.axes.map AxisUnit.still
      ∧ (buttonDemand a r s).planner.queue = s.planner.queue
      ∧ (buttonDemand a r s).planner.context = s.planner.context := by
  unfold buttonDemand
  (repeat' split) <;> simp

@[simp] theorem takeWheel_course (a : Axis) (detents : Int) (s : State) :
    (takeWheel a detents s).axes.map AxisUnit.still = s.axes.map AxisUnit.still
      ∧ (takeWheel a detents s).planner.queue = s.planner.queue
      ∧ (takeWheel a detents s).planner.context = s.planner.context := by
  unfold takeWheel giveWheelGoal
  (repeat' split) <;> simp

@[simp] theorem takeJog_course (previous r : ScanReply) (a : Axis) (s : State) :
    (takeJog previous r a s).axes.map AxisUnit.still = s.axes.map AxisUnit.still
      ∧ (takeJog previous r a s).planner.queue = s.planner.queue
      ∧ (takeJog previous r a s).planner.context = s.planner.context := by
  unfold takeJog
  split <;> simp

@[simp] theorem jogStage_course (previous r : ScanReply) (s : State) :
    (jogStage previous r s).axes.map AxisUnit.still = s.axes.map AxisUnit.still
      ∧ (jogStage previous r s).planner.queue = s.planner.queue
      ∧ (jogStage previous r s).planner.context = s.planner.context := by
  unfold jogStage
  dsimp only
  (repeat' split) <;> simp

theorem TravelSafe.scanGood {s : State} (h : TravelSafe s) (r : ScanReply) : TravelSafe (scanGood r s) := by
  unfold Machine.scanGood
  split
  · exact h.of_still (by simp) (by simp) (by simp)
  · have hbuttons := TravelSafe.takeButtons (s := takeKnobs r { s with pendant := { s.pendant with misses := 0 } })
      (h.of_still (by simp) (by simp) (by simp)) (s.pendant.lastGood.getD r) r
    exact hbuttons.of_still (by simp [takeReply]) (by simp [takeReply]) (by simp [takeReply])
  · split
    all_goals exact h.of_still (by simp) (by simp) (by simp)
  · exact h

theorem becomeLost_course (s : State) : SameCourse s (becomeLost s) := by
  unfold becomeLost
  dsimp only
  split <;> simp [SameCourse]

theorem TravelSafe.scanMiss {s : State} (h : TravelSafe s) : TravelSafe (scanMiss s) := by
  have hmiss : TravelSafe (missCounted s) := by
    unfold missCounted
    split
    · exact TravelSafe.of_sameCourse (h.of_still rfl rfl rfl) (becomeLost_course _)
    · exact h.of_still rfl rfl rfl
  unfold Machine.scanMiss
  split
  · exact hmiss
  · exact hmiss
  · exact h.of_still rfl rfl rfl
  · exact h

theorem TravelSafe.replyArrives {s : State} (h : TravelSafe s) (bytes : List Byte) (fields : Option ScanReply) :
    TravelSafe (replyArrives bytes fields s) := by
  have hclosed : TravelSafe { s with pendant := { s.pendant with window := none } } := h.of_still rfl rfl rfl
  unfold Machine.replyArrives
  split
  · exact h
  · split
    · split
      · exact hclosed.scanGood _
      · exact hclosed.scanMiss
    · exact hclosed.scanMiss

theorem TravelSafe.windowCloses {s : State} (h : TravelSafe s) : TravelSafe (windowCloses s) := by
  unfold Machine.windowCloses
  split
  · exact h
  · exact TravelSafe.scanMiss (h.of_still rfl rfl rfl)

/-! ### The stop chain -/

theorem TravelSafe.trip {s : State} (h : TravelSafe s) (c : FaultCode) : TravelSafe (trip c s) :=
  h.of_still_noProgram (by simp) (by simp) (by simp)

theorem TravelSafe.channelsMove {s : State} (h : TravelSafe s) (open1 open2 : Bool) :
    TravelSafe (channelsMove open1 open2 s) := by
  have htake : TravelSafe (takeChannels open1 open2 s) := h.of_still (by simp) (by simp) (by simp)
  unfold Machine.channelsMove judgeChannels
  split
  · exact h
  · split
    · split
      · exact htake.trip _
      · exact htake
    · split
      · exact htake.trip _
      · exact htake
    · split
      · exact htake.of_still rfl rfl rfl
      · exact htake

theorem TravelSafe.discrepancyExpires {s : State} (h : TravelSafe s) : TravelSafe (discrepancyExpires s) := by
  have hstop : TravelSafe { s with stop := { s.stop with discrepancy := none } } := h.of_still rfl rfl rfl
  unfold Machine.discrepancyExpires discrepancyActs
  split
  · exact h
  · split
    · exact hstop.trip _
    · exact hstop.trip _
    · exact hstop.raiseFault _ _

/-! ### The host line -/

theorem TravelSafe.takeTelegram {s : State} (h : TravelSafe s) (kind : Byte) (tag : Tag) (p : List Byte) :
    TravelSafe (takeTelegram kind tag p s) :=
  h.takeOrder (ownerOf_travels kind tag p) kind tag

/-- The framer's own work leaves every block but the Link Unit. -/
theorem TravelSafe.of_link {s t : State} (h : TravelSafe s) (ht : t = { s with link := t.link }) : TravelSafe t :=
  h.of_still (by rw [ht]) (by rw [ht]) (by rw [ht])

theorem TravelSafe.takeByte {s : State} (h : TravelSafe s) (x : Byte) : TravelSafe (takeByte x s) := by
  unfold Machine.takeByte
  split
  · split <;> exact h.of_link rfl
  · unfold takeLen
    (repeat' split) <;> exact h.of_link rfl
  · exact h.of_link rfl
  · split <;> exact h.of_link rfl
  · exact h.of_link rfl
  · unfold takeCheck
    split
    · exact TravelSafe.takeTelegram (h.of_link rfl) _ _ _
    · exact h.of_link rfl

theorem TravelSafe.byteArrives {s : State} (h : TravelSafe s) (x : Byte) (stopBit : Bool) :
    TravelSafe (byteArrives x stopBit s) := by
  unfold Machine.byteArrives
  split
  · exact h.takeByte x
  · exact h.of_link rfl

/-! ### Reset -/

/-- A reset leaves every axis unconfigured and no program. -/
theorem powerOn_travelSafe (i : ResetInputs) (waiting : List Instr) : TravelSafe (powerOn i waiting) := by
  have hreset : TravelSafe (resetState i waiting) := by
    refine .of_noProgram (fun a => ?_) rfl rfl
    simp [resetState, State.axis, AxisUnit.afterReset, AxisSafe]
  have hraise : ∀ c, ∀ t, TravelSafe t → TravelSafe (raiseFault c .absent t) := fun c t ht => ht.raiseFault c _
  exact TravelSafe.doIf (hreset.doIf _ (hraise _)) _ (hraise _)

/-! ### Every command -/

theorem TravelSafe.finish {u : State} (h : TravelSafe u) (s : State) : TravelSafe (finish s u) :=
  h.of_still (by simp) (by simp) (by simp)

/-- An event whose effect keeps travel safe answers a safe state. -/
theorem TravelSafe.event {f : State → State} {s t : State} (h : TravelSafe (f s)) (ht : event f s = .next t) :
    TravelSafe t := by
  cases ht
  exact h.finish s

/-- Every command keeps travel safe. -/
theorem TravelSafe.exec {c : Instr} {s t : State} (h : TravelSafe s) (ht : exec c s = .next t) : TravelSafe t := by
  have order : ∀ {kind : Byte} {tag : Tag} {owner : State → Verdict}, OwnerTravels owner →
      Machine.event (Machine.takeOrder kind tag owner) s = .next t → TravelSafe t :=
    fun ho => TravelSafe.event (h.takeOrder ho _ _)
  cases c with
  | powerOnReset i => cases ht; exact powerOn_travelSafe i s.pending
  | byteReceived x stopBit => exact TravelSafe.event (h.byteArrives x stopBit) ht
  | gapTimerExpiry =>
    refine TravelSafe.event ?_ ht
    unfold gapExpires
    split
    · exact h
    · exact h.of_link rfl
  | unknownKindTelegram kind tag p => exact TravelSafe.event (h.takeTelegram kind tag p) ht
  | queueMove tag p => exact order (ownerOf_travels 0x01 tag p) ht
  | queueDwell tag p => exact order (ownerOf_travels 0x02 tag p) ht
  | queueSpindle tag p => exact order (ownerOf_travels 0x03 tag p) ht
  | queueCoolant tag p => exact order (ownerOf_travels 0x04 tag p) ht
  | queueMark tag p => exact order (ownerOf_travels 0x05 tag p) ht
  | queueEnd tag p => exact order (ownerOf_travels 0x06 tag p) ht
  | start tag p => exact order (ownerOf_travels 0x10 tag p) ht
  | hold tag p => exact order (ownerOf_travels 0x11 tag p) ht
  | abort tag p => exact order (ownerOf_travels 0x12 tag p) ht
  | spindleSet tag p => exact order (ownerOf_travels 0x18 tag p) ht
  | gearSet tag p => exact order (ownerOf_travels 0x19 tag p) ht
  | coolantSet tag p => exact order (ownerOf_travels 0x1A tag p) ht
  | reference tag p => exact order (ownerOf_travels 0x1B tag p) ht
  | park tag p => exact order (ownerOf_travels 0x1C tag p) ht
  | loop tag p => exact order (ownerOf_travels 0x1D tag p) ht
  | setAxis tag p => exact order (ownerOf_travels 0x20 tag p) ht
  | loadCompensation tag p => exact order (ownerOf_travels 0x21 tag p) ht
  | setValveParams tag p => exact order (ownerOf_travels 0x25 tag p) ht
  | setSpindleParams tag p => exact order (ownerOf_travels 0x23 tag p) ht
  | setGears tag p => exact order (ownerOf_travels 0x22 tag p) ht
  | setCoolantParams tag p => exact order (ownerOf_travels 0x24 tag p) ht
  | setOverrides tag p => exact order (ownerOf_travels 0x26 tag p) ht
  | setPendantText tag p => exact order (ownerOf_travels 0x27 tag p) ht
  | setReporting tag p => exact order (ownerOf_travels 0x28 tag p) ht
  | clearFaults tag p => exact order (ownerOf_travels 0x2F tag p) ht
  | getStatus tag p => exact order (ownerOf_travels 0x30 tag p) ht
  | getAxis tag p => exact order (ownerOf_travels 0x31 tag p) ht
  | getFaults tag p => exact order (ownerOf_travels 0x32 tag p) ht
  | getIdent tag p => exact order (ownerOf_travels 0x33 tag p) ht
  | telegramSent =>
    cases ht
    refine TravelSafe.finish ?_ s
    exact h.of_link rfl
  | positionTimerExpiry =>
    refine TravelSafe.event ?_ ht
    unfold positionExpires
    split
    · exact h
    · exact h.of_link rfl
  | interpolationPeriod => exact TravelSafe.event h.interpolate ht
  | encoderEdge a aLeads =>
    cases ht
    refine TravelSafe.finish ?_ s
    exact h.counted a _
  | referenceMark a => exact TravelSafe.event (h.takeMark a) ht
  | driveFaultInput a active => exact TravelSafe.event (h.driveFaultChange a active) ht
  | overtravelSwitchChange a d isOpen => exact TravelSafe.event (h.overtravelChange a d isOpen) ht
  | clampReleasedSwitchChange a closed => exact TravelSafe.event (h.clampSwitchMoves a closed) ht
  | strokeTimeout f => exact TravelSafe.event (h.of_sameCourse (strokeTimesOut_course f s)) ht
  | lingerTimerExpiry a => exact TravelSafe.event (h.of_sameCourse (lingerRunsOut_course a s)) ht
  | pressureOkChange ok => exact TravelSafe.event (h.of_sameCourse (pressureOkMoves_course ok s)) ht
  | hydraulicWaitTimerExpiry =>
    cases ht
    refine TravelSafe.finish ?_ s
    exact h.of_still (by simp) (by simp) (by simp)
  | referenceUpdate =>
    cases ht
    refine TravelSafe.finish ?_ s
    exact h.of_still (by simp) (by simp) (by simp)
  | spindleEncoderEdge clockwise =>
    cases ht
    refine TravelSafe.finish ?_ s
    exact h.of_still rfl rfl rfl
  | speedWindowEnd =>
    cases ht
    refine TravelSafe.finish ?_ s
    exact h.of_sameCourse (endWindow_course _)
  | inverterFaultInput active => exact TravelSafe.event (h.of_sameCourse (inverterChange_course active s)) ht
  | forkSwitchChange k closed => exact TravelSafe.event (h.of_sameCourse (forkSwitchMoves_course k closed s)) ht
  | creepAlternation =>
    cases ht
    refine TravelSafe.finish ?_ s
    exact h.of_still (by simp) (by simp) (by simp)
  | pauseTimerExpiry => exact TravelSafe.event (h.of_sameCourse (pauseExpires_course s)) ht
  | pressureSample code =>
    cases ht
    refine TravelSafe.finish ?_ s
    exact h.of_sameCourse (useSample_course _)
  | buildTimerExpiry => exact TravelSafe.event (h.of_sameCourse (buildExpires_course s)) ht
  | purgeTimerExpiry =>
    cases ht
    refine TravelSafe.finish ?_ s
    exact h.of_still (by simp) (by simp) (by simp)
  | tankLowSwitchChange low => exact TravelSafe.event (h.of_sameCourse (tankChange_course low s)) ht
  | scanRequest =>
    cases ht
    refine TravelSafe.finish ?_ s
    exact h.of_still (by simp) (by simp) (by simp)
  | pendantReply bytes fields => exact TravelSafe.event (h.replyArrives bytes fields) ht
  | replyWindowClose => exact TravelSafe.event h.windowCloses ht
  | clipTimerExpiry =>
    cases ht
    refine TravelSafe.finish ?_ s
    exact h.of_still rfl rfl rfl
  | flashPhaseToggle =>
    cases ht
    refine TravelSafe.finish ?_ s
    exact h.of_still rfl rfl rfl
  | stopChannelChange open1 open2 => exact TravelSafe.event (h.channelsMove open1 open2) ht
  | discrepancyTimerExpiry => exact TravelSafe.event h.discrepancyExpires ht

/-- Settles O57: travel safety is inductive by itself, so each command's own lemma closes the step. -/
theorem stepKeepsTravel : Obligations.StepKeepsTravel := by
  unfold Obligations.StepKeepsTravel
  rintro s t ⟨-, -, -, -, -, -, -, -, -, h, -⟩ hstep
  unfold step at hstep
  split at hstep
  · cases hstep
    exact h.of_still (by simp) (by simp) (by simp)
  · next c rest _ =>
    have hrest : TravelSafe { s with pending := rest } := h.of_still rfl rfl rfl
    exact hrest.exec hstep

end Sys2Proof.Machine

namespace Sys2Proof.Machine

/-! ## Reset -/

@[simp] theorem reset_axis (a : Axis) : State.reset.axis a = .afterReset false false false := by
  simp [State.reset, State.axis]

@[simp] theorem reset_clamp (a : Axis) : State.reset.clamp a = ⟨.engaged, false, none, false⟩ := by
  simp [State.reset, State.clamp]

theorem reset_plannerSound : PlannerSound State.reset := by
  refine ⟨by simp [State.reset, Planner.afterReset], fun _ => ⟨rfl, rfl⟩, fun _ => ⟨rfl, rfl, by decide⟩, ?_,
    by decide, by simp [AxisUnit.afterReset]⟩
  intro c h
  cases c <;> cases h

theorem reset_valveSound : ValveSound State.reset := by
  refine ⟨by decide, by decide, .nil, by simp [State.reset], ?_, by decide, ?_, by simp⟩
  · intro a
    simp [requestsOf, ClampState.request]
    simp [State.reset]
  · simp [ClampState.request]

theorem reset_travelSafe : TravelSafe State.reset :=
  .of_noProgram (by simp [AxisSafe, AxisUnit.afterReset]) rfl rfl

/-- With the chain RELEASED and nothing begun, nothing moves. -/
theorem reset_stoppedSafe : StoppedSafe State.reset := fun _ =>
  ⟨rfl, by simp [AxisUnit.afterReset], rfl, by simp, rfl, rfl, rfl, rfl, rfl, rfl, rfl⟩

theorem reset_coolantSound : CoolantSound State.reset := by
  unfold CoolantSound
  decide

theorem reset_gearSound : GearSound State.reset := by
  unfold GearSound
  decide

theorem reset_speedFormed : SpeedFormed State.reset := by
  unfold SpeedFormed
  decide

theorem reset_settled : Settled State.reset := by
  refine ⟨fun h => ?_, ?_⟩
  · cases h
  · unfold HydraulicSettled
    decide

/-- Settles O3: the state after reset, invariant by invariant. -/
theorem resetIsSound : Obligations.ResetIsSound :=
  ⟨by unfold QueuesBounded; decide, ⟨.nil, by simp [State.reset]⟩, reset_plannerSound,
    by unfold SpindleBounded; decide, reset_speedFormed, reset_valveSound, reset_gearSound, reset_coolantSound,
    reset_stoppedSafe, reset_travelSafe, reset_settled⟩

/-! ## Raises -/

@[simp] theorem placeEvent_line (r : EventReport) (s : State) :
    (placeEvent r s).link.straps = s.link.straps ∧ (placeEvent r s).link.framer = s.link.framer
      ∧ (placeEvent r s).link.gapTimer = s.link.gapTimer ∧ (placeEvent r s).link.replies = s.link.replies
      ∧ (placeEvent r s).link.sequence = s.link.sequence ∧ (placeEvent r s).link.statePending = s.link.statePending
      ∧ (placeEvent r s).link.period = s.link.period ∧ (placeEvent r s).link.positionTimer = s.link.positionTimer
      ∧ (placeEvent r s).link.due = s.link.due ∧ (placeEvent r s).link.skipCount = s.link.skipCount
      ∧ (placeEvent r s).link.sending = s.link.sending := by
  unfold placeEvent
  dsimp only
  split <;> simp

@[simp] theorem raiseFault_line (c : FaultCode) (q : Qualifier) (s : State) :
    (raiseFault c q s).link.straps = s.link.straps ∧ (raiseFault c q s).link.framer = s.link.framer
      ∧ (raiseFault c q s).link.gapTimer = s.link.gapTimer ∧ (raiseFault c q s).link.replies = s.link.replies
      ∧ (raiseFault c q s).link.sequence = s.link.sequence
      ∧ (raiseFault c q s).link.statePending = s.link.statePending
      ∧ (raiseFault c q s).link.period = s.link.period
      ∧ (raiseFault c q s).link.positionTimer = s.link.positionTimer ∧ (raiseFault c q s).link.due = s.link.due
      ∧ (raiseFault c q s).link.skipCount = s.link.skipCount
      ∧ (raiseFault c q s).link.sending = s.link.sending := by
  unfold raiseFault
  split <;> simp

/-- A raise leaves the stop chain (R185). -/
@[simp] theorem raiseFault_chain (c : FaultCode) (q : Qualifier) (s : State) :
    (raiseFault c q s).stop.estop = s.stop.estop ∧ (raiseFault c q s).stop.partTime = s.stop.partTime
      ∧ (raiseFault c q s).stop.channel1Open = s.stop.channel1Open
      ∧ (raiseFault c q s).stop.channel2Open = s.stop.channel2Open
      ∧ (raiseFault c q s).stop.discrepancy = s.stop.discrepancy := by
  unfold raiseFault
  split <;> simp

/-- A code that is not on the list joins at the tail (R185). -/
theorem raiseFault_codes_new {c : FaultCode} {q : Qualifier} {s : State} (h : c ∉ s.stop.faults.map FaultEntry.code) :
    (raiseFault c q s).stop.faults.map FaultEntry.code = s.stop.faults.map FaultEntry.code ++ [c] := by
  have hnone : s.stop.faults.find? (fun e => e.isPair c q) = none := by
    rw [List.find?_eq_none]
    intro e he hp
    simp only [FaultEntry.isPair, Bool.and_eq_true, beq_iff_eq] at hp
    exact h (List.mem_map.mpr ⟨e, he, hp.1⟩)
  unfold raiseFault
  rw [hnone]
  simp [newFault]

/-! ## Power-on reset -/

@[simp] theorem raiseAtReset_frame (i : ResetInputs) (s : State) :
    (raiseAtReset i s).planner = s.planner ∧ (raiseAtReset i s).axes = s.axes ∧ (raiseAtReset i s).comp = s.comp
      ∧ (raiseAtReset i s).clamps = s.clamps ∧ (raiseAtReset i s).valve = s.valve
      ∧ (raiseAtReset i s).spindle = s.spindle ∧ (raiseAtReset i s).gear = s.gear
      ∧ (raiseAtReset i s).coolant = s.coolant ∧ (raiseAtReset i s).pendant = s.pendant
      ∧ (raiseAtReset i s).clocks = s.clocks ∧ (raiseAtReset i s).pending = s.pending := by
  unfold raiseAtReset doIf
  (repeat' split) <;> simp

/-- The raises of the reset event leave the stop chain and all of the line but the event queue. -/
@[simp] theorem raiseAtReset_keeps (i : ResetInputs) (s : State) :
    (raiseAtReset i s).stop.estop = s.stop.estop ∧ (raiseAtReset i s).stop.partTime = s.stop.partTime
      ∧ (raiseAtReset i s).stop.discrepancy = s.stop.discrepancy
      ∧ (raiseAtReset i s).link.straps = s.link.straps ∧ (raiseAtReset i s).link.framer = s.link.framer
      ∧ (raiseAtReset i s).link.replies = s.link.replies
      ∧ (raiseAtReset i s).link.statePending = s.link.statePending
      ∧ (raiseAtReset i s).link.sending = s.link.sending := by
  unfold raiseAtReset doIf
  (repeat' split) <;> simp

/-- ESTOP, then COOLANT_LEVEL (R184). -/
theorem raiseAtReset_codes (i : ResetInputs) {s : State} (h : s.stop.faults = []) :
    (raiseAtReset i s).stop.faults.map FaultEntry.code =
      (if i.channel1Open && i.channel2Open then [.estop] else []) ++ (if i.tankLow then [.coolantLevel] else []) := by
  unfold raiseAtReset doIf
  split
  · split
    · rw [raiseFault_codes_new] <;> rw [raiseFault_codes_new] <;> simp [h]
    · rw [raiseFault_codes_new] <;> simp [h]
  · split
    · rw [raiseFault_codes_new] <;> simp [h]
    · simp [h]

/-- Settles O4: the reset state's own values, which the raises of the reset event leave. -/
theorem powerOnResetStartsIdle : Obligations.PowerOnResetStartsIdle := by
  unfold Obligations.PowerOnResetStartsIdle
  intro i s
  refine ⟨powerOn i s.pending, rfl, ?_⟩
  have hcodes := raiseAtReset_codes i (s := resetState i s.pending) rfl
  have hspindle : spindleEnable (raiseAtReset i (resetState i s.pending)) = false := by
    simp only [spindleEnable, raiseAtReset_keeps, resetState, stopAtReset]
    split <;> simp
  unfold powerOn
  simp only [hcodes, raiseAtReset_frame, raiseAtReset_keeps, State.axis, State.clamp, State.compOf, driveEnable,
    hspindle, tscPump, floodPump, purgeValve]
  simp [resetState, Planner.afterReset, AxisUnit.afterReset, AxisUnit.configured, clampAtReset, derivedClamp,
    gearAtReset, Coolant.afterReset, Link.afterReset, stopAtReset]

end Sys2Proof.Machine

namespace Sys2Proof.Machine

/-! ## What keeps a state settled -/

/-- A state stays settled where no axis of the tenure ends its local motion. -/
theorem Settled.of_motion {s t : State} (h : Settled s) (hp : t.pendant = s.pendant) (hv : t.valve = s.valve)
    (hm : ∀ a, (s.axis a).motion ≠ .idle → (t.axis a).motion ≠ .idle) : Settled t := by
  refine ⟨fun hw => ?_, h.2.of_eq hv⟩
  obtain ⟨a, hten, hmot⟩ := h.1 (hp ▸ hw)
  exact ⟨a, hp ▸ hten, hm a hmot⟩

theorem Settled.setAxis {s : State} (h : Settled s) {a : Axis} {u : AxisUnit}
    (hm : (s.axis a).motion ≠ .idle → u.motion ≠ .idle) : Settled (s.setAxis a u) := by
  refine h.of_motion rfl rfl fun c hc => ?_
  by_cases e : c = a
  · subst e; simpa using hm hc
  · rwa [State.setAxis_axis_ne _ _ e]

theorem Settled.setAxis_motion {s : State} (h : Settled s) {a : Axis} {u : AxisUnit}
    (hm : u.motion = (s.axis a).motion) : Settled (s.setAxis a u) :=
  h.setAxis fun k => hm ▸ k

theorem Settled.setComp {s : State} (h : Settled s) (a : Axis) (c : CompRecord) : Settled (s.setComp a c) :=
  h.of_eq rfl rfl rfl

/-- A seat that leaves the local motion leaves the state settled. -/
theorem Settled.seated {s : State} (h : Settled s) {a : Axis} {u : AxisUnit} {c : CompRecord}
    (hm : u.motion = (s.axis a).motion) : Settled ((s.setAxis a u).setComp a c) :=
  (h.setAxis_motion hm).setComp a c

/-! ## Encoder edges and reference marks -/

/-- Settles O20: an edge and the first mark write one Axis Unit, and no other mark is acted on. -/
theorem encoderAndMarkMeasure : Obligations.EncoderAndMarkMeasure := by
  unfold Obligations.EncoderAndMarkMeasure
  intro s a hs
  refine ⟨fun aLeads => ?_, fun p hp hm => ?_, fun hm => ?_⟩
  · refine completes_event (f := fun t => t.setAxis a ((t.axis a).counted (if aLeads then 1 else -1))) rfl ?_
      (hs.setAxis_motion rfl) rfl
    cases h : (s.axis a).mode <;> simp [AxisUnit.counted, h]
  · refine completes_event rfl ?_ ?_ rfl
    rotate_left
    · refine Settled.setComp ?_ a _
      exact hs.setAxis fun _ => by simp
    simp [takeMark, hp, hm, markSeen, seatComp]
  · refine completes_event rfl ?_ hs rfl
    unfold takeMark
    split
    · rfl
    · simp [hm]

/-! ## Orders of the axes -/

@[simp] theorem axisOf_axisByte (a : Axis) (rest : List Byte) : axisOf (byteAt (axisByte a :: rest) 0) = some a := by
  cases a <;> rfl

/-- The byte of an axis names a missing B for B alone. -/
theorem namesMissingB_axisByte {s : State} {a : Axis} (hb : a = .b → s.link.straps.bFitted = true) (rest : List Byte) :
    namesMissingB s (byteAt (axisByte a :: rest) 0) = false := by
  cases a with
  | b => simp [namesMissingB, hb rfl]
  | x | y | z | w => rfl

theorem axisFlag_bytes (a : Axis) :
    axisFlag [axisByte a, 0] = some (a, false) ∧ axisFlag [axisByte a, 1] = some (a, true) := by
  cases a <;> exact ⟨rfl, rfl⟩

/-- An axis at rest with no motion, no claim and no program takes a mode order (R16). -/
def ModeReady (s : State) (a : Axis) : Prop :=
  (s.axis a).configured = true ∧ s.planner.state = .idle ∧ s.planner.queue = [] ∧ (s.axis a).atRest = true
    ∧ (s.axis a).claim = false ∧ (s.axis a).motion = .idle

theorem axisBusy_eq_false {s : State} {a : Axis} (hr : (s.axis a).atRest = true) (hc : (s.axis a).claim = false)
    (hm : (s.axis a).motion = .idle) : axisBusy s a = false := by
  simp [axisBusy, AxisUnit.lingerIdle, AxisUnit.moving, hr, hc, hm]

theorem plannerBusy_eq_false {s : State} (hst : s.planner.state = .idle) (hq : s.planner.queue = []) :
    plannerBusy s = false := by
  simp [plannerBusy, hst, hq]

theorem modeRefusals_ready {conflict : Mode} {s : State} {a : Axis} {on : Bool} (h : ModeReady s a)
    (hx : on = true → (s.axis a).mode ≠ conflict) : ∀ c ∈ modeRefusals conflict s (a, on), c.1 = false := by
  obtain ⟨hconf, hst, hq, hr, hc, hm⟩ := h
  have hxb : (on && (s.axis a).mode == conflict) = false := by
    cases on with
    | false => rfl
    | true => simpa using hx rfl
  simp [modeRefusals, hconf, plannerBusy_eq_false hst hq, axisBusy_eq_false hr hc hm, hxb]

section ModeOrders

variable {conflict : Mode} {s u : State} {a : Axis} {flag : Byte} {on : Bool} {take : Axis × Bool → State → State}

/-- A Park or Loop order with no check against it is taken with its mode change (R16). -/
theorem modeOrder_accept (hb : a = .b → s.link.straps.bFitted = true) (h : ModeReady s a)
    (hflag : axisFlag [axisByte a, flag] = some (a, on)) (hx : on = true → (s.axis a).mode ≠ conflict) {m : Mode}
    (hu : take (a, on) s = u) (hm : (u.axis a).mode = m) :
    judgeField [(([axisByte a, flag] : List Byte).length != 2, .badLength),
      (namesMissingB s (byteAt [axisByte a, flag] 0), .notFitted)] (axisFlag [axisByte a, flag])
      (modeRefusals conflict s) (fun x => accepted (take x) (axisReply x.1) s) = .accept u (.axisMode a m) := by
  refine (judgeField_accept ?_ hflag (modeRefusals_ready h hx)).trans ?_
  · simp [namesMissingB_axisByte hb]
  · simp [accepted, axisReply, hu, hm]

/-- The mode with which the flag on does not agree refuses it BUSY (R16). -/
theorem modeOrder_busy (hb : a = .b → s.link.straps.bFitted = true) (h : ModeReady s a)
    (hflag : axisFlag [axisByte a, flag] = some (a, true)) (hm : (s.axis a).mode = conflict) :
    judgeField [(([axisByte a, flag] : List Byte).length != 2, .badLength),
      (namesMissingB s (byteAt [axisByte a, flag] 0), .notFitted)] (axisFlag [axisByte a, flag])
      (modeRefusals conflict s) (fun x => accepted (take x) (axisReply x.1) s) = .refuse .busy := by
  simp [judgeField, firstRefusal, namesMissingB_axisByte hb, hflag, judge, modeRefusals, h.1, hm]

end ModeOrders

/-- Parking leaves a clamp that is not RELEASED (R17, R97). -/
theorem parkClamp_eq_self {a : Axis} {s : State} (h : clampTakesPart s a = true → (s.clamp a).state ≠ .released) :
    parkClamp a s = s := by
  simpa [parkClamp] using fun k1 k2 => (h k1 k2).elim

theorem driveFaultIfActive_eq_self {a : Axis} {s : State} (h : (s.axis a).driveFault = false) :
    driveFaultIfActive a s = s := by
  simp [driveFaultIfActive, h]

section Reseat

variable {a : Axis} {s : State}

/-- A referenced axis whose seat lies in its soft limits is seated there (R17). -/
theorem reseat_inside (hr : (s.axis a).referenced = true)
    (hin : withinSoft (s.axis a) (seatPosition s a) = true) :
    reseat a s = seatComp a
      (s.setAxis a
        { s.axis a with
          commanded := seatPosition s a
          output := seatPosition s a + pitchAt (s.compOf a) (seatPosition s a) }) := by
  simp [reseat, hr, hin]

/-- A referenced axis whose seat lies beyond its soft limits loses its reference (R17). -/
theorem reseat_outside (hr : (s.axis a).referenced = true)
    (hout : withinSoft (s.axis a) (seatPosition s a) = false) :
    reseat a s = seatComp a (followMeasured a (s.setAxis a { s.axis a with referenced := false })) := by
  simp [reseat, hr, hout]

@[simp] theorem seatComp_axis (a c : Axis) (s : State) : (seatComp a s).axis c = s.axis c := rfl

@[simp] theorem reseat_driveFault (a : Axis) (s : State) :
    ((reseat a s).axis a).driveFault = (s.axis a).driveFault := by
  unfold reseat
  (repeat' split) <;> simp [followMeasured]

end Reseat

/-- The Axis Unit that leaves LOOP, before its reference is judged (R18). -/
def leftLoop (u : AxisUnit) : AxisUnit :=
  { u with mode := .normal, measured := u.encoder, referenced := u.loopHeld.getD false, loopHeld := none }

/-- Settles O22: each mode and flag of the table of R16, with the seat or the loss of the reference of R17. -/
theorem parkChangesMode : Obligations.ParkChangesMode := by
  unfold Obligations.ParkChangesMode
  intro s tag a hs hroom hb hconf hst hq hr hc hm
  have hready : ModeReady s a := ⟨hconf, hst, hq, hr, hc, hm⟩
  obtain ⟨hoff, hon⟩ := axisFlag_bytes a
  refine ⟨fun hmode hclamp => ?_, fun hmode => ?_, fun hmode => ?_, fun hmode => ?_, fun x hmode hfault hx => ?_⟩
  · refine completes_order (fun _ => rfl) hroom (modeOrder_accept hb hready hon (by simp [hmode]) ?_ (by simp))
      (hs.seated rfl) rfl
    simp only [takePark, hmode, enterParked]
    rw [parkClamp_eq_self (by simpa [clampTakesPart, followMeasured, seatComp] using hclamp)]
    simp [followMeasured, seatComp]
  · exact completes_order (fun _ => rfl) hroom
      (modeOrder_accept hb hready hoff (by simp) (by simp [takePark, hmode]) hmode) hs rfl
  · exact completes_order (fun _ => rfl) hroom
      (modeOrder_accept hb hready hon (by simp [hmode]) (by simp [takePark, hmode]) hmode) hs rfl
  · exact completes_refuse (fun _ => rfl) hroom (modeOrder_busy hb hready hon hmode) hs
  · have htake : takePark (a, false) s = reseat a (s.setAxis a { s.axis a with mode := .normal }) := by
      simp only [takePark, hmode, leaveParked]
      exact driveFaultIfActive_eq_self (by simp [hfault])
    have hpos : seatPosition (s.setAxis a { s.axis a with mode := .normal }) a = x := by simp [seatPosition, hx]
    refine ⟨fun href hin => ?_, fun href hout => ?_, fun href => ?_⟩
    · refine completes_order (fun _ => rfl) hroom (modeOrder_accept hb hready hoff (by simp) ?_ (by simp))
        (hs.seated rfl) rfl
      rw [htake, reseat_inside (by simpa using href) (by rw [hpos]; simpa [withinSoft] using hin), hpos]
      simp [seatComp]
    · refine completes_order (fun _ => rfl) hroom (modeOrder_accept hb hready hoff (by simp) ?_ (by simp))
        (hs.seated rfl) rfl
      rw [htake, reseat_outside (by simpa using href) (by rw [hpos]; simpa [withinSoft] using hout)]
      simp [seatComp, followMeasured]
    · refine completes_order (fun _ => rfl) hroom (modeOrder_accept hb hready hoff (by simp) ?_ (by simp))
        (hs.setAxis_motion rfl) rfl
      rw [htake]
      simp [reseat, href]

/-- Settles O23: each mode and flag of the table of R16, with the simulation and the seat of R18. -/
theorem loopChangesMode : Obligations.LoopChangesMode := by
  unfold Obligations.LoopChangesMode
  intro s tag a hs hroom hb hconf hst hq hr hc hm
  have hready : ModeReady s a := ⟨hconf, hst, hq, hr, hc, hm⟩
  obtain ⟨hoff, hon⟩ := axisFlag_bytes a
  refine ⟨fun hmode => ?_, fun hmode => ?_, fun hmode => ?_, fun hmode => ?_, fun x hmode hfault hx => ?_⟩
  · refine completes_order (fun _ => rfl) hroom (modeOrder_accept hb hready hon (by simp [hmode]) ?_ (by simp))
      (hs.seated rfl) rfl
    simp [takeLoop, hmode, enterLoop, seatComp]
  · exact completes_order (fun _ => rfl) hroom
      (modeOrder_accept hb hready hoff (by simp) (by simp [takeLoop, hmode]) hmode) hs rfl
  · exact completes_order (fun _ => rfl) hroom
      (modeOrder_accept hb hready hon (by simp [hmode]) (by simp [takeLoop, hmode]) hmode) hs rfl
  · exact completes_refuse (fun _ => rfl) hroom (modeOrder_busy hb hready hon hmode) hs
  · have hpos : seatPosition (s.setAxis a (leftLoop (s.axis a))) a = x := by simp [seatPosition, leftLoop, hx]
    have htake : takeLoop (a, false) s
        = if (s.axis a).loopHeld.getD false then reseat a (s.setAxis a (leftLoop (s.axis a)))
          else seatComp a (followMeasured a (s.setAxis a (leftLoop (s.axis a)))) := by
      simp only [takeLoop, hmode, leaveLoop]
      rw [driveFaultIfActive_eq_self]
      · simp [leftLoop]
      · split <;> simp [hfault, followMeasured]
    refine ⟨fun hheld hin => ?_, fun hheld => ?_⟩
    · refine completes_order (fun _ => rfl) hroom (modeOrder_accept hb hready hoff (by simp) ?_ (by simp))
        (hs.seated rfl) rfl
      rw [htake, hheld, Option.getD_some, if_pos rfl, reseat_inside (by simp [leftLoop, hheld])
        (by rw [hpos]; simpa [withinSoft, leftLoop] using hin), hpos]
      simp [seatComp, leftLoop, hheld]
    · refine completes_order (fun _ => rfl) hroom (modeOrder_accept hb hready hoff (by simp) ?_ (by simp))
        (hs.seated rfl) rfl
      rw [htake]
      rcases hheld with hheld | ⟨hheld, hout⟩
      · simp [hheld, followMeasured, seatComp, leftLoop]
      · rw [hheld, Option.getD_some, if_pos rfl, reseat_outside (by simp [leftLoop, hheld])
          (by rw [hpos]; simpa [withinSoft, leftLoop] using hout)]
        simp [followMeasured, seatComp, leftLoop]

end Sys2Proof.Machine

namespace Sys2Proof.Machine

/-! ## Set Axis -/

/-- Rounding by 3, as R2 forms the internal velocities. -/
theorem roundUp_three (n : Nat) : 6 * roundUp n 3 ≤ 2 * n + 3 ∧ 2 * n < 6 * roundUp n 3 + 3 := by
  unfold roundUp
  omega

theorem le_mul_ceilDiv {n d : Nat} (h : 0 < d) : n ≤ d * ceilDiv n d := by
  have hmod := Nat.div_add_mod (n + d - 1) d
  have hlt := Nat.mod_lt (n + d - 1) h
  unfold ceilDiv
  omega

/-- The distance D_ref, rounded up, covers the stop from ref_n (R1). -/
theorem allowance_covers {p : AxisParams} (h : 0 < p.accelN) {room : Int} (hroom : (p.allowance : Int) ≤ room) :
    (p.refN * (p.refN + p.accelN) : Int) ≤ 2 * p.accelN * 1000 * room := by
  have hd : 0 < 2 * p.accelN * 1000 := by omega
  have hcover : p.refN * (p.refN + p.accelN) ≤ 2 * p.accelN * 1000 * p.allowance := le_mul_ceilDiv hd
  calc (p.refN * (p.refN + p.accelN) : Int)
      ≤ 2 * p.accelN * 1000 * p.allowance := by exact_mod_cast hcover
    _ ≤ 2 * p.accelN * 1000 * room := Int.mul_le_mul_of_nonneg_left hroom (by omega)

/-- Settles O25: the range checks of a record, and the internal forms as it is read from its bytes. -/
theorem setAxisRecordChecked : Obligations.SetAxisRecordChecked := by
  unfold Obligations.SetAxisRecordChecked
  intro bytes a p h
  obtain ⟨hrange, hfits, d, fitted, hp⟩ := setAxisOperand_checked h
  simp only [AxisParams.inRange, Bool.and_eq_true, decide_eq_true_eq] at hrange
  obtain ⟨⟨⟨⟨⟨⟨⟨⟨⟨⟨hsoft, hv⟩, ha⟩, hj⟩, hf⟩, href⟩, hdist⟩, hfe⟩, hb⟩, hrate⟩, hl⟩ := hrange
  have hvn : p.vmaxN = roundUp (p.vmax * 100) 3 := by rw [hp]; rfl
  have hrn : p.refN = roundUp (p.refSearchFeed * 100) 3 := by rw [hp]; rfl
  have han : p.accelN = 4 * p.accel := by rw [hp]; exact Nat.mul_comm _ _
  have hpos : 0 < p.accelN := by omega
  have hvr := roundUp_three (p.vmax * 100)
  have hrr := roundUp_three (p.refSearchFeed * 100)
  refine ⟨hsoft.1, hsoft.2.1, hsoft.2.2, href.1, href.2, hv.1, hv.2, ha.1, ha.2, hj.1, hj.2, hdist.1, hdist.2,
    hrate.1, hrate.2, hl, hf.1, hf.2, hfe.1, hfe.2, hb, by omega, by omega, by omega, by omega, han, ?_, ?_⟩
  · intro hd
    simp only [AxisParams.allowanceFits, hd, decide_eq_true_eq] at hfits
    exact allowance_covers hpos (by omega)
  · intro hd
    simp only [AxisParams.allowanceFits, hd, decide_eq_true_eq] at hfits
    exact allowance_covers hpos (by omega)

theorem axisOf_four {n : Nat} (h : n = 4) {a : Axis} (ha : axisOf n = some a) : a = .b := by
  subst h
  simpa [axisOf] using ha.symm

/-- The record in force, with the clamp it fits (R2, R93). -/
theorem placeRecord_eq (a : Axis) (p : AxisParams) (s : State) :
    placeRecord a p s =
      { s with
        axes := s.axes.set a { s.axis a with params := some p }
        clamps :=
          if p.clampFitted && !clampTakesPart s a then
            s.clamps.set a
              ⟨if (s.clamp a).switchClosed then .settling else .engaged, false, none, (s.clamp a).switchClosed⟩
          else s.clamps } := by
  unfold placeRecord
  split <;> rfl

/-- Inputs at rest let a first record act as a later one does (R2). -/
theorem acceptAxis_quiet {a : Axis} {p : AxisParams} {s : State}
    (h : (s.axis a).configured = true
      ∨ ((s.axis a).plusOpen = false ∧ (s.axis a).minusOpen = false ∧ (s.axis a).driveFault = false)) :
    acceptAxis a p s = placeRecord a p s := by
  have haxis : (placeRecord a p s).axis a = { s.axis a with params := some p } := by
    rw [placeRecord_eq]
    exact PerAxis.get_set _ _ _
  unfold acceptAxis
  split
  · rfl
  · next hc =>
    obtain ⟨hplus, hminus, hfault⟩ := h.resolve_left hc
    have kplus : overtravelIfOpen a .plus (placeRecord a p s) = placeRecord a p s := by
      simp [overtravelIfOpen, AxisUnit.switchOpen, haxis, hplus]
    have kminus : overtravelIfOpen a .minus (placeRecord a p s) = placeRecord a p s := by
      simp [overtravelIfOpen, AxisUnit.switchOpen, haxis, hminus]
    rw [kplus, kminus]
    exact driveFaultIfActive_eq_self (by simp [haxis, hfault])

/-- Settles O24: the record is placed, and inputs at rest add nothing to it. -/
theorem setAxisReplacesRecord : Obligations.SetAxisReplacesRecord := by
  unfold Obligations.SetAxisReplacesRecord
  intro s tag bytes a p hs hroom hlen hop hb hbusy hquiet
  have haxis : axisOf (byteAt bytes 0) = some a := by
    simp only [setAxisOperand, Option.bind_eq_bind, Option.bind_eq_some_iff, Option.some.injEq, Prod.mk.injEq] at hop
    obtain ⟨c, hc, d, -, fitted, -, r, -, rfl, -⟩ := hop
    exact hc
  have hmissing : namesMissingB s (byteAt bytes 0) = false := by
    by_cases h4 : byteAt bytes 0 = 4
    · simp [namesMissingB, h4, hb (axisOf_four h4 haxis)]
    · simp [namesMissingB, h4]
  rw [← placeRecord_eq]
  refine completes_order (fun _ => rfl) hroom ?_ ?_ (by simp [placeRecord_eq])
  · refine (judgeField_accept (by simp [hlen, hmissing]) hop (by simpa using hbusy)).trans ?_
    simp only [accepted, acceptAxis_quiet hquiet, axisReply]
    simp [placeRecord_eq, State.axis]
  · refine hs.of_motion (by simp [placeRecord_eq]) (by simp [placeRecord_eq]) fun c hc => ?_
    rw [placeRecord_eq]
    by_cases e : c = a
    · subst e; simpa [State.axis] using hc
    · simpa [State.axis, PerAxis.get_set_ne _ _ e] using hc

/-! ## Reference -/

/-- What losing the reference writes (R3, R82). -/
theorem loseReference_eq (a : Axis) (s : State) :
    loseReference a s =
      { s with
        axes := s.axes.set a
          { s.axis a with
            referenced := false
            commanded := if (s.axis a).referenced then (s.axis a).output else (s.axis a).commanded }
        comp :=
          if (s.axis a).referenced then s.comp.set a { s.compOf a with b := 0, direction := .minus } else s.comp } := by
  unfold loseReference
  cases h : (s.axis a).referenced with
  | true => rfl
  | false =>
    have hself : { s.axis a with referenced := false, commanded := (s.axis a).commanded } = s.axes.get a := by
      rw [← h]; rfl
    simp only [Bool.false_eq_true, if_false]
    rw [hself, PerAxis.set_get]

theorem setLinger_none_eq_self {a : Axis} {s : State} (h : (s.clamp a).linger = none) : setLinger a none s = s := by
  have hself : { s.clamp a with linger := none } = s.clamps.get a := by rw [← h]; rfl
  simp [setLinger, State.setClamp, hself]

/-- A clamp that counts as RELEASED is asked nothing, and the motion begins (R94, R95). -/
theorem askRelease_released {a : Axis} {s : State} (h : clampReleased s a = true) (hl : (s.clamp a).linger = none) :
    askRelease a s = startMoving a s := by
  have hask : (if clampNeeded s a then withOpportunity (askClamp a) s else s) = s := by
    split
    · next hn =>
      have hst : (s.clamp a).state = .released := by simpa [clampReleased, hn] using h
      have hself : askClamp a s = s := by simp [askClamp, hst, setLinger_none_eq_self hl]
      rw [withOpportunity_of_eq (by rw [hself]), hself]
    · rfl
  simp only [askRelease, hask, h, if_true]

/-- A release that joins an idle bank with pressure is granted, and does not end where its switch is open (R89, R90). -/
theorem release_granted {a : Axis} {s : State} (hreq : s.valve.requests = []) (hp : s.valve.pressureOk = true)
    (he : s.stop.estop = .armed) (hsw : (s.clamp a).switchClosed = false) :
    grantOpportunity (joinRequest (.release a) (setClampState a .releaseWait s)) =
      { s with
        clamps := s.clamps.set a { s.clamp a with state := .releasing }
        valve := { s.valve with requests := [⟨.release a, 0, .active s.valve.clampLimit⟩] } } := by
  have hwalk : grantWalk (joinRequest (.release a) (setClampState a .releaseWait s)) =
      { s with
        clamps := s.clamps.set a { s.clamp a with state := .releasing }
        valve := { s.valve with requests := [⟨.release a, 0, .active s.valve.clampLimit⟩] } } := by
    simp [grantWalk, joinRequest, setClampState, hreq, hp, he, walk, flowInUse, Request.isActive, barrier,
      Stroke.weight, Config.flowUnits, strokeLimit, strokeGranted, State.setClamp, State.clamp]
  have hopen : confirmedRequest
      { s with
        clamps := s.clamps.set a { s.clamp a with state := .releasing }
        valve := { s.valve with requests := [⟨.release a, 0, .active s.valve.clampLimit⟩] } } = none := by
    simpa [confirmedRequest, Request.isActive, confirmed, State.clamp] using hsw
  rw [grantOpportunity, hwalk, settleStrokes, hopen]

/-- An ENGAGED clamp with its switch open is asked, granted and waited for, where the bank is free (R95, R96). -/
theorem askRelease_engaged {a : Axis} {s : State} (hn : clampNeeded s a = true) (hst : (s.clamp a).state = .engaged)
    (hreq : s.valve.requests = []) (hp : s.valve.pressureOk = true) (he : s.stop.estop = .armed)
    (hsw : (s.clamp a).switchClosed = false) :
    askRelease a s =
      { s with
        clamps := s.clamps.set a { s.clamp a with state := .releasing }
        valve := { s.valve with requests := [⟨.release a, 0, .active s.valve.clampLimit⟩] } } := by
  have hask : askClamp a s = joinRequest (.release a) (setClampState a .releaseWait s) := by simp [askClamp, hst]
  have hjoin : withOpportunity (askClamp a) s = grantOpportunity (askClamp a s) := by
    rcases withOpportunity_cases (askClamp a) s with ⟨e, -⟩ | ⟨-, e⟩
    · simp [hask, joinRequest] at e
    · exact e
  have hneeded : clampNeeded
      { s with
        clamps := s.clamps.set a { s.clamp a with state := .releasing }
        valve := { s.valve with requests := [⟨.release a, 0, .active s.valve.clampLimit⟩] } } a = true := hn
  simp only [askRelease, hn, if_true, hjoin, hask, release_granted hreq hp he hsw]
  rw [if_neg]
  rw [clampReleased, hneeded]
  simp [State.clamp]

/-- A Reference order in NORMAL up to its ask: the reference lost, the run begun, the linger timer stopped (R13, R97). -/
def referenceAsked (a : Axis) (s : State) : State :=
  { s with
    axes := s.axes.set a
      { s.axis a with
        referenced := false
        commanded := if (s.axis a).referenced then (s.axis a).output else (s.axis a).commanded
        motion := .reference .clampWait
        velocity := 0 }
    comp := if (s.axis a).referenced then s.comp.set a { s.compOf a with b := 0, direction := .minus } else s.comp
    clamps := s.clamps.set a { s.clamp a with linger := none } }

theorem takeReference_normal {a : Axis} {s : State} {p : AxisParams} (hp : (s.axis a).params = some p)
    (hmode : (s.axis a).mode = .normal) : takeReference a s = askRelease a (referenceAsked a s) := by
  rw [State.axis] at hp hmode
  simp [takeReference, hp, hmode, referenceNormal, loseReference_eq, cancelLinger, setLinger, State.setAxis, State.axis,
    State.setClamp, State.clamp, referenceAsked]

/-- The run that was asked for waits with its axis and its linger timer stopped. -/
@[simp] theorem referenceAsked_axis (a : Axis) (s : State) :
    (referenceAsked a s).axis a =
      { s.axis a with
        referenced := false
        commanded := if (s.axis a).referenced then (s.axis a).output else (s.axis a).commanded
        motion := .reference .clampWait
        velocity := 0 } := by
  simp [referenceAsked, State.axis]

@[simp] theorem referenceAsked_clamp (a : Axis) (s : State) :
    (referenceAsked a s).clamp a = { s.clamp a with linger := none } := by
  simp [referenceAsked, State.clamp]

/-- Settles O21: LOOP seats the axis at once; NORMAL loses the reference and asks the clamp. -/
theorem referenceOrderTaken : Obligations.ReferenceOrderTaken := by
  unfold Obligations.ReferenceOrderTaken
  intro s tag a p hs hroom hb hp harmed hsite hst hq hr hc hm hlatch
  have haccept : (s.axis a).mode ≠ .parked → ((s.axis a).mode = .normal → driveEnable s a = true) →
      ∀ u, takeReference a s = u →
        referenceOrder [axisByte a] s = .accept u (.axisMode a (u.axis a).mode) := by
    intro hpark hdrive u hu
    have hnormal : ((s.axis a).mode == .normal && !driveEnable s a) = false := by
      cases hmode : (s.axis a).mode <;> simp [hmode] at hdrive ⊢
      exact hdrive
    refine (judgeField_accept ?_ (axisOf_axisByte a []) ?_).trans (by simp [accepted, axisReply, hu])
    · simp [namesMissingB_axisByte hb]
    · simp [referenceRefusals, AxisUnit.configured, hp, harmed, hsite, plannerBusy_eq_false hst hq,
        axisBusy_eq_false hr hc hm, hnormal, hpark, towardLatch, hlatch]
  have hset : Settled (referenceAsked a s) := hs.of_motion rfl rfl fun c hcm => by
    by_cases e : c = a
    · subst e; simp
    · simpa [referenceAsked, State.axis, PerAxis.get_set_ne _ _ e] using hcm
  refine ⟨fun hmode => ?_, fun hmode hdrive hreq hclamp => ?_, fun hmode hdrive hreq hfit hen hsw hpok => ?_⟩
  · have hu : takeReference a s = referenceLoop a p s := by simp [takeReference, hp, hmode]
    refine completes_order (fun _ => rfl) hroom ((haccept (by simp [hmode]) (by simp [hmode]) _ hu).trans ?_) ?_ rfl
    · simp [referenceLoop, seatComp, hmode]
    · exact hs.seated rfl
  · have hrel : clampReleased (referenceAsked a s) a = true := by
      rcases hclamp with hfit | hrel
      · simp [clampReleased, clampNeeded, clampTakesPart, hp, hfit]
      · simp [clampReleased, hrel]
    have hu : takeReference a s = startMoving a (referenceAsked a s) := by
      rw [takeReference_normal hp hmode, askRelease_released hrel (by simp)]
    have hmove : startMoving a (referenceAsked a s) = (referenceAsked a s).setAxis a
        { (referenceAsked a s).axis a with
          motion := .reference .moving
          searchGoal := ((referenceAsked a s).axis a).commanded + signed p.refDirection p.refSearchDistance
          p := ((referenceAsked a s).axis a).commanded * 1000
          velocity := 0 } := by
      simp [startMoving, hp]
    rw [hmove] at hu
    obtain ⟨t, ht, hform, howes⟩ := completes_order (c := .reference tag [axisByte a]) (fun _ => rfl) hroom
      (haccept (by simp [hmode]) (fun _ => hdrive) _ hu) (hset.setAxis fun _ => by simp) rfl
    refine ⟨t, _, ht, rfl, ?_, ?_, ?_, ?_, ?_⟩
    · rw [hform]; rfl
    · rw [hform]
      simp [referenceAsked, State.axis]
    · rw [hform]; rfl
    · rw [hform]; rfl
    · simpa [hmode] using howes
  · have hneeded : clampNeeded (referenceAsked a s) a = true := by
      simp [clampNeeded, clampTakesPart, hp, hfit, hmode]
    have hu := takeReference_normal hp hmode
    rw [askRelease_engaged hneeded (by simpa using hen) hreq hpok harmed (by simpa using hsw)] at hu
    have hwait : s.valve.hydraulicWait = none ∧ s.valve.hydraulicExpired = false := by
      have hs2 := hs.2
      unfold HydraulicSettled at hs2
      rwa [if_neg (by simp [hpok])] at hs2
    have hset' : Settled { referenceAsked a s with
        clamps := (referenceAsked a s).clamps.set a { (referenceAsked a s).clamp a with state := .releasing }
        valve := { s.valve with requests := [⟨.release a, 0, .active s.valve.clampLimit⟩] } } := by
      refine ⟨hset.1.of_eq rfl rfl, ?_⟩
      simp [HydraulicSettled, hpok, hwait.1, hwait.2]
    obtain ⟨t, ht, hform, howes⟩ := completes_order (c := .reference tag [axisByte a]) (fun _ => rfl) hroom
      (haccept (by simp [hmode]) (fun _ => hdrive) _ hu) hset' rfl
    refine ⟨t, ht, ?_, ?_, ?_, ?_, ?_, ?_, ?_⟩
    · rw [hform]; simp [referenceAsked, State.axis]
    · rw [hform]; simp [referenceAsked, State.axis]
    · rw [hform]; simp [referenceAsked, State.clamp]
    · rw [hform]; rfl
    · intro c hc
      rw [hform]
      simp [referenceAsked, State.axis, PerAxis.get_set_ne _ _ hc]
    · rw [hform]; rfl
    · rw [State.axis] at hmode
      simpa [hmode, State.axis, referenceAsked] using howes

end Sys2Proof.Machine

namespace Sys2Proof.Machine

/-! ## Queue Move: the payload of a MOVE and what it decodes to -/

theorem byteAt_append (pre rest : List Byte) (i : Nat) : byteAt (pre ++ rest) (pre.length + i) = byteAt rest i := by
  simp [byteAt, List.getElem?_append_right]

theorem le32_append (pre rest : List Byte) : le32 (pre ++ rest) pre.length = le32 rest 0 := by
  have h0 := byteAt_append pre rest 0
  simp only [le32, le16, Nat.add_assoc, byteAt_append]
  simpa using h0

/-- A field in two's complement reads back (R204). -/
theorem sle32_sleBytes {x : Int} (hlo : -2147483648 ≤ x) (hhi : x < 2147483648) (rest : List Byte) :
    sle32 (sleBytes 4 x ++ rest) 0 = x := by
  have hn : (x % (256 ^ 4 : Nat)).toNat < 4294967296 := by omega
  rw [sle32, sleBytes, le32_leBytes _ hn]
  split <;> omega

@[simp] theorem length_leBytes (n v : Nat) : (leBytes n v).length = n := by
  induction n generalizing v with
  | zero => rfl
  | succ n ih => simp [leBytes, ih]

@[simp] theorem length_sleBytes (n : Nat) (x : Int) : (sleBytes n x).length = n := length_leBytes _ _

/-- The axis set names the axes that have a target (R204). -/
theorem inSet_setByte (targets : PerAxis (Option Int)) (a : Axis) :
    inSet (setByte targets).toNat a = (targets.get a).isSome := by
  have hbits : ∀ x y z w b : Bool,
      inSet ((if x then 1 else 0) + (if y then 2 else 0) + (if z then 4 else 0) + (if w then 8 else 0)
        + (if b then 16 else 0) : Byte).toNat a = PerAxis.get ⟨x, y, z, w, b⟩ a := by cases a <;> decide
  rw [setByte, hbits]
  cases a <;> rfl

theorem setByte_pos {targets : PerAxis (Option Int)} {a : Axis} (h : (targets.get a).isSome = true) :
    (setByte targets).toNat ≠ 0 := by
  intro h0
  rw [← inSet_setByte, h0] at h
  simp [inSet] at h

theorem setByte_lt (targets : PerAxis (Option Int)) : (setByte targets).toNat < 32 := by
  have hbits : ∀ x y z w b : Bool,
      ((if x then 1 else 0) + (if y then 2 else 0) + (if z then 4 else 0) + (if w then 8 else 0)
        + (if b then 16 else 0) : Byte).toNat < 32 := by decide
  exact hbits _ _ _ _ _

/-- The bytes of the targets of some axes. -/
def targetBytes (targets : PerAxis (Option Int)) (axes : List Axis) : List Byte :=
  (axes.filterMap targets.get).flatMap (sleBytes 4)

theorem targetBytes_append (targets : PerAxis (Option Int)) (l r : List Axis) :
    targetBytes targets (l ++ r) = targetBytes targets l ++ targetBytes targets r := by
  simp [targetBytes]

theorem targetBytes_cons {targets : PerAxis (Option Int)} {a : Axis} {x : Int} (h : targets.get a = some x)
    (l : List Axis) : targetBytes targets (a :: l) = sleBytes 4 x ++ targetBytes targets l := by
  simp [targetBytes, h]

theorem length_targetBytes (targets : PerAxis (Option Int)) (l : List Axis) :
    (targetBytes targets l).length = 4 * (l.filter (inSet (setByte targets).toNat)).length := by
  induction l with
  | nil => rfl
  | cons a l ih =>
    cases h : targets.get a with
    | none => simpa [targetBytes, inSet_setByte, h] using ih
    | some x =>
      rw [targetBytes_cons h]
      simp [inSet_setByte, h, ih]
      omega

theorem moveBytes_eq (targets : PerAxis (Option Int)) (m : FeedMode) (feed : Nat) :
    moveBytes targets m feed = ([setByte targets, m.byte] ++ leBytes 2 feed) ++ targetBytes targets axesInOrder := rfl

@[simp] theorem byteAt_moveBytes_zero (targets : PerAxis (Option Int)) (m : FeedMode) (feed : Nat) :
    byteAt (moveBytes targets m feed) 0 = (setByte targets).toNat := rfl

theorem moveBytes_length (targets : PerAxis (Option Int)) (m : FeedMode) (feed : Nat) :
    (moveBytes targets m feed).length = moveLength (moveBytes targets m feed) := by
  rw [moveLength, axesOfSet, byteAt_moveBytes_zero, moveBytes_eq]
  simp [length_targetBytes]
  omega

theorem axesInOrder_split (a : Axis) :
    axesInOrder = axesInOrder.take (axisNumber a) ++ a :: axesInOrder.drop (axisNumber a + 1) := by
  cases a <;> rfl

/-- The target of an axis stands at its offset (R204). -/
theorem sle32_targetOffset {targets : PerAxis (Option Int)} {a : Axis} {x : Int} (h : targets.get a = some x)
    (hlo : -2147483648 ≤ x) (hhi : x < 2147483648) (m : FeedMode) (feed : Nat) :
    sle32 (moveBytes targets m feed) (targetOffset (setByte targets).toNat a) = x := by
  have hbytes : moveBytes targets m feed =
      ([setByte targets, m.byte] ++ leBytes 2 feed ++ targetBytes targets (axesInOrder.take (axisNumber a)))
        ++ (sleBytes 4 x ++ targetBytes targets (axesInOrder.drop (axisNumber a + 1))) := by
    rw [moveBytes_eq]
    conv_lhs => rw [axesInOrder_split a]
    rw [targetBytes_append, targetBytes_cons h]
    simp
  have hoffset : targetOffset (setByte targets).toNat a =
      ([setByte targets, m.byte] ++ leBytes 2 feed
        ++ targetBytes targets (axesInOrder.take (axisNumber a))).length := by
    simp [targetOffset, length_targetBytes]
    omega
  rw [hbytes, hoffset, sle32, le32_append]
  exact sle32_sleBytes hlo hhi _

/-- The targets of a MOVE read back, where each fits its field (R204). -/
theorem moveTargets_moveBytes {targets : PerAxis (Option Int)}
    (h : ∀ a x, targets.get a = some x → -2147483648 ≤ x ∧ x < 2147483648) (m : FeedMode) (feed : Nat) :
    moveTargets (moveBytes targets m feed) = targets := by
  refine PerAxis.ext_get fun a => ?_
  rw [moveTargets, PerAxis.get_of, byteAt_moveBytes_zero, inSet_setByte]
  cases ha : targets.get a with
  | none => simp
  | some x => simpa using sle32_targetOffset ha (h a x ha).1 (h a x ha).2 m feed

/-- A feed that fits its mode reads back (2.1). -/
theorem feedOf_byte {m : FeedMode} {feed : Nat} (h : feedFits m feed) : feedOf m.byte.toNat feed = some m := by
  cases m <;> simpa [feedFits, feedOf, FeedMode.byte] using h

theorem feedFits_lt {m : FeedMode} {feed : Nat} (h : feedFits m feed) : feed < 65536 := by
  cases m <;> simp only [feedFits] at h <;> omega

/-- A MOVE with targets in travel reads back from its payload (R24, R204). -/
theorem moveEntry_moveBytes {targets : PerAxis (Option Int)} {m : FeedMode} {feed : Nat} (hfeed : feedFits m feed)
    (hsome : ∃ a x, targets.get a = some x) (htravel : ∀ a x, targets.get a = some x → 0 ≤ x ∧ x ≤ travelTop a) :
    moveEntry (moveBytes targets m feed) = some (.move targets m feed) := by
  obtain ⟨a, x, ha⟩ := hsome
  have htop : ∀ c, travelTop c < 2147483648 := fun c => by cases c <;> decide
  have htargets := moveTargets_moveBytes (targets := targets) (m := m) (feed := feed)
    fun c y hc => ⟨by have := htravel c y hc; omega, by have := htravel c y hc; have := htop c; omega⟩
  have hall : axesInOrder.all (targetInTravel targets) = true := by
    rw [List.all_eq_true]
    intro c _
    cases hc : targets.get c with
    | none => simp [targetInTravel, hc]
    | some y => simpa [targetInTravel, hc] using htravel c y hc
  have hfeed16 : le16 (moveBytes targets m feed) 2 = feed := by
    have h := feedFits_lt hfeed
    simp [moveBytes, leBytes, le16, byteAt]
    omega
  have hmode : byteAt (moveBytes targets m feed) 1 = m.byte.toNat := rfl
  have hset : ¬((setByte targets).toNat = 0 ∨ 32 ≤ (setByte targets).toNat
      ∨ (!axesInOrder.all (targetInTravel targets)) = true) := by
    have := setByte_lt targets
    have := setByte_pos (a := a) (by rw [ha]; rfl)
    simp only [hall]
    simp
    omega
  rw [moveEntry, htargets, byteAt_moveBytes_zero, if_neg hset, hfeed16, hmode, feedOf_byte hfeed]
  rfl

/-- A goal that is not beyond the commanded position toward a latched end stays (R12). -/
theorem latchGoal_eq_self {u : AxisUnit} {x : Int} (hplus : u.latchPlus = true → x ≤ u.commanded)
    (hminus : u.latchMinus = true → u.commanded ≤ x) : latchGoal u x = x := by
  refine if_neg ?_
  simp only [Bool.or_eq_true, Bool.and_eq_true, decide_eq_true_eq]
  rintro (⟨h1, h2⟩ | ⟨h1, h2⟩)
  · exact absurd (hplus h1) (by omega)
  · exact absurd (hminus h1) (by omega)

theorem someAxis_eq_false {targets : PerAxis (Option Int)} {f : Axis → Bool}
    (h : ∀ a x, targets.get a = some x → f a = false) : someAxis targets f = false := by
  simp only [someAxis, List.any_eq_false]
  intro a _
  cases ha : targets.get a with
  | none => simp
  | some x => simp [h a x ha]

/-- The checks of R24 pass for targets that their axes can reach. -/
theorem moveRefusals_pass {s : State} {targets : PerAxis (Option Int)} {m : FeedMode} {feed : Nat}
    (habort : s.planner.state ≠ .aborting) (hroom : s.planner.queue.length < 32)
    (htable : m = .perRev → s.gear.table.isSome = true)
    (hreach : ∀ a x, targets.get a = some x → Reachable (s.axis a) x ∧ latchGoal (s.axis a) x = x) :
    ∀ c ∈ moveRefusals s (.move targets m feed), c.1 = false := by
  have hconfigured : someAxis targets (fun a => !(s.axis a).configured) = false :=
    someAxis_eq_false fun a x ha => by simpa [AxisUnit.configured] using (hreach a x ha).1.1
  have hparked : someAxis targets (fun a => (s.axis a).mode == .parked) = false :=
    someAxis_eq_false fun a x ha => by simpa using (hreach a x ha).1.2.2.1
  have hreferenced : someAxis targets (fun a => !(s.axis a).referenced) = false :=
    someAxis_eq_false fun a x ha => by simpa using (hreach a x ha).1.2.1
  have hlimits : (axesInOrder.any fun a => outOfLimits s a (targets.get a)) = false := by
    simp only [List.any_eq_false]
    intro a _
    cases ha : targets.get a with
    | none => simp [outOfLimits]
    | some x => simp [outOfLimits, (hreach a x ha).2, (hreach a x ha).1.2.2.2]
  have hrev : (m == .perRev && s.gear.table.isNone) = false := by
    cases m with
    | perRev => simpa using htable rfl
    | perMinute => rfl
    | rapid => rfl
  simp [moveRefusals, hconfigured, hparked, hreferenced, hlimits, hrev, habort, Config.programQueueCapacity]
  exact decide_eq_false (by omega)

/-- Settles O12: the payload decodes to its move, the move passes the checks of R24, and the queue takes it. -/
theorem queueMoveAppends : Obligations.QueueMoveAppends := by
  unfold Obligations.QueueMoveAppends
  intro s tag targets m feed hs hreply habort hroom hfeed htable hsome hb htargets
  have hentry := moveEntry_moveBytes hfeed hsome fun a x ha => ⟨(htargets a x ha).1, (htargets a x ha).2.1⟩
  have hchecks := moveRefusals_pass (feed := feed) habort hroom htable fun a x ha => by
    obtain ⟨-, -, hreach, hplus, hminus⟩ := htargets a x ha
    exact ⟨hreach, latchGoal_eq_self hplus hminus⟩
  have hfitted : (inSet (setByte targets).toNat .b && !s.link.straps.bFitted) = false := by
    cases h : (targets.get .b).isSome with
    | false => simp [inSet_setByte, h]
    | true => simp [hb h]
  refine completes_order (fun _ => rfl) hreply ?_ (hs.of_motion rfl rfl fun _ h => h) rfl
  refine (judgeField_accept ?_ hentry hchecks).trans ?_
  · simp [moveBytes_length, hfitted]
  · simp [takeEntry, accepted, appendEntry, freeSlots, Config.programQueueCapacity]

end Sys2Proof.Machine

namespace Sys2Proof.Machine

/-! ## The immediate stop and the faults of an axis -/

/-- An Axis Unit that an immediate stop has stopped, its claim as the planner leaves it (R10). -/
def AxisUnit.stopped (u : AxisUnit) (claim : Bool) : AxisUnit :=
  { u with motion := .idle, velocity := 0, claim := claim }

theorem axisStop_axes (a : Axis) (s : State) :
    (axisStop a s).axes = s.axes.set a ((s.axis a).stopped (s.axis a).claim) := by
  unfold axisStop
  split
  · exact (jogEndedByStop_frame a _).2.2.1
  · rfl

theorem axisStop_all (s : State) :
    (eachAxis axisStop s).axes = s.axes.map fun u => u.stopped u.claim := by
  refine PerAxis.ext_get fun c => ?_
  rw [PerAxis.get_map]
  simp only [eachAxis, axisStop_axes, State.axis]
  cases c <;> rfl

theorem headLeaves_axis (o : EntryOutcome) (s : State) (c : Axis) :
    ∃ k, (headLeaves o s).axis c = { s.axis c with claim := k } := by
  unfold headLeaves
  split
  · exact ⟨(s.axis c).claim, rfl⟩
  · exact ⟨false, by simp [State.axis, releaseClaims]⟩

/-- An immediate stop ends every local motion, and the abort may take the claims; nothing else of an axis changes. -/
theorem immediateStop_axis (s : State) (c : Axis) : ∃ k, (immediateStop s).axis c = (s.axis c).stopped k := by
  obtain ⟨k, hk⟩ := headLeaves_axis .aborted (gearAbort (eachAxis axisStop s)) c
  refine ⟨k, ?_⟩
  have hstopped : (gearAbort (eachAxis axisStop s)).axis c = (s.axis c).stopped (s.axis c).claim := by
    simp [State.axis, axisStop_all]
  have haxis : (immediateStop s).axis c = (headLeaves .aborted (gearAbort (eachAxis axisStop s))).axis c := by
    simp [immediateStop, completeAbort, State.axis]
  rw [haxis, hk, hstopped]
  rfl

/-- With no gear change in progress an immediate stop leaves the other blocks alone (R10, R139). -/
theorem immediateStop_blocks {s : State} (h : s.gear.step = .idle) :
    (immediateStop s).gear = s.gear ∧ (immediateStop s).spindle = s.spindle
      ∧ (immediateStop s).coolant = s.coolant ∧ (immediateStop s).valve = s.valve := by
  have hgear : gearAbort (eachAxis axisStop s) = eachAxis axisStop s := by simp [gearAbort, eachAxis, h]
  rw [immediateStop, hgear]
  simp [eachAxis]

/-- The end of an event leaves a hydraulic wait that has settled. -/
theorem finish_valve {s t : State} (h : HydraulicSettled t) : (finish s t).valve = t.valve := by
  have hs : HydraulicSettled (siteReturn t) := h.of_eq (by simp)
  simp [finish, hydraulicCheck_eq_self hs]

@[simp] theorem finish_axis (s t : State) (c : Axis) : (finish s t).axis c = t.axis c := by simp [State.axis]

/-- The condition flag of a pair follows in the entries of the list (R186). -/
theorem setCondition_eq (c : FaultCode) (q : Qualifier) (v : Bool) (s : State) :
    setCondition c q v s =
      { s with
        stop :=
          { s.stop with
            faults :=
              s.stop.faults.map fun f =>
                if f.code = c ∧ f.qualifier = q then { f with condition := v } else f } } := by
  simp [setCondition, FaultEntry.isPair]

@[simp] theorem setCondition_axis (c : FaultCode) (q : Qualifier) (v : Bool) (s : State) (a : Axis) :
    (setCondition c q v s).axis a = s.axis a := rfl

@[simp] theorem raiseFault_axis (c : FaultCode) (q : Qualifier) (s : State) (a : Axis) :
    (raiseFault c q s).axis a = s.axis a := by
  simp [State.axis]

theorem loseReference_axis_same (a : Axis) (s : State) :
    (loseReference a s).axis a =
      { s.axis a with
        referenced := false
        commanded := if (s.axis a).referenced then (s.axis a).output else (s.axis a).commanded } := by
  rw [loseReference_eq]
  exact PerAxis.get_set _ _ _

theorem loseReference_axis_ne {a c : Axis} (h : c ≠ a) (s : State) : (loseReference a s).axis c = s.axis c := by
  rw [loseReference_eq]
  exact PerAxis.get_set_ne _ _ h

/-- What a fault of an axis leaves at that axis: stopped, unreferenced, commanded at its output if it was referenced
(R3, R9). -/
theorem axisFault_axis_same (c : FaultCode) (a : Axis) (s : State) :
    ∃ k, (axisFault c a s).axis a =
      { (s.axis a).stopped k with
        referenced := false
        commanded := if (s.axis a).referenced then (s.axis a).output else (s.axis a).commanded } := by
  obtain ⟨k, hk⟩ := immediateStop_axis (raiseFault c (.axis a) s) a
  refine ⟨k, ?_⟩
  simp [axisFault, loseReference_axis_same, hk, AxisUnit.stopped]

theorem axisFault_axis_ne (f : FaultCode) {a c : Axis} (h : c ≠ a) (s : State) :
    ∃ k, (axisFault f a s).axis c = (s.axis c).stopped k := by
  obtain ⟨k, hk⟩ := immediateStop_axis (raiseFault f (.axis a) s) c
  exact ⟨k, by simp [axisFault, loseReference_axis_ne h, hk]⟩

/-- A fault of an axis leaves an idle planner with no program (R9, R47). -/
theorem axisFault_planner (c : FaultCode) (a : Axis) (s : State) : (axisFault c a s).planner = idlePlanner [] := by
  simp [axisFault]

theorem axisFault_blocks (c : FaultCode) (a : Axis) {s : State} (h : s.gear.step = .idle) :
    (axisFault c a s).gear = s.gear ∧ (axisFault c a s).spindle = s.spindle
      ∧ (axisFault c a s).coolant = s.coolant ∧ (axisFault c a s).valve = s.valve := by
  obtain ⟨hg, hs, hc, hv⟩ := immediateStop_blocks (s := raiseFault c (.axis a) s) (by simpa using h)
  simp [axisFault, hg, hs, hc, hv]

theorem axisFault_stop (c : FaultCode) (a : Axis) (s : State) :
    (axisFault c a s).stop = (raiseFault c (.axis a) s).stop := by
  simp [axisFault]

/-! ## The drive-fault input -/

/-- Without a drive enable there is a DRIVE_FAULT entry, or another of the conditions of R7. -/
theorem driveEnable_of_driveFault {s : State} {a : Axis} (h : hasFault s .driveFault (.axis a) = true) :
    driveEnable s a = false := by
  simp [driveEnable, h]

/-- The level written and the entry's condition following, all that the drive-fault input does on an axis that is not
watched (R9, R186). -/
def driveFaultWritten (a : Axis) (v : Bool) (s : State) : State :=
  setCondition .driveFault (.axis a) v (s.setAxis a { s.axis a with driveFault := v })

theorem driveFaultWritten_same (a : Axis) (v : Bool) (s : State) :
    (driveFaultWritten a v s).axis a = { s.axis a with driveFault := v } := by
  simp [driveFaultWritten]

theorem driveFaultWritten_ne {a c : Axis} (h : c ≠ a) (v : Bool) (s : State) :
    (driveFaultWritten a v s).axis c = s.axis c := by
  simp [driveFaultWritten, State.setAxis_axis_ne _ _ h]

theorem driveFaultChange_of_ne {a : Axis} {v : Bool} {s : State} (h : (s.axis a).driveFault ≠ v) :
    driveFaultChange a v s =
      if v && driveFaultWatched s a then axisFault .driveFault a (driveFaultWritten a v s)
      else driveFaultWritten a v s := by
  have hwatched : driveFaultWatched (driveFaultWritten a v s) a = driveFaultWatched s a := by
    rw [driveFaultWatched, driveFaultWritten_same]
    rfl
  rw [← hwatched, driveFaultChange, if_neg (by simpa using h)]
  rfl

/-- What a drive fault leaves of every axis: stopped, and its positions but the commanded one of the faulted axis. -/
theorem driveFault_axis (a : Axis) (s : State) (c : Axis) :
    ((axisFault .driveFault a s).axis c).motion = .idle ∧ ((axisFault .driveFault a s).axis c).velocity = 0
      ∧ ((axisFault .driveFault a s).axis c).output = (s.axis c).output
      ∧ ((axisFault .driveFault a s).axis c).measured = (s.axis c).measured := by
  by_cases h : c = a
  · subst h
    obtain ⟨k, hk⟩ := axisFault_axis_same .driveFault c s
    rw [hk]
    exact ⟨rfl, rfl, rfl, rfl⟩
  · obtain ⟨k, hk⟩ := axisFault_axis_ne .driveFault h s
    rw [hk]
    exact ⟨rfl, rfl, rfl, rfl⟩

/-- Settles O27: a level written, and the fault of a watched axis. -/
theorem driveFaultStops : Obligations.DriveFaultStops := by
  unfold Obligations.DriveFaultStops
  intro s a hs
  refine ⟨?_, fun v hv hun => ?_, fun hin hconf hmode => ?_⟩
  · exact completes_event (f := driveFaultChange a (s.axis a).driveFault) rfl (by simp [driveFaultChange]) hs rfl
  · refine completes_event (f := driveFaultChange a v) rfl ?_
      ((hs.setAxis_motion (a := a) (u := { s.axis a with driveFault := v }) rfl).of_eq rfl rfl rfl) rfl
    have hunwatched : (v && driveFaultWatched s a) = false := by
      rcases hun with rfl | hc | hm
      · rfl
      · simp [driveFaultWatched, hc]
      · simp [driveFaultWatched, hm]
    rw [driveFaultChange_of_ne hv, hunwatched]
    exact setCondition_eq ..
  · have hchange : driveFaultChange a true s = axisFault .driveFault a (driveFaultWritten a true s) := by
      simp [driveFaultChange_of_ne (show (s.axis a).driveFault ≠ true by simp [hin]), driveFaultWatched, hconf, hmode]
    have hev : exec (.driveFaultInput a true) s =
        .next (finish s (axisFault .driveFault a (driveFaultWritten a true s))) := by
      rw [← hchange]; rfl
    obtain ⟨k, hsame⟩ := axisFault_axis_same .driveFault a (driveFaultWritten a true s)
    rw [driveFaultWritten_same] at hsame
    have hfault : hasFault (finish s (axisFault .driveFault a (driveFaultWritten a true s))) .driveFault (.axis a)
        = true := by
      rw [hasFault_of_stop_eq (s := raiseFault .driveFault (.axis a) (driveFaultWritten a true s))
        (by simp [axisFault_stop])]
      exact hasFault_raiseFault _ _ _
    refine ⟨_, hev, hfault, ?_, ?_, driveEnable_of_driveFault hfault, fun hr => ?_, fun c => ?_, fun c hc => ?_,
      fun c => ?_, ?_, ?_, ?_, ?_, ?_, fun hg => ?_⟩
    · rw [finish_axis, hsame]; rfl
    · rw [finish_axis, hsame]
    · rw [finish_axis, hsame]; exact if_pos hr
    · obtain ⟨hmot, hvel, -⟩ := driveFault_axis a (driveFaultWritten a true s) c
      exact ⟨by rw [finish_axis, hmot], by rw [finish_axis, hvel]⟩
    · obtain ⟨j, hj⟩ := axisFault_axis_ne .driveFault hc (driveFaultWritten a true s)
      rw [finish_axis, hj, driveFaultWritten_ne hc]
      exact ⟨rfl, rfl⟩
    · obtain ⟨-, -, hout, hmeas⟩ := driveFault_axis a (driveFaultWritten a true s) c
      rw [finish_axis, hout, hmeas]
      by_cases hc : c = a
      · subst hc; rw [driveFaultWritten_same]; exact ⟨rfl, rfl⟩
      · rw [driveFaultWritten_ne hc]; exact ⟨rfl, rfl⟩
    · simp [axisFault_planner, idlePlanner]
    · simp [axisFault_planner, idlePlanner]
    · simp [axisFault_planner, idlePlanner]
    · simp [driveFaultWritten]
    · simp [axisFault_stop, driveFaultWritten, setCondition]
    · obtain ⟨hgear, hspindle, hcoolant, hvalve⟩ :=
        axisFault_blocks .driveFault a (s := driveFaultWritten a true s) (by simpa [driveFaultWritten] using hg)
      have hsettled : HydraulicSettled (axisFault .driveFault a (driveFaultWritten a true s)) :=
        hs.2.of_eq (by rw [hvalve]; rfl)
      rw [finish_valve hsettled, hvalve]
      simp only [finish_frame, hgear, hspindle, hcoolant]
      exact ⟨rfl, rfl, rfl, rfl⟩

/-! ## The overtravel switches -/

/-- A switch level and a latch, in the fields that the statements read. -/
theorem putSwitch_fields (u : AxisUnit) (d : Sign) (v : Bool) :
    (u.putSwitch d v).switchOpen d = v ∧ (u.putSwitch d v).motion = u.motion
      ∧ (u.putSwitch d v).params = u.params ∧ (∀ e, (u.putSwitch d v).latch e = u.latch e)
      ∧ (u.putSwitch d v).commanded = u.commanded ∧ (u.putSwitch d v).output = u.output
      ∧ (u.putSwitch d v).measured = u.measured ∧ (u.putSwitch d v).referenced = u.referenced := by
  cases d with
  | plus => exact ⟨rfl, rfl, rfl, fun e => by cases e <;> rfl, rfl, rfl, rfl, rfl⟩
  | minus => exact ⟨rfl, rfl, rfl, fun e => by cases e <;> rfl, rfl, rfl, rfl, rfl⟩

theorem putLatch_fields (u : AxisUnit) (d : Sign) (v : Bool) :
    (u.putLatch d v).latch d = v ∧ (∀ e, e ≠ d → (u.putLatch d v).latch e = u.latch e)
      ∧ (u.putLatch d v).switchOpen d = u.switchOpen d
      ∧ (u.putLatch d v).commanded = u.commanded ∧ (u.putLatch d v).output = u.output
      ∧ (u.putLatch d v).measured = u.measured ∧ (u.putLatch d v).referenced = u.referenced := by
  cases d with
  | plus =>
    exact ⟨rfl, fun e he => by cases e with | plus => exact absurd rfl he | minus => rfl, rfl, rfl, rfl, rfl, rfl⟩
  | minus =>
    exact ⟨rfl, fun e he => by cases e with | plus => rfl | minus => exact absurd rfl he, rfl, rfl, rfl, rfl, rfl⟩

theorem stopped_fields (u : AxisUnit) (k : Bool) (d : Sign) :
    (u.stopped k).latch d = u.latch d ∧ (u.stopped k).switchOpen d = u.switchOpen d := by
  cases d <;> exact ⟨rfl, rfl⟩

/-- The level written and the entry's condition following, all that an overtravel switch does without opening on a
configured axis (R11, R186). -/
def switchWritten (a : Axis) (d : Sign) (v : Bool) (s : State) : State :=
  setCondition .overtravel (.axisEnd a d) v (s.setAxis a ((s.axis a).putSwitch d v))

theorem switchWritten_same (a : Axis) (d : Sign) (v : Bool) (s : State) :
    (switchWritten a d v s).axis a = (s.axis a).putSwitch d v := by
  simp [switchWritten]

theorem switchWritten_ne {a c : Axis} (h : c ≠ a) (d : Sign) (v : Bool) (s : State) :
    (switchWritten a d v s).axis c = s.axis c := by
  simp [switchWritten, State.setAxis_axis_ne _ _ h]

theorem switchWritten_latch (a : Axis) (d : Sign) (v : Bool) (s : State) (c : Axis) (e : Sign) :
    ((switchWritten a d v s).axis c).latch e = (s.axis c).latch e := by
  by_cases h : c = a
  · subst h
    obtain ⟨-, -, -, hlatch, -⟩ := putSwitch_fields (s.axis c) d v
    rw [switchWritten_same, hlatch]
  · rw [switchWritten_ne h]

theorem switchWritten_positions (a : Axis) (d : Sign) (v : Bool) (s : State) (c : Axis) :
    ((switchWritten a d v s).axis c).commanded = (s.axis c).commanded
      ∧ ((switchWritten a d v s).axis c).output = (s.axis c).output
      ∧ ((switchWritten a d v s).axis c).measured = (s.axis c).measured
      ∧ ((switchWritten a d v s).axis c).referenced = (s.axis c).referenced := by
  by_cases h : c = a
  · subst h
    obtain ⟨-, -, -, -, hpos⟩ := putSwitch_fields (s.axis c) d v
    rw [switchWritten_same]
    exact hpos
  · rw [switchWritten_ne h]
    exact ⟨rfl, rfl, rfl, rfl⟩

theorem switchWritten_configured (a : Axis) (d : Sign) (v : Bool) (s : State) :
    ((switchWritten a d v s).axis a).configured = (s.axis a).configured := by
  obtain ⟨-, -, hparams, -⟩ := putSwitch_fields (s.axis a) d v
  rw [switchWritten_same, AxisUnit.configured, AxisUnit.configured, hparams]

theorem overtravelChange_of_ne {a : Axis} {d : Sign} {v : Bool} {s : State} (h : (s.axis a).switchOpen d ≠ v) :
    overtravelChange a d v s =
      if v && (s.axis a).configured then overtravelOpens a d (switchWritten a d v s) else switchWritten a d v s := by
  rw [← switchWritten_configured a d v s, overtravelChange, if_neg (by simpa using h)]
  rfl

/-- A switch that does not open on a configured axis writes its level, and its latch stays (R11). -/
theorem switchWritten_next {s : State} (hs : Settled s) {a : Axis} {d : Sign} {v : Bool}
    (hv : (s.axis a).switchOpen d ≠ v) (hun : (v && (s.axis a).configured) = false) :
    ∃ t, exec (.overtravelSwitchChange a d v) s = .next t ∧ t.stop = (switchWritten a d v s).stop
      ∧ (t.axis a).switchOpen d = v ∧ (∀ c e, (t.axis c).latch e = (s.axis c).latch e) ∧ t.planner = s.planner
      ∧ t = { s with axes := t.axes, stop := t.stop, link := t.link } := by
  obtain ⟨hopen, hmotion, -⟩ := putSwitch_fields (s.axis a) d v
  have hset : Settled (switchWritten a d v s) :=
    (hs.setAxis_motion (a := a) (u := (s.axis a).putSwitch d v) hmotion).of_eq rfl rfl rfl
  have hchange : overtravelChange a d v s = switchWritten a d v s := by simp [overtravelChange_of_ne hv, hun]
  obtain ⟨t, ht, hform, -⟩ := event_next (f := overtravelChange a d v) (s := s) (by rwa [hchange])
  rw [hchange] at hform
  refine ⟨t, ht, by rw [hform], ?_, fun c e => ?_, by rw [hform]; rfl, by rw [hform]; rfl⟩
  · rw [hform]
    exact (congrArg (·.switchOpen d) (switchWritten_same a d v s)).trans hopen
  · rw [hform]
    exact switchWritten_latch a d v s c e

/-- What an overtravel leaves of each axis: its latch, and the stop (R10, R11). -/
theorem overtravelOpens_same (a : Axis) (d : Sign) (s : State) :
    ∃ k, (overtravelOpens a d s).axis a = ((s.axis a).putLatch d true).stopped k := by
  obtain ⟨k, hk⟩ := immediateStop_axis ((raiseFault .overtravel (.axisEnd a d) s).setAxis a
    (((raiseFault .overtravel (.axisEnd a d) s).axis a).putLatch d true)) a
  exact ⟨k, by simpa [overtravelOpens] using hk⟩

theorem overtravelOpens_ne {a c : Axis} (h : c ≠ a) (d : Sign) (s : State) :
    ∃ k, (overtravelOpens a d s).axis c = (s.axis c).stopped k := by
  obtain ⟨k, hk⟩ := immediateStop_axis ((raiseFault .overtravel (.axisEnd a d) s).setAxis a
    (((raiseFault .overtravel (.axisEnd a d) s).axis a).putLatch d true)) c
  exact ⟨k, by simpa [overtravelOpens, State.setAxis_axis_ne _ _ h] using hk⟩

theorem overtravelOpens_axis (a : Axis) (d : Sign) (s : State) (c : Axis) :
    ((overtravelOpens a d s).axis c).motion = .idle ∧ ((overtravelOpens a d s).axis c).velocity = 0
      ∧ ((overtravelOpens a d s).axis c).commanded = (s.axis c).commanded
      ∧ ((overtravelOpens a d s).axis c).output = (s.axis c).output
      ∧ ((overtravelOpens a d s).axis c).measured = (s.axis c).measured
      ∧ ((overtravelOpens a d s).axis c).referenced = (s.axis c).referenced := by
  by_cases h : c = a
  · subst h
    obtain ⟨k, hk⟩ := overtravelOpens_same c d s
    obtain ⟨-, -, -, hpos⟩ := putLatch_fields (s.axis c) d true
    rw [hk]
    exact ⟨rfl, rfl, hpos⟩
  · obtain ⟨k, hk⟩ := overtravelOpens_ne h d s
    rw [hk]
    exact ⟨rfl, rfl, rfl, rfl, rfl, rfl⟩

/-- The latch of the end is set and no other (R11). -/
theorem overtravelOpens_latch (a : Axis) (d : Sign) (s : State) :
    ((overtravelOpens a d s).axis a).latch d = true
      ∧ ((overtravelOpens a d s).axis a).switchOpen d = (s.axis a).switchOpen d
      ∧ ∀ c e, c ≠ a ∨ e ≠ d → ((overtravelOpens a d s).axis c).latch e = (s.axis c).latch e := by
  obtain ⟨k, hk⟩ := overtravelOpens_same a d s
  obtain ⟨hset, hother, hopen, -⟩ := putLatch_fields (s.axis a) d true
  refine ⟨?_, ?_, fun c e h => ?_⟩
  · rw [hk, (stopped_fields _ _ _).1, hset]
  · rw [hk, (stopped_fields _ _ _).2, hopen]
  · by_cases hc : c = a
    · subst hc
      rw [hk, (stopped_fields _ _ _).1, hother e (h.resolve_left fun n => n rfl)]
    · obtain ⟨j, hj⟩ := overtravelOpens_ne hc d s
      rw [hj, (stopped_fields _ _ _).1]

theorem overtravelOpens_hasFault (a : Axis) (d : Sign) (s : State) :
    hasFault (overtravelOpens a d s) .overtravel (.axisEnd a d) = true := by
  rw [hasFault_of_stop_eq (s := raiseFault .overtravel (.axisEnd a d) s) (by simp [overtravelOpens])]
  exact hasFault_raiseFault _ _ _

theorem overtravelOpens_blocks (a : Axis) (d : Sign) {s : State} (h : s.gear.step = .idle) :
    (overtravelOpens a d s).gear = s.gear ∧ (overtravelOpens a d s).spindle = s.spindle
      ∧ (overtravelOpens a d s).coolant = s.coolant ∧ (overtravelOpens a d s).valve = s.valve := by
  obtain ⟨hgear, hspindle, hcoolant, hvalve⟩ := immediateStop_blocks
    (s := (raiseFault .overtravel (.axisEnd a d) s).setAxis a
      (((raiseFault .overtravel (.axisEnd a d) s).axis a).putLatch d true)) (by simpa using h)
  rw [overtravelOpens, hgear, hspindle, hcoolant, hvalve]
  simp

/-- Settles O28: a level written, and the stop and latch of a configured axis. -/
theorem overtravelLatches : Obligations.OvertravelLatches := by
  unfold Obligations.OvertravelLatches
  intro s a d hs
  refine ⟨?_, fun hin => ?_, fun hin hconf => ?_, fun hin hconf => ?_⟩
  · exact completes_event (f := overtravelChange a d ((s.axis a).switchOpen d)) rfl (by simp [overtravelChange]) hs rfl
  · obtain ⟨t, ht, hstop, hopen, hlatch, hplanner, hform⟩ :=
      switchWritten_next hs (a := a) (d := d) (v := false) (by simp [hin]) rfl
    refine ⟨t, ht, hopen, hlatch, hplanner, fun f hf hcode hq => ?_, hform⟩
    rw [hstop, switchWritten, setCondition_eq] at hf
    obtain ⟨g, -, rfl⟩ := List.mem_map.mp hf
    by_cases hg : g.code = .overtravel ∧ g.qualifier = .axisEnd a d
    · rw [if_pos hg]
    · rw [if_neg hg] at hcode hq
      exact absurd ⟨hcode, hq⟩ hg
  · have hchange : overtravelChange a d true s = overtravelOpens a d (switchWritten a d true s) := by
      simp [overtravelChange_of_ne (show (s.axis a).switchOpen d ≠ true by simp [hin]), hconf]
    have hev : exec (.overtravelSwitchChange a d true) s =
        .next (finish s (overtravelOpens a d (switchWritten a d true s))) := by
      rw [← hchange]; rfl
    obtain ⟨hlatch, hopen, hother⟩ := overtravelOpens_latch a d (switchWritten a d true s)
    obtain ⟨hwritten, -⟩ := putSwitch_fields (s.axis a) d true
    refine ⟨_, hev, ?_, ?_, ?_, fun c e h => ?_, fun c => ?_, ?_, ?_, ?_, ?_, fun hg => ?_⟩
    · rw [hasFault_of_stop_eq (s := overtravelOpens a d (switchWritten a d true s)) (by simp)]
      exact overtravelOpens_hasFault _ _ _
    · rw [finish_axis, hopen, switchWritten_same, hwritten]
    · rw [finish_axis, hlatch]
    · rw [finish_axis, hother c e h, switchWritten_latch]
    · obtain ⟨hmot, hvel, hpos⟩ := overtravelOpens_axis a d (switchWritten a d true s) c
      obtain ⟨hc, ho, hm, hr⟩ := switchWritten_positions a d true s c
      rw [finish_axis]
      exact ⟨hmot, hvel, hc ▸ ho ▸ hm ▸ hr ▸ hpos⟩
    · simp [overtravelOpens, idlePlanner]
    · simp [overtravelOpens, idlePlanner]
    · simp [switchWritten]
    · simp [switchWritten]
    · obtain ⟨hgear, hspindle, hcoolant, hvalve⟩ :=
        overtravelOpens_blocks a d (s := switchWritten a d true s) (by simpa [switchWritten] using hg)
      have hsettled : HydraulicSettled (overtravelOpens a d (switchWritten a d true s)) :=
        hs.2.of_eq (by rw [hvalve]; simp [switchWritten])
      rw [finish_valve hsettled, hvalve]
      simp only [finish_frame, hgear, hspindle, hcoolant]
      exact ⟨rfl, rfl, rfl, rfl⟩
  · obtain ⟨t, ht, -, hopen, hlatch, hplanner, hform⟩ :=
      switchWritten_next hs (a := a) (d := d) (v := true) (by simp [hin]) (by simp [hconf])
    exact ⟨t, ht, hopen, hlatch, hplanner, hform⟩

end Sys2Proof.Machine

namespace Sys2Proof.Machine

/-! ## The spindle command record and the start judgement of TSC -/

@[simp] theorem withTarget_fields (s : State) (p : Spindle) :
    (withTarget s p).sProg = p.sProg ∧ (withTarget s p).stoppedByOperator = p.stoppedByOperator
      ∧ (withTarget s p).sCmd = p.sCmd ∧ (withTarget s p).sMeas = p.sMeas
      ∧ (withTarget s p).windowCount = p.windowCount ∧ (withTarget s p).inverterFault = p.inverterFault
      ∧ (withTarget s p).stopped = p.stopped := by
  unfold withTarget
  split <;> simp

@[simp] theorem settled_fields (s : State) (p : Spindle) :
    (settled s p).sProg = p.sProg ∧ (settled s p).stoppedByOperator = p.stoppedByOperator
      ∧ (settled s p).sCmd = p.sCmd ∧ (settled s p).sMeas = p.sMeas
      ∧ (settled s p).windowCount = p.windowCount ∧ (settled s p).inverterFault = p.inverterFault
      ∧ (settled s p).stopped = p.stopped := by
  unfold settled
  (repeat' split) <;> simp

/-- What forming the speed keeps of the spindle record. -/
@[simp] theorem formSpeed_spindle (s : State) :
    (formSpeed s).spindle.sProg = s.spindle.sProg
      ∧ (formSpeed s).spindle.stoppedByOperator = s.spindle.stoppedByOperator
      ∧ (formSpeed s).spindle.sMeas = s.spindle.sMeas ∧ (formSpeed s).spindle.windowCount = s.spindle.windowCount
      ∧ (formSpeed s).spindle.inverterFault = s.spindle.inverterFault
      ∧ (formSpeed s).spindle.stopped = s.spindle.stopped := by
  simp [formSpeed, withSpeed]

/-- What the commanded speed depends on (R106). -/
theorem commandedSpeed_congr {s t : State} {p q : Spindle} (hg : t.gear = s.gear) (hstop : t.stop = s.stop)
    (hc : t.coolant = s.coolant) (hpend : t.pendant = s.pendant) (hprog : q.sProg = p.sProg)
    (hop : q.stoppedByOperator = p.stoppedByOperator) : commandedSpeed t q = commandedSpeed s p := by
  unfold commandedSpeed currentRow unionCeiling
  rw [hg, hstop, hc, hpend, hprog, hop]

/-- S_cmd as formed is the speed that R106 gives. -/
theorem formSpeed_sCmd (s : State) :
    (formSpeed s).spindle.sCmd = (commandedSpeed (formSpeed s) (formSpeed s).spindle).1 := by
  have hcmd : (formSpeed s).spindle.sCmd = (commandedSpeed s s.spindle).1 := by simp [formSpeed, withSpeed]
  exact hcmd.trans (congrArg Prod.fst (commandedSpeed_congr (by simp) (by simp) (by simp) (by simp) (by simp)
    (by simp)).symm)

@[simp] theorem formIfCeiling_spindle (before t : State) :
    (formIfCeiling before t).spindle.sProg = t.spindle.sProg
      ∧ (formIfCeiling before t).spindle.stoppedByOperator = t.spindle.stoppedByOperator
      ∧ (formIfCeiling before t).spindle.sMeas = t.spindle.sMeas
      ∧ (formIfCeiling before t).spindle.windowCount = t.spindle.windowCount
      ∧ (formIfCeiling before t).spindle.inverterFault = t.spindle.inverterFault
      ∧ (formIfCeiling before t).spindle.stopped = t.spindle.stopped := by
  unfold formIfCeiling
  split <;> simp

@[simp] theorem leaveTsc_spindle (new : TscState) (s : State) :
    (leaveTsc new s).spindle.sProg = s.spindle.sProg
      ∧ (leaveTsc new s).spindle.inverterFault = s.spindle.inverterFault := by
  simp [leaveTsc]

@[simp] theorem leaveTsc_coolant (new : TscState) (s : State) :
    (leaveTsc new s).coolant = { s.coolant with tsc := new, buildTimer := none, late := false } := by
  simp [leaveTsc]

@[simp] theorem stopTsc_coolant (new : TscState) (s : State) :
    (stopTsc new s).coolant = { s.coolant with tsc := new, buildTimer := none, late := false } := by
  unfold stopTsc
  split <;> simp

@[simp] theorem stopTsc_spindle (new : TscState) (s : State) :
    (stopTsc new s).spindle.sProg = s.spindle.sProg
      ∧ (stopTsc new s).spindle.inverterFault = s.spindle.inverterFault := by
  unfold stopTsc
  split <;> simp

@[simp] theorem startJudgement_spindle (s : State) :
    (startJudgement s).spindle.sProg = s.spindle.sProg
      ∧ (startJudgement s).spindle.inverterFault = s.spindle.inverterFault := by
  unfold startJudgement enterBuilding
  (repeat' split) <;> simp

/-- What the start judgement leaves of the Coolant Unit. -/
@[simp] theorem startJudgement_coolant (s : State) :
    (startJudgement s).coolant.flood = s.coolant.flood ∧ (startJudgement s).coolant.tankLow = s.coolant.tankLow
      ∧ (startJudgement s).coolant.unionLimit = s.coolant.unionLimit
      ∧ (startJudgement s).coolant.buildLimit = s.coolant.buildLimit := by
  unfold startJudgement enterBuilding
  (repeat' split) <;> simp

/-- A row that R146 finds too fast. -/
theorem rangeTooFast_iff (s : State) :
    rangeTooFast s = true ↔ ∃ row, currentRow s = some row ∧ s.coolant.unionLimit < row.min := by
  unfold rangeTooFast
  cases h : currentRow s <;> simp

theorem currentRow_shifting {s : State} (h : s.gear.gearbox = .shifting) : currentRow s = none := by
  unfold currentRow
  rw [h]
  cases s.gear.table <;> rfl

theorem currentRow_congr {s t : State} (h : t.gear = s.gear) : currentRow t = currentRow s := by
  simp [currentRow, h]

/-- The start judgement places TSC (R146). -/
theorem startJudgement_placed (s : State) : TscPlaced s (startJudgement s) := by
  have hrow : currentRow (startJudgement s) = currentRow s := currentRow_congr (by simp)
  have hbox : (startJudgement s).gear.gearbox = s.gear.gearbox := by simp
  refine ⟨fun hshift => ?_, fun row hr hlt => ?_, fun hshift hslow => ?_⟩
  · rw [hbox] at hshift
    simp [startJudgement, hshift]
  · rw [hrow] at hr
    have hfast := (rangeTooFast_iff s).mpr ⟨row, hr, hlt⟩
    have hnot : s.gear.gearbox ≠ .shifting := fun h => by rw [currentRow_shifting h] at hr; cases hr
    simp [startJudgement, hnot, hfast]
  · rw [hbox] at hshift
    have hfast : rangeTooFast s = false := by
      refine Bool.eq_false_iff.mpr fun h => ?_
      obtain ⟨row, hr, hlt⟩ := (rangeTooFast_iff s).mp h
      exact absurd (hslow row (hrow ▸ hr)) (by omega)
    have hform : startJudgement s = enterBuilding s := by simp [startJudgement, hshift, hfast]
    rw [hform]
    refine ⟨?_, ?_, ?_, ?_, ?_, ?_, formSpeed_sCmd _⟩ <;> simp [enterBuilding, unionCeiling]

/-- What the placing of TSC depends on. -/
theorem TscPlaced.of_eq {s s' t t' : State} (h : TscPlaced s t) (hu : s'.coolant.unionLimit = s.coolant.unionLimit)
    (hb : s'.coolant.buildLimit = s.coolant.buildLimit) (hg : t'.gear = t.gear) (hc : t'.coolant = t.coolant)
    (hcmd : t.spindle.sCmd = (commandedSpeed t t.spindle).1 → t'.spindle.sCmd = (commandedSpeed t' t'.spindle).1) :
    TscPlaced s' t' := by
  obtain ⟨hshift, hblocked, hbuild⟩ := h
  have hrow : currentRow t' = currentRow t := currentRow_congr hg
  have hceil : unionCeiling t' = unionCeiling t := by simp [unionCeiling, hc]
  refine ⟨?_, ?_, ?_⟩
  · rw [hg, hc]; exact hshift
  · rw [hrow, hc, hu]; exact hblocked
  · intro hns hslow
    rw [hg] at hns
    rw [hrow, hu] at hslow
    obtain ⟨htsc, htimer, hlate, hwin, hfil, hce, hsp⟩ := hbuild hns hslow
    rw [hc, hb, hceil, hu]
    exact ⟨htsc, htimer, hlate, hwin, hfil, hce, hcmd hsp⟩

/-! ## Release of the gearbox and of the coolant -/

theorem coolantRejudge_of_ne {s : State} (h : s.coolant.tsc ≠ .blocked) : coolantRejudge s = s := by
  simp [coolantRejudge, h]

@[simp] theorem coolantRejudge_coolant (s : State) :
    (coolantRejudge s).coolant.flood = s.coolant.flood ∧ (coolantRejudge s).coolant.tankLow = s.coolant.tankLow
      ∧ (coolantRejudge s).coolant.unionLimit = s.coolant.unionLimit
      ∧ (coolantRejudge s).coolant.buildLimit = s.coolant.buildLimit := by
  unfold coolantRejudge
  split <;> simp

@[simp] theorem coolantRejudge_spindle (s : State) :
    (coolantRejudge s).spindle.sProg = s.spindle.sProg
      ∧ (coolantRejudge s).spindle.inverterFault = s.spindle.inverterFault := by
  unfold coolantRejudge
  split <;> simp

@[simp] theorem deriveState_gear (s : State) :
    (deriveState s).gear = { s.gear with gearbox := deriveGearbox s.gear.switches } := by
  unfold deriveState setGearbox
  split <;> simp

@[simp] theorem deriveState_spindle (s : State) :
    (deriveState s).spindle.sProg = s.spindle.sProg
      ∧ (deriveState s).spindle.inverterFault = s.spindle.inverterFault := by
  unfold deriveState setGearbox
  split <;> simp [zeroReference]

@[simp] theorem releaseGearbox_coolant (s : State) :
    (releaseGearbox s).coolant.flood = s.coolant.flood ∧ (releaseGearbox s).coolant.tankLow = s.coolant.tankLow
      ∧ (releaseGearbox s).coolant.unionLimit = s.coolant.unionLimit
      ∧ (releaseGearbox s).coolant.buildLimit = s.coolant.buildLimit := by
  unfold releaseGearbox
  split <;> simp

@[simp] theorem releaseGearbox_spindle (s : State) :
    (releaseGearbox s).spindle.sProg = s.spindle.sProg
      ∧ (releaseGearbox s).spindle.inverterFault = s.spindle.inverterFault := by
  unfold releaseGearbox
  split <;> simp

/-- TSC stays as it is at the release of the gearbox, unless it is BLOCKED or the chain is not ARMED (R125, R152). -/
theorem releaseGearbox_coolant_eq {s : State} (h : s.coolant.tsc ≠ .blocked ∨ s.stop.estop ≠ .armed) :
    (releaseGearbox s).coolant = s.coolant := by
  unfold releaseGearbox
  split
  · next hr =>
    have hne : s.coolant.tsc ≠ .blocked := h.resolve_right fun k => k (by simp at hr; exact hr.1.1.2)
    rw [coolantRejudge_of_ne (by simpa using hne)]
    simp
  · rfl

/-- The gearbox hold is released where no GEAR_FAULT and no GEAR_SLIP is left (R125). -/
theorem releaseGearbox_gear (s : State) :
    (releaseGearbox s).gear =
      if s.gear.held = true ∧ s.stop.estop = .armed ∧ hasCode s .gearFault = false ∧ hasCode s .gearSlip = false then
        { s.gear with held := false, gearbox := deriveGearbox s.gear.switches }
      else s.gear := by
  unfold releaseGearbox
  split
  · next h =>
    rw [if_pos (by simpa [and_assoc] using h)]
    simp
  · next h => rw [if_neg (by simpa [and_assoc] using h)]

/-- The flood of a Clear Faults that finds the level inhibit gone (R155). -/
def floodReleased (s : State) : State :=
  { s with
    coolant := { s.coolant with flood := if s.coolant.flood = .inhibited then .on else s.coolant.flood } }

theorem coolantRelease_eq (s : State) :
    coolantRelease s =
      if s.stop.estop = .armed ∧ levelInhibit s = false then
        if s.coolant.tsc = .faulted ∧ hasCode s .coolantPressure = false then startJudgement (floodReleased s)
        else floodReleased s
      else s := by
  simp [coolantRelease, floodReleased, hasCode]

@[simp] theorem coolantRelease_spindle (s : State) :
    (coolantRelease s).spindle.sProg = s.spindle.sProg
      ∧ (coolantRelease s).spindle.inverterFault = s.spindle.inverterFault := by
  rw [coolantRelease_eq]
  (repeat' split) <;> simp [floodReleased]

@[simp] theorem coolantRelease_coolant (s : State) :
    (coolantRelease s).coolant.tankLow = s.coolant.tankLow
      ∧ (coolantRelease s).coolant.unionLimit = s.coolant.unionLimit
      ∧ (coolantRelease s).coolant.buildLimit = s.coolant.buildLimit := by
  rw [coolantRelease_eq]
  (repeat' split) <;> simp [floodReleased]

/-- The inhibited flood comes on where the chain is ARMED and the inhibit is gone (R155). -/
theorem coolantRelease_flood {s : State} (ha : s.stop.estop = .armed) (hi : levelInhibit s = false)
    (hf : s.coolant.flood = .inhibited) : (coolantRelease s).coolant.flood = .on := by
  rw [coolantRelease_eq, if_pos ⟨ha, hi⟩]
  split <;> simp [floodReleased, hf]

theorem coolantRelease_of_not {s : State} (h : ¬(s.stop.estop = .armed ∧ levelInhibit s = false)) :
    coolantRelease s = s := by
  rw [coolantRelease_eq, if_neg h]

/-- A FAULTED TSC is placed where its pressure entry is gone, and stays FAULTED elsewhere (R155). -/
theorem coolantRelease_faulted {s : State} (hf : s.coolant.tsc = .faulted) :
    (s.stop.estop = .armed ∧ levelInhibit s = false ∧ hasCode s .coolantPressure = false →
        TscPlaced s (coolantRelease s))
      ∧ (¬(s.stop.estop = .armed ∧ levelInhibit s = false ∧ hasCode s .coolantPressure = false) →
        (coolantRelease s).coolant.tsc = .faulted) := by
  rw [coolantRelease_eq]
  refine ⟨fun ⟨harm, hinh, hp⟩ => ?_, fun hn => ?_⟩
  · rw [if_pos ⟨harm, hinh⟩, if_pos ⟨hf, hp⟩]
    exact (startJudgement_placed (floodReleased s)).of_eq rfl rfl rfl rfl fun h => h
  · split
    · next ha =>
      rw [if_neg fun h => hn ⟨ha.1, ha.2, h.2⟩]
      exact hf
    · exact hf

theorem coolantRelease_tsc {s : State} (hf : s.coolant.tsc ≠ .faulted) :
    (coolantRelease s).coolant.tsc = s.coolant.tsc := by
  rw [coolantRelease_eq, if_neg fun h : s.coolant.tsc = .faulted ∧ _ => hf h.1]
  split <;> rfl

end Sys2Proof.Machine

namespace Sys2Proof.Machine

/-! ## Clear Faults, block by block -/

theorem hasCode_of_stop_eq {s t : State} (h : t.stop = s.stop) (c : FaultCode) : hasCode t c = hasCode s c := by
  simp [hasCode, h]

theorem hasTied_of_stop_eq {s t : State} (h : t.stop = s.stop) (c : HoldCause) : hasTied t c = hasTied s c := by
  have hcode : hasCode t = hasCode s := funext (hasCode_of_stop_eq h)
  simp [hasTied, hcode]

theorem levelInhibit_congr {s t : State} (h : t.stop = s.stop) (htank : t.coolant.tankLow = s.coolant.tankLow) :
    levelInhibit t = levelInhibit s := by
  simp [levelInhibit, hasCode_of_stop_eq h, htank]

/-! ### Latches and clamps -/

theorem releaseLatch_axes (removed : List FaultEntry) (d : Sign) (a : Axis) (s : State) :
    (releaseLatch removed d a s).axes =
      s.axes.set a
        (if removed.any fun e => e.isPair .overtravel (.axisEnd a d) then (s.axis a).putLatch d false else s.axis a) := by
  unfold releaseLatch
  split
  · rfl
  · exact (PerAxis.set_get _ _).symm

/-- The latches of one end, over the axes (R12, R189). -/
theorem releaseLatch_all (removed : List FaultEntry) (d : Sign) (s : State) (a : Axis) :
    (eachAxis (releaseLatch removed d) s).axis a =
      if removed.any fun e => e.isPair .overtravel (.axisEnd a d) then (s.axis a).putLatch d false else s.axis a := by
  simp only [State.axis, eachAxis, releaseLatch_axes]
  cases a <;> rfl

theorem putLatch_both (u : AxisUnit) (minus plus : Bool) :
    (if minus then (if plus then u.putLatch .plus false else u).putLatch .minus false
      else if plus then u.putLatch .plus false else u) =
      { u with latchPlus := u.latchPlus && !plus, latchMinus := u.latchMinus && !minus } := by
  cases minus <;> cases plus <;> simp [AxisUnit.putLatch]

/-- Both latches of an axis after a Clear Faults. -/
theorem releaseLatch_both (removed : List FaultEntry) (s : State) (a : Axis) :
    (eachAxis (releaseLatch removed .minus) (eachAxis (releaseLatch removed .plus) s)).axis a =
      { s.axis a with
        latchPlus :=
          (s.axis a).latchPlus && !removed.any fun e => e.code == .overtravel && e.qualifier == .axisEnd a .plus
        latchMinus :=
          (s.axis a).latchMinus
            && !removed.any fun e => e.code == .overtravel && e.qualifier == .axisEnd a .minus } := by
  rw [releaseLatch_all, releaseLatch_all]
  exact putLatch_both _ _ _

/-- A clamp in FAULT is read from its switch where no entry of its own is left (R100). -/
def releasedClamp (s : State) (a : Axis) : Clamp :=
  { s.clamp a with
    state :=
      if (s.clamp a).state = .fault ∧ hasFault s .clampTimeout (.axis a) = false
          ∧ hasFault s .clampSwitch (.axis a) = false then
        (if (s.clamp a).switchClosed then .settling else .engaged)
      else (s.clamp a).state }

theorem releasedClamp_congr {s t : State} {a : Axis} (hstop : t.stop = s.stop) (hc : t.clamp a = s.clamp a) :
    releasedClamp t a = releasedClamp s a := by
  unfold releasedClamp
  rw [hc, hasFault_of_stop_eq hstop, hasFault_of_stop_eq hstop]

theorem releaseClamp_clamps (a : Axis) (s : State) :
    (releaseClamp a s).clamps = s.clamps.set a (releasedClamp s a) := by
  unfold releaseClamp releasedClamp
  split
  · next h =>
    rw [if_pos (by simpa [and_assoc] using h)]
    rfl
  · next h =>
    rw [if_neg (by simpa [and_assoc] using h)]
    exact (PerAxis.set_get _ _).symm

theorem releaseClamp_clamp_ne {a c : Axis} (h : c ≠ a) (s : State) : (releaseClamp a s).clamp c = s.clamp c := by
  rw [State.clamp, releaseClamp_clamps, PerAxis.get_set_ne _ _ h]
  rfl

/-- What a stage makes of one axis is what its own step makes of it, where the steps of the other axes leave its view
and what its step would make of it alone. -/
theorem eachAxis_at {α : Type} {P : State → Prop} {f : Axis → State → State} {view out : Axis → State → α}
    (hP : ∀ a s, P s → P (f a s)) (hview : ∀ a c s, P s → c ≠ a → view c (f a s) = view c s)
    (hout : ∀ a c s, P s → c ≠ a → out c (f a s) = out c s) (hstep : ∀ a s, P s → view a (f a s) = out a s)
    {s : State} (hs : P s) (c : Axis) : view c (eachAxis f s) = out c s := by
  have hx := hP .x _ hs
  have hy := hP .y _ hx
  have hz := hP .z _ hy
  have hw := hP .w _ hz
  unfold eachAxis
  cases c with
  | x => simp [hview, hstep, hs, hx, hy, hz, hw]
  | y => simp [hview, hstep, hout, hs, hx, hy, hz, hw]
  | z => simp [hview, hstep, hout, hs, hx, hy, hz, hw]
  | w => simp [hview, hstep, hout, hs, hx, hy, hz, hw]
  | b => simp [hstep, hout, hs, hx, hy, hz, hw]

theorem releaseClamp_all (s : State) (a : Axis) : (eachAxis releaseClamp s).clamp a = releasedClamp s a :=
  eachAxis_at (P := fun _ => True) (view := fun c t => t.clamp c) (out := fun c t => releasedClamp t c)
    (fun _ _ _ => trivial) (fun _ _ t _ h => releaseClamp_clamp_ne h t)
    (fun _ _ t _ h => releasedClamp_congr (by simp) (releaseClamp_clamp_ne h t))
    (fun c t _ => by rw [State.clamp, releaseClamp_clamps, PerAxis.get_set]) trivial a

/-! ### Hold causes -/

theorem has_put (u : CauseSet) (c d : HoldCause) (v : Bool) : (u.put c v).has d = if d = c then v else u.has d := by
  cases c <;> cases d <;> rfl

theorem dropCause_causes (c d : HoldCause) (s : State) :
    (dropCause c s).planner.causes.has d =
      (s.planner.causes.has d && (decide (d ≠ c) || hasTied s c || s.planner.startTime.has c)) := by
  unfold dropCause
  cases h : hasTied s c || s.planner.startTime.has c with
  | true => simp [Bool.or_assoc, h]
  | false =>
    simp only [Bool.false_eq_true, if_false, has_put, Bool.or_assoc, h]
    by_cases e : d = c <;> simp [e]

@[simp] theorem dropCause_planner (c : HoldCause) (s : State) :
    (dropCause c s).planner.startTime = s.planner.startTime ∧ (dropCause c s).planner.state = s.planner.state := by
  unfold dropCause
  split <;> simp

theorem dropCause_hasTied (c d : HoldCause) (s : State) : hasTied (dropCause c s) d = hasTied s d :=
  hasTied_of_stop_eq (by simp) d

/-- The causes that stay: those with an entry or with a start-time cause behind them, and the operator causes
(R38, R41). -/
theorem dropCauses_has (d : HoldCause) (s : State) :
    (dropCauses s).planner.causes.has d =
      (s.planner.causes.has d && (!d.isCondition || hasTied s d || s.planner.startTime.has d)) := by
  simp only [dropCauses, dropCause_causes, dropCause_hasTied, dropCause_planner]
  cases d <;> simp [HoldCause.isCondition]

theorem raiseCause_has {c d : HoldCause} (h : d ≠ c) (s : State) :
    (raiseCause c s).planner.causes.has d = s.planner.causes.has d := by
  unfold raiseCause
  split
  · rfl
  · rfl
  · simp [has_put, h]

theorem startJudgement_has {d : HoldCause} (h : d ≠ .coolant) (s : State) :
    (startJudgement s).planner.causes.has d = s.planner.causes.has d := by
  unfold startJudgement stopTsc
  (repeat' split) <;> simp [raiseCause_has h]

theorem releaseGearbox_has {d : HoldCause} (h : d ≠ .coolant) (s : State) :
    (releaseGearbox s).planner.causes.has d = s.planner.causes.has d := by
  unfold releaseGearbox coolantRejudge
  (repeat' split) <;> simp [startJudgement_has h]

theorem coolantRelease_has {d : HoldCause} (h : d ≠ .coolant) (s : State) :
    (coolantRelease s).planner.causes.has d = s.planner.causes.has d := by
  rw [coolantRelease_eq]
  (repeat' split) <;> simp [startJudgement_has h, floodReleased]

/-! ### The reports of the removed entries -/

/-- Every removed entry is reported, with room for all (R188, R198). -/
theorem reportRemoved_owes {removed : List FaultEntry} {s : State} (h : EventRoom s removed.length) :
    Owes s (reportRemoved removed s) [] (removed.map fun e => .fault .removed e) := by
  induction removed generalizing s with
  | nil => exact Owes.refl s
  | cons e rest ih =>
    have hone : EventRoom s 1 := by
      simp only [EventRoom, List.length_cons] at h ⊢
      omega
    have hevents : (placeEvent (.fault .removed e) s).link.events.length = s.link.events.length + 1 := by
      have hlt : s.link.events.length < Config.eventQueueCapacity := by unfold EventRoom at hone; omega
      simp [placeEvent, hlt]
    have hrest : EventRoom (placeEvent (.fault .removed e) s) rest.length := by
      simp only [EventRoom, List.length_cons, hevents] at h ⊢
      omega
    exact (placeEvent_owes hone _).trans (ih hrest)

theorem removeCleared_owes {s : State} (h : EventRoom s (clearable s).length) :
    Owes s (removeCleared s) [] ((clearable s).map fun e => .fault .removed e) :=
  (reportRemoved_owes (s := { s with stop := { s.stop with faults := s.stop.faults.filter fun e => e.condition } })
    h).of_link_eq rfl

theorem removeCleared_eq (s : State) :
    removeCleared s =
      { s with
        stop := { s.stop with faults := s.stop.faults.filter fun e => e.condition }
        link := (removeCleared s).link } := by
  have hstop : (removeCleared s).stop = { s.stop with faults := s.stop.faults.filter fun e => e.condition } := by
    simp [removeCleared]
  obtain ⟨hp, ha, hc, hcl, hv, hsp, hg, hco, hpe, hck, hpend⟩ := removeCleared_frame s
  rw [← hstop]
  calc removeCleared s = ⟨(removeCleared s).link, (removeCleared s).planner, (removeCleared s).axes,
        (removeCleared s).comp, (removeCleared s).clamps, (removeCleared s).valve, (removeCleared s).spindle,
        (removeCleared s).gear, (removeCleared s).coolant, (removeCleared s).pendant, (removeCleared s).stop,
        (removeCleared s).clocks, (removeCleared s).pending⟩ := rfl
    _ = _ := by rw [hp, ha, hc, hcl, hv, hsp, hg, hco, hpe, hck, hpend]

/-! ### The release of the blocks -/

/-- Step 3 of Clear Faults up to the release of the gearbox (R189). -/
def gearboxReleased (removed : List FaultEntry) (s : State) : State :=
  releaseGearbox <|
    dropCauses <|
      eachAxis releaseClamp <|
        eachAxis (releaseLatch removed .minus) <| eachAxis (releaseLatch removed .plus) s

/-- Step 3 of Clear Faults but for what the arming sets going (R189). -/
def blocksReleased (removed : List FaultEntry) (s : State) : State := coolantRelease (gearboxReleased removed s)

theorem releaseBlocks_eq (removed : List FaultEntry) (armed : Bool) (s : State) :
    releaseBlocks removed armed s =
      if armed then armingActs (blocksReleased removed s) else blocksReleased removed s := rfl

section
variable (removed : List FaultEntry) (s : State)

@[simp] theorem gearboxReleased_frame :
    (gearboxReleased removed s).link = s.link ∧ (gearboxReleased removed s).comp = s.comp
      ∧ (gearboxReleased removed s).valve = s.valve ∧ (gearboxReleased removed s).pendant = s.pendant
      ∧ (gearboxReleased removed s).stop = s.stop ∧ (gearboxReleased removed s).clocks = s.clocks
      ∧ (gearboxReleased removed s).pending = s.pending := by
  simp [gearboxReleased, eachAxis]

@[simp] theorem gearboxReleased_fields :
    (gearboxReleased removed s).spindle.sProg = s.spindle.sProg
      ∧ (gearboxReleased removed s).spindle.inverterFault = s.spindle.inverterFault
      ∧ (gearboxReleased removed s).coolant.flood = s.coolant.flood
      ∧ (gearboxReleased removed s).coolant.tankLow = s.coolant.tankLow
      ∧ (gearboxReleased removed s).coolant.unionLimit = s.coolant.unionLimit
      ∧ (gearboxReleased removed s).coolant.buildLimit = s.coolant.buildLimit
      ∧ (gearboxReleased removed s).planner.queue = s.planner.queue := by
  simp [gearboxReleased, eachAxis]

theorem gearboxReleased_axis (a : Axis) :
    (gearboxReleased removed s).axis a =
      { s.axis a with
        latchPlus :=
          (s.axis a).latchPlus && !removed.any fun e => e.code == .overtravel && e.qualifier == .axisEnd a .plus
        latchMinus :=
          (s.axis a).latchMinus
            && !removed.any fun e => e.code == .overtravel && e.qualifier == .axisEnd a .minus } := by
  rw [← releaseLatch_both]
  simp [gearboxReleased, State.axis, eachAxis]

theorem gearboxReleased_clamp (a : Axis) : (gearboxReleased removed s).clamp a = releasedClamp s a := by
  have hclamp : (gearboxReleased removed s).clamp a = (eachAxis releaseClamp
      (eachAxis (releaseLatch removed .minus) (eachAxis (releaseLatch removed .plus) s))).clamp a := by
    simp [gearboxReleased, State.clamp]
  rw [hclamp, releaseClamp_all]
  exact releasedClamp_congr (by simp [eachAxis]) (by simp [State.clamp, eachAxis])

theorem gearboxReleased_has {d : HoldCause} (h : d ≠ .coolant) :
    (gearboxReleased removed s).planner.causes.has d =
      (s.planner.causes.has d && (!d.isCondition || hasTied s d || s.planner.startTime.has d)) := by
  have hplanner : (eachAxis releaseClamp (eachAxis (releaseLatch removed .minus)
      (eachAxis (releaseLatch removed .plus) s))).planner = s.planner := by simp [eachAxis]
  have hstop : (eachAxis releaseClamp (eachAxis (releaseLatch removed .minus)
      (eachAxis (releaseLatch removed .plus) s))).stop = s.stop := by simp [eachAxis]
  rw [gearboxReleased, releaseGearbox_has h, dropCauses_has, hplanner, hasTied_of_stop_eq hstop]

theorem gearboxReleased_gear :
    (gearboxReleased removed s).gear =
      if s.gear.held = true ∧ s.stop.estop = .armed ∧ hasCode s .gearFault = false ∧ hasCode s .gearSlip = false then
        { s.gear with held := false, gearbox := deriveGearbox s.gear.switches }
      else s.gear := by
  have hgear : (dropCauses (eachAxis releaseClamp (eachAxis (releaseLatch removed .minus)
      (eachAxis (releaseLatch removed .plus) s)))).gear = s.gear := by simp [eachAxis]
  have hstop : (dropCauses (eachAxis releaseClamp (eachAxis (releaseLatch removed .minus)
      (eachAxis (releaseLatch removed .plus) s)))).stop = s.stop := by simp [eachAxis]
  rw [gearboxReleased, releaseGearbox_gear, hgear, hstop, hasCode_of_stop_eq hstop, hasCode_of_stop_eq hstop]

variable {removed s}

/-- TSC stays as it was at the release of the gearbox, unless it is BLOCKED in an ARMED chain. -/
theorem gearboxReleased_coolant (h : s.coolant.tsc ≠ .blocked ∨ s.stop.estop ≠ .armed) :
    (gearboxReleased removed s).coolant = s.coolant := by
  rw [gearboxReleased, releaseGearbox_coolant_eq (by simpa [eachAxis] using h)]
  simp [eachAxis]

theorem blocksReleased_flood (ha : s.stop.estop = .armed) (hi : levelInhibit s = false)
    (hf : s.coolant.flood = .inhibited) : (blocksReleased removed s).coolant.flood = .on := by
  rw [blocksReleased, coolantRelease_flood]
  · simpa using ha
  · rwa [levelInhibit_congr (s := s) (by simp) (by simp)]
  · simpa using hf

theorem blocksReleased_faulted (hf : s.coolant.tsc = .faulted) :
    (s.stop.estop = .armed ∧ levelInhibit s = false ∧ hasCode s .coolantPressure = false →
        TscPlaced s (blocksReleased removed s))
      ∧ (¬(s.stop.estop = .armed ∧ levelInhibit s = false ∧ hasCode s .coolantPressure = false) →
        (blocksReleased removed s).coolant.tsc = .faulted) := by
  have hcoolant := gearboxReleased_coolant (removed := removed) (s := s) (.inl (by simp [hf]))
  have hstop : (gearboxReleased removed s).stop = s.stop := by simp
  obtain ⟨hplaced, hstays⟩ := coolantRelease_faulted (s := gearboxReleased removed s) (by rw [hcoolant, hf])
  rw [hstop, levelInhibit_congr hstop (by rw [hcoolant]), hasCode_of_stop_eq hstop] at hplaced hstays
  have hunion : (gearboxReleased removed s).coolant.unionLimit = s.coolant.unionLimit := by rw [hcoolant]
  have hbuild : (gearboxReleased removed s).coolant.buildLimit = s.coolant.buildLimit := by rw [hcoolant]
  rw [blocksReleased]
  exact ⟨fun h => (hplaced h).of_eq hunion.symm hbuild.symm rfl rfl fun k => k, hstays⟩

theorem blocksReleased_tsc (hf : s.coolant.tsc ≠ .faulted) (hb : s.coolant.tsc ≠ .blocked) :
    (blocksReleased removed s).coolant.tsc = s.coolant.tsc := by
  have hcoolant := gearboxReleased_coolant (removed := removed) (.inl hb)
  rw [blocksReleased, coolantRelease_tsc (by rwa [hcoolant]), hcoolant]

theorem blocksReleased_unarmed (h : s.stop.estop ≠ .armed) : (blocksReleased removed s).coolant = s.coolant := by
  rw [blocksReleased, coolantRelease_of_not (by simp [h]), gearboxReleased_coolant (.inr h)]

end

/-! ### What the arming sets going -/

/-- An empty request list grants nothing (R88). -/
theorem grantOpportunity_nil {s : State} (h : s.valve.requests = []) : grantOpportunity s = s := by
  have hself : ({ s with valve := { s.valve with requests := [] } } : State) = s := by rw [← h]
  have hwalk : grantWalk s = s := by
    unfold grantWalk
    split
    · simp [h, walk, hself]
    · rfl
  have hnone : confirmedRequest s = none := by simp [confirmedRequest, h]
  rw [grantOpportunity, hwalk, settleStrokes, hnone]

theorem armingActs_quiet {s : State} (hv : s.valve.requests = []) (hi : s.spindle.inverterFault = false) :
    armingActs s = formSpeed s := by
  have hform : (formSpeed s).spindle.inverterFault = false := by simpa using hi
  simp only [armingActs, hform, Bool.false_eq_true, if_false]
  exact grantOpportunity_nil (by simpa using hv)

/-- A Clear Faults keeps the state settled where it leaves local motion, the pendant and the valve bank alone. -/
theorem Settled.of_blocks {s u : State} (h : Settled s) (hp : u.pendant = s.pendant) (hv : u.valve = s.valve)
    (hm : ∀ a, (u.axis a).motion = (s.axis a).motion) : Settled u :=
  h.of_motion hp hv fun a k => by rwa [hm a]

end Sys2Proof.Machine

namespace Sys2Proof.Machine

/-! ## Clear Faults -/

@[simp] theorem blocksReleased_frame (removed : List FaultEntry) (s : State) :
    (blocksReleased removed s).link = s.link ∧ (blocksReleased removed s).comp = s.comp
      ∧ (blocksReleased removed s).valve = s.valve ∧ (blocksReleased removed s).pendant = s.pendant
      ∧ (blocksReleased removed s).stop = s.stop ∧ (blocksReleased removed s).clocks = s.clocks
      ∧ (blocksReleased removed s).pending = s.pending
      ∧ (blocksReleased removed s).spindle.sProg = s.spindle.sProg
      ∧ (blocksReleased removed s).spindle.inverterFault = s.spindle.inverterFault
      ∧ (blocksReleased removed s).coolant.tankLow = s.coolant.tankLow
      ∧ (blocksReleased removed s).planner.queue = s.planner.queue := by
  simp [blocksReleased]

/-- The state once the entries are removed and the chain is as step 2 leaves it (R188). -/
def entriesRemoved (s : State) (e : EStop) (l : Link) : State :=
  { s with stop := { s.stop with estop := e, faults := s.stop.faults.filter fun f => f.condition }, link := l }

theorem removeCleared_entriesRemoved (s : State) :
    removeCleared s = entriesRemoved s s.stop.estop (removeCleared s).link := removeCleared_eq s

theorem armChain_armed {s : State} (h : s.stop.estop = .released) :
    armChain (removeCleared s) = entriesRemoved s .armed (removeCleared s).link := by
  have hr : ((removeCleared s).stop.estop == .released) = true := by
    rw [removeCleared_eq]
    simp [h]
  rw [armChain, hr, if_pos rfl]
  conv_lhs => rw [removeCleared_eq s]
  rfl

/-- Without an arming, Clear Faults removes and releases (R188, R189). -/
theorem clearAll_unarmed {s : State} (h : s.stop.estop ≠ .released) :
    clearAll s = blocksReleased (clearable s) (entriesRemoved s s.stop.estop (removeCleared s).link) := by
  have hs : (s.stop.estop == .released) = false := by simpa using h
  have hr : ((removeCleared s).stop.estop == .released) = false := by
    rw [removeCleared_eq]
    simpa using h
  rw [clearAll, releaseBlocks_eq, hs, armChain, hr]
  simp only [Bool.false_eq_true, if_false]
  rw [← removeCleared_entriesRemoved]

/-- With the arming, S_cmd is formed after the release (R106, R188). -/
theorem clearAll_arming {s : State} (h : s.stop.estop = .released) (hv : s.valve.requests = [])
    (hi : s.spindle.inverterFault = false) :
    clearAll s = formSpeed (blocksReleased (clearable s) (entriesRemoved s .armed (removeCleared s).link)) := by
  have hs : (s.stop.estop == .released) = true := by simp [h]
  rw [clearAll, releaseBlocks_eq, hs, if_pos rfl, armChain_armed h, armingActs_quiet]
  · simpa [entriesRemoved] using hv
  · simpa [entriesRemoved] using hi

theorem clearReply_eq (s : State) :
    clearReply s =
      .cleared (clearable s).length (s.stop.faults.filter fun e => e.condition).length
        (if s.stop.estop = .released then .armed else s.stop.estop) := by
  have hstop : (removeCleared s).stop = { s.stop with faults := s.stop.faults.filter fun e => e.condition } := by
    rw [removeCleared_eq]
  rw [clearReply, armChain, hstop]
  by_cases h : s.stop.estop = .released <;> simp [h, hstop]

/-- The order is taken, with the removed entries reported ahead of its reply (R188, R198). -/
theorem clearFaults_next {s : State} {tag : Tag} (hroom : ReplyRoom s) (hset : Settled (clearAll s))
    (hev : EventRoom s (clearable s).length) (hlink : (clearAll s).link = (removeCleared s).link) :
    ∃ t, exec (.clearFaults tag []) s = .next t ∧ t = { clearAll s with link := t.link }
      ∧ Owes s t [.accept tag (clearReply s)] ((clearable s).map fun e => .fault .removed e) := by
  have haccept : clearFaultsOrder [] s = .accept (clearAll s) (clearReply s) := rfl
  obtain ⟨t, ht, hform, howes⟩ := order_next (kind := 0x2F) (tag := tag) hroom haccept hset
  refine ⟨t, ht, hform, ?_⟩
  simpa using (removeCleared_owes hev).trans (howes.of_link_eq hlink)

/-! ### The state that is left -/

/-- The state `t` holds what the release of the blocks makes of `r`, in the blocks that it can change. -/
structure Released (removed : List FaultEntry) (r t : State) : Prop where
  stop : t.stop = r.stop
  axes : t.axes = (gearboxReleased removed r).axes
  clamps : t.clamps = (gearboxReleased removed r).clamps
  planner : t.planner = (blocksReleased removed r).planner
  gear : t.gear = (gearboxReleased removed r).gear
  coolant : t.coolant = (blocksReleased removed r).coolant

theorem released_self (removed : List FaultEntry) (r : State) : Released removed r (blocksReleased removed r) := by
  constructor <;> simp [blocksReleased]

theorem released_of_blocks {removed : List FaultEntry} {r t : State}
    (h : t = { blocksReleased removed r with link := t.link }) : Released removed r t := by
  constructor <;> rw [h] <;> simp [blocksReleased]

theorem released_of_formed {removed : List FaultEntry} {r t : State}
    (h : t = { formSpeed (blocksReleased removed r) with link := t.link }) : Released removed r t := by
  constructor <;> rw [h] <;> simp [blocksReleased]

namespace Released

variable {removed : List FaultEntry} {r t : State}

theorem axis (h : Released removed r t) (a : Axis) :
    t.axis a =
      { r.axis a with
        latchPlus :=
          (r.axis a).latchPlus && !removed.any fun e => e.code == .overtravel && e.qualifier == .axisEnd a .plus
        latchMinus :=
          (r.axis a).latchMinus
            && !removed.any fun e => e.code == .overtravel && e.qualifier == .axisEnd a .minus } := by
  rw [← gearboxReleased_axis, State.axis, h.axes]
  rfl

theorem clamp (h : Released removed r t) (a : Axis) :
    t.clamp a =
      { r.clamp a with
        state :=
          if (r.clamp a).state = .fault ∧ hasFault t .clampTimeout (.axis a) = false
              ∧ hasFault t .clampSwitch (.axis a) = false then
            (if (r.clamp a).switchClosed then .settling else .engaged)
          else (r.clamp a).state } := by
  rw [hasFault_of_stop_eq h.stop, hasFault_of_stop_eq h.stop, State.clamp, h.clamps]
  exact gearboxReleased_clamp removed r a

theorem has (h : Released removed r t) {c : HoldCause} (hne : c ≠ .coolant) :
    t.planner.causes.has c =
      (r.planner.causes.has c && (!c.isCondition || hasTied t c || r.planner.startTime.has c)) := by
  rw [hasTied_of_stop_eq h.stop, h.planner, blocksReleased, coolantRelease_has hne, gearboxReleased_has _ _ hne]

theorem queue (h : Released removed r t) : t.planner.queue = r.planner.queue := by
  rw [h.planner]
  simp

theorem gearbox (h : Released removed r t) :
    t.gear =
      if r.gear.held = true ∧ r.stop.estop = .armed ∧ hasCode t .gearFault = false ∧ hasCode t .gearSlip = false then
        { r.gear with held := false, gearbox := deriveGearbox r.gear.switches }
      else r.gear := by
  rw [hasCode_of_stop_eq h.stop, hasCode_of_stop_eq h.stop, h.gear, gearboxReleased_gear]

theorem inhibit (h : Released removed r t) : levelInhibit t = levelInhibit r :=
  levelInhibit_congr h.stop (by rw [h.coolant]; simp)

theorem flood (h : Released removed r t) (ha : r.stop.estop = .armed) (hi : levelInhibit t = false)
    (hf : r.coolant.flood = .inhibited) : t.coolant.flood = .on := by
  rw [h.inhibit] at hi
  rw [h.coolant]
  exact blocksReleased_flood ha hi hf

theorem faulted (h : Released removed r t) (hf : r.coolant.tsc = .faulted)
    (hcmd : (blocksReleased removed r).spindle.sCmd
        = (commandedSpeed (blocksReleased removed r) (blocksReleased removed r).spindle).1 →
      t.spindle.sCmd = (commandedSpeed t t.spindle).1) :
    (r.stop.estop = .armed ∧ levelInhibit t = false ∧ hasCode t .coolantPressure = false → TscPlaced r t)
      ∧ (¬(r.stop.estop = .armed ∧ levelInhibit t = false ∧ hasCode t .coolantPressure = false) →
        t.coolant.tsc = .faulted) := by
  obtain ⟨hplaced, hstays⟩ := blocksReleased_faulted (removed := removed) hf
  have hgear : t.gear = (blocksReleased removed r).gear := by rw [h.gear]; simp [blocksReleased]
  rw [h.inhibit, hasCode_of_stop_eq h.stop, h.coolant]
  exact ⟨fun hc => (hplaced hc).of_eq rfl rfl hgear h.coolant hcmd, hstays⟩

theorem tsc (h : Released removed r t) (hf : r.coolant.tsc ≠ .faulted) (hb : r.coolant.tsc ≠ .blocked) :
    t.coolant.tsc = r.coolant.tsc := by
  rw [h.coolant, blocksReleased_tsc hf hb]

theorem unarmed (h : Released removed r t) (ha : r.stop.estop ≠ .armed) : t.coolant = r.coolant := by
  rw [h.coolant, blocksReleased_unarmed ha]

end Released

theorem blocksReleased_settled {removed : List FaultEntry} {s : State} (hs : Settled s) :
    Settled (blocksReleased removed s) := by
  refine hs.of_blocks (by simp) (by simp) fun a => ?_
  rw [(released_self removed s).axis]

/-- The first part: a chain that is not RELEASED. -/
theorem clearFaults_unarmed {s : State} {tag : Tag} (hs : Settled s) (hroom : ReplyRoom s)
    (hev : EventRoom s (clearable s).length) (hestop : s.stop.estop ≠ .released) :
    ∃ t l, exec (.clearFaults tag []) s = .next t
      ∧ t = { blocksReleased (clearable s) (entriesRemoved s s.stop.estop l) with link := t.link }
      ∧ Owes s t
          [.accept tag
            (.cleared (clearable s).length (s.stop.faults.filter fun e => e.condition).length s.stop.estop)]
          ((clearable s).map fun e => .fault .removed e) := by
  have hall := clearAll_unarmed hestop
  have hset : Settled (clearAll s) := by
    rw [hall]
    exact blocksReleased_settled (hs.of_eq rfl rfl rfl)
  obtain ⟨t, ht, hform, howes⟩ := clearFaults_next (tag := tag) hroom hset hev (by rw [hall]; simp [entriesRemoved])
  rw [hall] at hform
  rw [clearReply_eq, if_neg hestop] at howes
  exact ⟨t, _, ht, hform, howes⟩

/-- The second part: a RELEASED chain, which is armed. -/
theorem clearFaults_arming {s : State} {tag : Tag} (hs : Settled s) (hroom : ReplyRoom s)
    (hev : EventRoom s (clearable s).length) (hestop : s.stop.estop = .released)
    (hi : s.spindle.inverterFault = false) (hv : s.valve.requests = []) :
    ∃ t l, exec (.clearFaults tag []) s = .next t
      ∧ t = { formSpeed (blocksReleased (clearable s) (entriesRemoved s .armed l)) with link := t.link }
      ∧ Owes s t
          [.accept tag (.cleared (clearable s).length (s.stop.faults.filter fun e => e.condition).length .armed)]
          ((clearable s).map fun e => .fault .removed e) := by
  have hall := clearAll_arming hestop hv hi
  have hset : Settled (clearAll s) := by
    rw [hall]
    have hblocks : Settled (blocksReleased (clearable s) (entriesRemoved s .armed (removeCleared s).link)) :=
      blocksReleased_settled (hs.of_eq rfl rfl rfl)
    exact hblocks.of_eq (by simp) (by simp) (by simp)
  obtain ⟨t, ht, hform, howes⟩ := clearFaults_next (tag := tag) hroom hset hev (by rw [hall]; simp [entriesRemoved])
  rw [hall] at hform
  rw [clearReply_eq, if_pos hestop] at howes
  exact ⟨t, _, ht, hform, howes⟩

/-- Settles O49: both parts read off the release of the blocks, the second after the arming. -/
theorem clearFaultsReleases : Obligations.ClearFaultsReleases := by
  unfold Obligations.ClearFaultsReleases
  intro s tag gone left hs hroom hgone hleft hev
  obtain rfl : gone = clearable s := hgone
  subst hleft
  refine ⟨fun hestop => ?_, fun hestop hi hv => ?_⟩
  · obtain ⟨t, l, ht, hform, howes⟩ := clearFaults_unarmed (tag := tag) hs hroom hev hestop
    have hrel := released_of_blocks hform
    have hoperator := hrel.has (c := .operator) (by decide)
    have hhost := hrel.has (c := .host) (by decide)
    have hcmd : (blocksReleased (clearable s) (entriesRemoved s s.stop.estop l)).spindle.sCmd
        = (commandedSpeed (blocksReleased (clearable s) (entriesRemoved s s.stop.estop l))
          (blocksReleased (clearable s) (entriesRemoved s s.stop.estop l)).spindle).1 →
        t.spindle.sCmd = (commandedSpeed t t.spindle).1 := fun h => by
      rw [commandedSpeed_congr (s := blocksReleased (clearable s) (entriesRemoved s s.stop.estop l))
        (p := (blocksReleased (clearable s) (entriesRemoved s s.stop.estop l)).spindle), ← h]
      all_goals rw [hform]
    refine ⟨t, ht, ?_, howes, hrel.axis, hrel.clamp, fun c hc hne => ?_, ?_, ?_, hrel.queue, ?_,
      hrel.flood, fun hf => ?_, hrel.tsc, fun htrip => hrel.unarmed ?_, ?_⟩
    · rw [hform]; simp [entriesRemoved]
    · simpa [hc, entriesRemoved] using hrel.has hne
    · simpa [HoldCause.isCondition, CauseSet.has, entriesRemoved] using hoperator
    · simpa [HoldCause.isCondition, CauseSet.has, entriesRemoved] using hhost
    · rw [hrel.gearbox]
      split
      · next h => exact if_pos h
      · next h => exact if_neg h
    · obtain ⟨hplaced, hstays⟩ := hrel.faulted hf hcmd
      split
      · next h => exact (hplaced h).of_eq rfl rfl rfl rfl id
      · next h => exact hstays h
    · simp [entriesRemoved, htrip]
    · rw [hform]; simp [entriesRemoved]
  · obtain ⟨t, l, ht, hform, howes⟩ := clearFaults_arming (tag := tag) hs hroom hev hestop hi hv
    have hrel := released_of_formed hform
    have hcmd : t.spindle.sCmd = (commandedSpeed t t.spindle).1 := by
      rw [commandedSpeed_congr
        (s := formSpeed (blocksReleased (clearable s) (entriesRemoved s .armed l)))
        (p := (formSpeed (blocksReleased (clearable s) (entriesRemoved s .armed l))).spindle), ← formSpeed_sCmd]
      all_goals rw [hform]
    have harm : t.stop.estop = .armed := by rw [hrel.stop]; rfl
    refine ⟨t, ht, hrel.stop, howes, ?_, ?_, ?_, hrel.flood rfl, fun hf => ?_, ?_, hcmd,
      fun a hconf hmode hfe hdf => ?_, fun a => ?_, fun hfault hstall => ?_⟩
    · rw [hform]; simp [entriesRemoved]
    · rw [hform]; simp [entriesRemoved]
    · rw [hform]; simp [entriesRemoved]
    · obtain ⟨hplaced, hstays⟩ := hrel.faulted hf fun _ => hcmd
      split
      · next h => exact (hplaced ⟨rfl, h⟩).of_eq rfl rfl rfl rfl id
      · next h => exact hstays fun k => h k.2
    · rw [hform]; simp [entriesRemoved]
    · have hconf' : (t.axis a).configured = true := by rw [hrel.axis]; exact hconf
      have hmode' : (t.axis a).mode = .normal := by rw [hrel.axis]; exact hmode
      simp [driveEnable, harm, hconf', hmode', hfe, hdf]
    · rw [hrel.axis]; exact ⟨rfl, rfl⟩
    · simp [spindleEnable, hasSpindleFault, harm, hfault, hstall]

end Sys2Proof.Machine

namespace Sys2Proof.Machine

/-! ## What a period takes as input

`InputsKept` names the levels, parameters, counts, modes and latches that no operation of a period writes. As a conjunction
it serves `simp` as one rewrite rule for each of its fields. -/

/-- The fields of an Axis Unit that a period keeps; in LOOP the measured position moves (R5, R18). -/
def AxisUnit.wired (u : AxisUnit) :
    Option AxisParams × Int × Mode × Option Bool × Bool × Bool × Bool × Bool × Bool × Option Int :=
  (u.params, u.encoder, u.mode, u.loopHeld, u.latchPlus, u.latchMinus, u.plusOpen, u.minusOpen, u.driveFault,
    if u.mode = .loop then none else some u.measured)

/-- The table of a compensation record (R75). -/
def CompRecord.table (c : CompRecord) : Nat × Int × List Int := (c.k, c.base, c.points)

/-- Nothing that a period takes as input differs. -/
abbrev InputsKept (s t : State) : Prop :=
  t.axes.map AxisUnit.wired = s.axes.map AxisUnit.wired
    ∧ t.comp.map CompRecord.table = s.comp.map CompRecord.table
    ∧ t.clamps.map Clamp.switchClosed = s.clamps.map Clamp.switchClosed
    ∧ t.gear.switches = s.gear.switches ∧ t.gear.table = s.gear.table
    ∧ t.valve.pressureOk = s.valve.pressureOk ∧ t.valve.bypassLimit = s.valve.bypassLimit
    ∧ t.spindle.sMeas = s.spindle.sMeas ∧ t.spindle.windowCount = s.spindle.windowCount
    ∧ t.spindle.inverterFault = s.spindle.inverterFault ∧ t.spindle.stopped = s.spindle.stopped
    ∧ t.coolant.tankLow = s.coolant.tankLow ∧ t.coolant.tscMin = s.coolant.tscMin
    ∧ t.pendant.feedOverride = s.pendant.feedOverride ∧ t.pendant.spindleOverride = s.pendant.spindleOverride
    ∧ t.pendant.link = s.pendant.link ∧ t.pendant.lastGood = s.pendant.lastGood
    ∧ t.stop.estop = s.stop.estop ∧ t.stop.partTime = s.stop.partTime
    ∧ t.stop.channel1Open = s.stop.channel1Open ∧ t.stop.channel2Open = s.stop.channel2Open
    ∧ t.link.straps = s.link.straps ∧ t.link.framer = s.link.framer ∧ t.link.period = s.link.period

theorem setAxis_wired (s : State) (a : Axis) {u : AxisUnit} (h : u.wired = (s.axis a).wired) :
    (s.setAxis a u).axes.map AxisUnit.wired = s.axes.map AxisUnit.wired := by
  rw [State.setAxis_axes, PerAxis.map_set, h]
  exact (congrArg _ (PerAxis.get_map _ _ _).symm).trans (PerAxis.set_get _ _)

theorem setAxis_inputs (s : State) (a : Axis) {u : AxisUnit} (h : u.wired = (s.axis a).wired) :
    InputsKept s (s.setAxis a u) :=
  ⟨setAxis_wired s a h, by simp⟩

theorem setClamp_inputs (s : State) (a : Axis) {c : Clamp} (h : c.switchClosed = (s.clamp a).switchClosed) :
    InputsKept s (s.setClamp a c) := by
  refine ⟨rfl, rfl, ?_, by simp⟩
  rw [State.setClamp_clamps, PerAxis.map_set, h]
  exact (congrArg _ (PerAxis.get_map _ _ _).symm).trans (PerAxis.set_get _ _)

theorem setComp_inputs (s : State) (a : Axis) {c : CompRecord} (h : c.table = (s.compOf a).table) :
    InputsKept s (s.setComp a c) := by
  refine ⟨rfl, ?_, by simp⟩
  rw [State.setComp_comp, PerAxis.map_set, h]
  exact (congrArg _ (PerAxis.get_map _ _ _).symm).trans (PerAxis.set_get _ _)

theorem InputsKept.trans {s t u : State} (h : InputsKept s t) (k : InputsKept t u) : InputsKept s u := by
  simp [InputsKept, k, h]

@[simp] theorem gearStop_inputs (s : State) : InputsKept s (gearStop s) := by
  simp [InputsKept, gearStop]

@[simp] theorem zeroReference_inputs (s : State) : InputsKept s (zeroReference s) := by
  simp [InputsKept, zeroReference]

@[simp] theorem creepDrive_inputs (d : Rotation) (s : State) : InputsKept s (creepDrive d s) := by
  unfold creepDrive
  (repeat' split) <;> simp [InputsKept]

@[simp] theorem creepStart_inputs (d : Rotation) (s : State) : InputsKept s (creepStart d s) := by
  simp [InputsKept, creepStart]

@[simp] theorem creepEnd_inputs (s : State) : InputsKept s (creepEnd s) := by
  simp [InputsKept, creepEnd]

@[simp] theorem leaveTsc_inputs (new : TscState) (s : State) : InputsKept s (leaveTsc new s) := by
  simp [InputsKept, leaveTsc]

@[simp] theorem stopTsc_inputs (new : TscState) (s : State) : InputsKept s (stopTsc new s) := by
  unfold stopTsc
  (repeat' split) <;> simp [InputsKept]

@[simp] theorem enterBuilding_inputs (s : State) : InputsKept s (enterBuilding s) := by
  simp [InputsKept, enterBuilding]

@[simp] theorem startJudgement_inputs (s : State) : InputsKept s (startJudgement s) := by
  unfold startJudgement
  (repeat' split) <;> simp [InputsKept]

@[simp] theorem placeTsc_inputs (s : State) : InputsKept s (placeTsc s) := by
  unfold placeTsc
  (repeat' split) <;> simp [InputsKept]

@[simp] theorem startPurge_inputs (s : State) : InputsKept s (startPurge s) := by
  unfold startPurge
  (repeat' split) <;> simp [InputsKept]

@[simp] theorem moveTsc_inputs (s : State) : InputsKept s (moveTsc s) := by
  unfold moveTsc
  (repeat' split) <;> simp [InputsKept]

@[simp] theorem setRequests_inputs (flood tsc : Bool) (s : State) : InputsKept s (setRequests flood tsc s) := by
  unfold setRequests
  (repeat' split) <;> simp [InputsKept]

@[simp] theorem coolantRequest_inputs (m : CoolantMode) (s : State) : InputsKept s (coolantRequest m s) := by
  simp [InputsKept, coolantRequest]

@[simp] theorem coolantChangeBegins_inputs (s : State) : InputsKept s (coolantChangeBegins s) := by
  unfold coolantChangeBegins
  (repeat' split) <;> simp [InputsKept]

@[simp] theorem coolantChangeEnds_inputs (s : State) : InputsKept s (coolantChangeEnds s) := by
  unfold coolantChangeEnds
  (repeat' split) <;> simp [InputsKept]

@[simp] theorem setGearbox_inputs (g : Gearbox) (s : State) : InputsKept s (setGearbox g s) := by
  unfold setGearbox
  (repeat' split) <;> simp [InputsKept]

@[simp] theorem holdGearbox_inputs (s : State) : InputsKept s (holdGearbox s) := by
  simp [InputsKept, holdGearbox]

@[simp] theorem deriveState_inputs (s : State) : InputsKept s (deriveState s) := by
  simp [InputsKept, deriveState]

@[simp] theorem joinRequest_inputs (k : Stroke) (s : State) : InputsKept s (joinRequest k s) := by
  simp [InputsKept, joinRequest]

@[simp] theorem removeRequest_inputs (f : ValveFunction) (s : State) : InputsKept s (removeRequest f s) := by
  simp [InputsKept, removeRequest]

@[simp] theorem requestStroke_inputs (k : ForkStroke) (s : State) : InputsKept s (requestStroke k s) := by
  simp [InputsKept, requestStroke]

@[simp] theorem endCreep_inputs (s : State) : InputsKept s (endCreep s) := by
  unfold endCreep
  (repeat' split) <;> simp [InputsKept]

@[simp] theorem settleChange_inputs (s : State) : InputsKept s (settleChange s) := by
  unfold settleChange
  dsimp only
  (repeat' split) <;> simp [InputsKept]

@[simp] theorem planFirst_inputs (s : State) : InputsKept s (planFirst s) := by
  unfold planFirst
  (repeat' split) <;> simp [InputsKept]

@[simp] theorem beginChange_inputs (t : GearTarget) (o : Owner) (s : State) : InputsKept s (beginChange t o s) := by
  unfold beginChange
  dsimp only
  (repeat' split) <;> simp [InputsKept]

@[simp] theorem gearFault_inputs (s : State) : InputsKept s (gearFault s) := by
  unfold gearFault
  (repeat' split) <;> simp [InputsKept]

@[simp] theorem failedAttempt_inputs (s : State) : InputsKept s (failedAttempt s) := by
  unfold failedAttempt
  dsimp only
  (repeat' split) <;> simp [InputsKept]

@[simp] theorem requestFresh_inputs (k : ForkStroke) (s : State) : InputsKept s (requestFresh k s) := by
  simp [InputsKept, requestFresh]

@[simp] theorem strokeSucceeded_inputs (s : State) : InputsKept s (strokeSucceeded s) := by
  unfold strokeSucceeded
  dsimp only
  (repeat' split) <;> simp [InputsKept]

@[simp] theorem retarget_inputs (t : GearTarget) (o : Owner) (s : State) : InputsKept s (retarget t o s) := by
  unfold retarget
  dsimp only
  (repeat' split) <;> simp [InputsKept]

@[simp] theorem commandAtIdle_inputs (o : Owner) (speed : Nat) (forced : Option GearRange) (s : State) :
    InputsKept s (commandAtIdle o speed forced s) := by
  unfold commandAtIdle
  (repeat' split) <;> simp [InputsKept]

@[simp] theorem commandInChange_inputs (o : Owner) (speed : Nat) (forced : Option GearRange) (s : State) :
    InputsKept s (commandInChange o speed forced s) := by
  unfold commandInChange
  (repeat' split) <;> simp [InputsKept]

@[simp] theorem gearCommand_inputs (o : Owner) (speed : Nat) (forced : Option GearRange) (s : State) :
    InputsKept s (gearCommand o speed forced s) := by
  unfold gearCommand
  (repeat' split) <;> simp [InputsKept]

@[simp] theorem takeDeferred_inputs (s : State) : InputsKept s (takeDeferred s) := by
  unfold takeDeferred
  (repeat' split) <;> simp [InputsKept]

@[simp] theorem endAbortedChange_inputs (s : State) : InputsKept s (endAbortedChange s) := by
  simp [InputsKept, endAbortedChange]

@[simp] theorem gearAbort_inputs (s : State) : InputsKept s (gearAbort s) := by
  unfold gearAbort
  dsimp only
  (repeat' split) <;> simp [InputsKept]

@[simp] theorem forkOutcome_inputs (success : Bool) (s : State) : InputsKept s (forkOutcome success s) := by
  unfold forkOutcome
  (repeat' split) <;> simp [InputsKept]

@[simp] theorem forkGranted_inputs (s : State) : InputsKept s (forkGranted s) := by
  unfold forkGranted
  (repeat' split) <;> simp [InputsKept]

@[simp] theorem jogEndedByStop_inputs (a : Axis) (s : State) : InputsKept s (jogEndedByStop a s) := by
  unfold jogEndedByStop
  (repeat' split) <;> simp [InputsKept]

@[simp] theorem endMotion_inputs (a : Axis) (s : State) : InputsKept s (endMotion a s) := by
  exact setAxis_inputs s a rfl

@[simp] theorem axisStop_inputs (a : Axis) (s : State) : InputsKept s (axisStop a s) := by
  unfold axisStop
  (repeat' split) <;> simp [InputsKept]

@[simp] theorem endClampWait_inputs (a : Axis) (s : State) : InputsKept s (endClampWait a s) := by
  unfold endClampWait
  (repeat' split) <;> simp [InputsKept]

@[simp] theorem setClampState_inputs (a : Axis) (c : ClampState) (s : State) :
    InputsKept s (setClampState a c s) := by
  exact setClamp_inputs s a rfl

@[simp] theorem setReleasePending_inputs (a : Axis) (v : Bool) (s : State) :
    InputsKept s (setReleasePending a v s) := by
  exact setClamp_inputs s a rfl

@[simp] theorem setLinger_inputs (a : Axis) (t : Option Nat) (s : State) : InputsKept s (setLinger a t s) := by
  exact setClamp_inputs s a rfl

@[simp] theorem lingerExpires_inputs (a : Axis) (s : State) : InputsKept s (lingerExpires a s) := by
  simp [InputsKept, lingerExpires]

@[simp] theorem startLinger_inputs (a : Axis) (s : State) : InputsKept s (startLinger a s) := by
  unfold startLinger
  (repeat' split) <;> simp [InputsKept]

@[simp] theorem cancelLinger_inputs (a : Axis) (s : State) : InputsKept s (cancelLinger a s) := by
  unfold cancelLinger
  (repeat' split) <;> simp [InputsKept]

@[simp] theorem startMoving_inputs (a : Axis) (s : State) : InputsKept s (startMoving a s) := by
  unfold startMoving
  split
  · exact setAxis_inputs s a rfl
  · split
    · simp [InputsKept]
    · exact setAxis_inputs s a rfl
  · simp [InputsKept]

@[simp] theorem releaseSucceeded_inputs (a : Axis) (s : State) : InputsKept s (releaseSucceeded a s) := by
  unfold releaseSucceeded
  dsimp only
  (repeat' split) <;> simp [InputsKept]

@[simp] theorem engageSucceeded_inputs (a : Axis) (s : State) : InputsKept s (engageSucceeded a s) := by
  unfold engageSucceeded
  (repeat' split) <;> simp [InputsKept]

@[simp] theorem clampTimedOut_inputs (a : Axis) (s : State) : InputsKept s (clampTimedOut a s) := by
  simp [InputsKept, clampTimedOut]

@[simp] theorem strokeGranted_inputs (k : Stroke) (s : State) : InputsKept s (strokeGranted k s) := by
  unfold strokeGranted
  (repeat' split) <;> simp [InputsKept]

theorem foldl_inputs {β : Type} {f : State → β → State} (h : ∀ u k, InputsKept u (f u k)) (l : List β) (s : State) :
    InputsKept s (l.foldl f s) := by
  induction l generalizing s with
  | nil => simp [InputsKept]
  | cons k l ih => exact (h s k).trans (ih _)

@[simp] theorem grantWalk_inputs (s : State) : InputsKept s (grantWalk s) := by
  unfold grantWalk
  split
  · refine InputsKept.trans ?_ (foldl_inputs (fun u k => strokeGranted_inputs k u) _ _)
    simp [InputsKept]
  · simp [InputsKept]

@[simp] theorem strokeEnds_inputs (k : Stroke) (success : Bool) (s : State) :
    InputsKept s (strokeEnds k success s) := by
  unfold strokeEnds
  (repeat' split) <;> simp [InputsKept]

@[simp] theorem settleStrokes_inputs (n : Nat) (s : State) : InputsKept s (settleStrokes n s) := by
  induction n generalizing s with
  | zero => simp [InputsKept, settleStrokes]
  | succ n ih =>
    unfold settleStrokes
    split <;> simp [InputsKept, ih]

@[simp] theorem grantOpportunity_inputs (s : State) : InputsKept s (grantOpportunity s) := by
  simp [InputsKept, grantOpportunity]

@[simp] theorem withOpportunity_inputs (f : State → State) (s : State) :
    InputsKept (f s) (withOpportunity f s) := by
  rcases withOpportunity_cases f s with ⟨_, e⟩ | ⟨_, e⟩ <;> simp [InputsKept, e]

@[simp] theorem askClamp_inputs (a : Axis) (s : State) : InputsKept s (askClamp a s) := by
  unfold askClamp
  (repeat' split) <;> simp [InputsKept]

@[simp] theorem askRelease_inputs (a : Axis) (s : State) : InputsKept s (askRelease a s) := by
  unfold askRelease
  dsimp only
  (repeat' split) <;> simp [InputsKept]

@[simp] theorem handSpeed_inputs (o : Owner) (speed : Nat) (forced : Option GearRange) (s : State) :
    InputsKept s (handSpeed o speed forced s) := by
  simp [InputsKept, handSpeed]

@[simp] theorem spindleCommand_inputs (o : Owner) (speed : Nat) (d : Rotation) (forced : Option GearRange) (s : State) :
    InputsKept s (spindleCommand o speed d forced s) := by
  unfold spindleCommand
  (repeat' split) <;> simp [InputsKept]

@[simp] theorem claimAxis_inputs (legs : PerAxis (Option Leg)) (a : Axis) (s : State) :
    InputsKept s (claimAxis legs a s) := by
  have hclaim : InputsKept s (s.setAxis a { s.axis a with claim := true }) := setAxis_inputs s a rfl
  unfold claimAxis
  split
  · exact hclaim.trans ((cancelLinger_inputs a _).trans (askRelease_inputs a _))
  · simp [InputsKept]

@[simp] theorem claimAxes_inputs (s : State) : InputsKept s (claimAxes s) := by
  unfold claimAxes
  split <;> simp [InputsKept, eachAxis]

@[simp] theorem startActions_inputs (s : State) : InputsKept s (startActions s) := by
  unfold startActions
  (repeat' split) <;> simp [InputsKept]

@[simp] theorem beginHead_inputs (s : State) : InputsKept s (beginHead s) := by
  simp [InputsKept, beginHead]

@[simp] theorem startHead_inputs (s : State) : InputsKept s (startHead s) := by
  unfold startHead
  (repeat' split) <;> simp [InputsKept]

@[simp] theorem distribute_inputs (c : MoveContext) (s : State) : InputsKept s (distribute c s) := by
  refine ⟨PerAxis.ext_get fun a => ?_, by simp [distribute]⟩
  simp [distribute, AxisUnit.wired, State.axis]

@[simp] theorem pathStep_inputs (mode : FeedMode) (feed : Nat) (c : MoveContext) (s : State) :
    InputsKept s (pathStep mode feed c s) := by
  unfold pathStep
  (repeat' split) <;> simp [InputsKept]

@[simp] theorem moveWork_inputs (mode : FeedMode) (feed : Nat) (s : State) :
    InputsKept s (moveWork mode feed s).1 := by
  unfold moveWork
  (repeat' split) <;> simp [InputsKept]

@[simp] theorem activeWork_inputs (s : State) : InputsKept s (activeWork s).1 := by
  unfold activeWork
  (repeat' split) <;> simp [InputsKept]

@[simp] theorem plannerWork_inputs (s : State) : InputsKept s (plannerWork s).1 := by
  unfold plannerWork
  dsimp only
  (repeat' split) <;> simp [InputsKept]

@[simp] theorem releaseClaims_inputs (s : State) : InputsKept s (releaseClaims s) := by
  refine ⟨PerAxis.ext_get fun a => ?_, by simp⟩
  simp [releaseClaims, AxisUnit.wired]

@[simp] theorem headLeaves_inputs (o : EntryOutcome) (s : State) : InputsKept s (headLeaves o s) := by
  unfold headLeaves
  (repeat' split) <;> simp [InputsKept]

@[simp] theorem completeEntry_inputs (s : State) : InputsKept s (completeEntry s) := by
  unfold completeEntry
  (repeat' split) <;> simp [InputsKept]

@[simp] theorem flushQueue_inputs (s : State) : InputsKept s (flushQueue s) := by
  simp [InputsKept, flushQueue]

@[simp] theorem completeAbort_inputs (headLeft : Bool) (s : State) : InputsKept s (completeAbort headLeft s) := by
  unfold completeAbort
  (repeat' split) <;> simp [InputsKept]

@[simp] theorem immediateStop_inputs (s : State) : InputsKept s (immediateStop s) := by
  simp [InputsKept, immediateStop, eachAxis]

@[simp] theorem plannerFinish_inputs (completes : Bool) (s : State) : InputsKept s (plannerFinish completes s) := by
  unfold plannerFinish
  (repeat' split) <;> simp [InputsKept]

@[simp] theorem seatComp_inputs (a : Axis) (s : State) : InputsKept s (seatComp a s) := by
  exact setComp_inputs s a rfl

@[simp] theorem loseReference_inputs (a : Axis) (s : State) : InputsKept s (loseReference a s) := by
  unfold loseReference
  split
  · refine InputsKept.trans ?_ (seatComp_inputs a _)
    exact setAxis_inputs s a rfl
  · simp [InputsKept]

@[simp] theorem axisFault_inputs (c : FaultCode) (a : Axis) (s : State) : InputsKept s (axisFault c a s) := by
  simp [InputsKept, axisFault]

theorem motionStep_wired (p : AxisParams) (goal : Option Int) (target : Nat) (u : AxisUnit) :
    (motionStep p goal target u).wired = u.wired := by
  unfold motionStep softGuard
  (repeat' split) <;> rfl

theorem localStep_wired (a : Axis) (ovr : Nat) (p : AxisParams) (u : AxisUnit) :
    (localStep a ovr p u).wired = u.wired := by
  unfold localStep
  split <;> simp [motionStep_wired]

@[simp] theorem noteJog_inputs (a : Axis) (before : Int) (s : State) : InputsKept s (noteJog a before s) := by
  unfold noteJog
  split <;> simp [InputsKept]

@[simp] theorem moveLocally_inputs (a : Axis) (s : State) : InputsKept s (moveLocally a s) := by
  unfold moveLocally
  split
  · simp [InputsKept]
  · exact (setAxis_inputs s a (localStep_wired ..)).trans (noteJog_inputs ..)

@[simp] theorem followPeriod_inputs (a : Axis) (before : Int) (s : State) :
    InputsKept s (followPeriod a before s) := by
  have hfollow : InputsKept s (followMeasured a s) := setAxis_inputs s a rfl
  exact hfollow.trans (setAxis_inputs _ a rfl)

/-- The steps of a period leave the table of an axis (R77 to R79). -/
theorem stepComp_table (s : State) (a : Axis) (before : Int) :
    (stepComp s a before).1.table = (s.compOf a).table := by
  unfold stepComp
  (repeat' split) <;> rfl

theorem stepped_wired (u : AxisUnit) (drive : Bool) (out : Int) (rest : Bool) :
    AxisUnit.wired { u.stepped drive out with atRest := rest } = u.wired := by
  cases h : u.mode <;> simp [AxisUnit.wired, AxisUnit.stepped, h]

@[simp] theorem compensateAxis_inputs (before : Axis → Int) (a : Axis) (s : State) :
    InputsKept s (compensateAxis before a s) := by
  unfold compensateAxis
  split
  · exact followPeriod_inputs ..
  · exact (setAxis_inputs s a (stepped_wired ..)).trans (setComp_inputs _ a (stepComp_table ..))

@[simp] theorem checkFollowing_inputs (a : Axis) (s : State) : InputsKept s (checkFollowing a s) := by
  unfold checkFollowing
  (repeat' split) <;> simp [InputsKept]

@[simp] theorem endLocal_inputs (a : Axis) (s : State) : InputsKept s (endLocal a s) := by
  unfold endLocal
  (repeat' split) <;> simp [InputsKept]

@[simp] theorem checkParked_inputs (a : Axis) (s : State) : InputsKept s (checkParked a s) := by
  unfold checkParked
  (repeat' split) <;> simp [InputsKept]

@[simp] theorem renewErrorCondition_inputs (a : Axis) (s : State) : InputsKept s (renewErrorCondition a s) := by
  simp [InputsKept, renewErrorCondition, setCondition]

@[simp] theorem periodLinger_inputs (a : Axis) (s : State) : InputsKept s (periodLinger a s) := by
  unfold periodLinger
  (repeat' split) <;> simp [InputsKept]

@[simp] theorem recordView_inputs (a : Axis) (s : State) : InputsKept s (recordView a s) := by
  exact setAxis_inputs s a rfl

/-- An interpolation period keeps them all (R27). -/
@[simp] theorem interpolate_inputs (s : State) : InputsKept s (interpolate s) := by
  have hclock : InputsKept s { s with clocks := { s.clocks with interpolation := 2 } } := by simp [InputsKept]
  refine hclock.trans ?_
  simp [InputsKept, interpolate, afterWork, periodEnds, axesPeriod, eachAxis]

end Sys2Proof.Machine

namespace Sys2Proof.Machine

/-! ## What the end of a stroke keeps

A period can start a linger timer of 0 ms, whose stroke may be granted and end at once; and the strokes in hand may end
with it. What such an end can do beside the Valve Bank is said here once. -/

/-! ### The planner hears of causes alone -/

/-- A planner that is not RUNNING keeps its state, and an idle one its whole record (R39). -/
abbrev PlannerKept (s t : State) : Prop :=
  t.planner.displaced = s.planner.displaced
    ∧ (s.planner.state ≠ .running → t.planner.state = s.planner.state)
    ∧ (s.planner.state = .idle → t.planner = s.planner)

@[simp] theorem raiseCause_kept (c : HoldCause) (s : State) : PlannerKept s (raiseCause c s) := by
  unfold raiseCause
  split
  · simp [PlannerKept]
  · simp [PlannerKept]
  · next hidle _ =>
    refine ⟨rfl, fun hrun => ?_, fun h => absurd h hidle⟩
    cases h : s.planner.state <;> simp [h] at hrun ⊢

@[simp] theorem stopTsc_kept (new : TscState) (s : State) : PlannerKept s (stopTsc new s) := by
  unfold stopTsc
  split <;> simp +contextual [PlannerKept]

@[simp] theorem startJudgement_kept (s : State) : PlannerKept s (startJudgement s) := by
  unfold startJudgement
  (repeat' split) <;> simp +contextual [PlannerKept]

@[simp] theorem placeTsc_kept (s : State) : PlannerKept s (placeTsc s) := by
  unfold placeTsc
  split <;> simp +contextual [PlannerKept]

@[simp] theorem coolantChangeEnds_kept (s : State) : PlannerKept s (coolantChangeEnds s) := by
  unfold coolantChangeEnds
  split <;> simp +contextual [PlannerKept]

@[simp] theorem settleChange_kept (s : State) : PlannerKept s (settleChange s) := by
  unfold settleChange
  dsimp only
  split <;> simp +contextual [PlannerKept]

@[simp] theorem planFirst_kept (s : State) : PlannerKept s (planFirst s) := by
  unfold planFirst
  split <;> simp +contextual [PlannerKept]

@[simp] theorem beginChange_kept (t : GearTarget) (o : Owner) (s : State) : PlannerKept s (beginChange t o s) := by
  unfold beginChange
  dsimp only
  split <;> simp +contextual [PlannerKept]

@[simp] theorem gearFault_kept (s : State) : PlannerKept s (gearFault s) := by
  unfold gearFault
  dsimp only
  split <;> simp +contextual [PlannerKept]

@[simp] theorem failedAttempt_kept (s : State) : PlannerKept s (failedAttempt s) := by
  unfold failedAttempt
  dsimp only
  split <;> simp +contextual [PlannerKept]

@[simp] theorem strokeSucceeded_kept (s : State) : PlannerKept s (strokeSucceeded s) := by
  unfold strokeSucceeded
  dsimp only
  (repeat' split) <;> simp +contextual [PlannerKept]

@[simp] theorem commandAtIdle_kept (o : Owner) (speed : Nat) (forced : Option GearRange) (s : State) :
    PlannerKept s (commandAtIdle o speed forced s) := by
  unfold commandAtIdle
  (repeat' split) <;> simp +contextual [PlannerKept]

@[simp] theorem takeDeferred_kept (s : State) : PlannerKept s (takeDeferred s) := by
  unfold takeDeferred
  split <;> simp +contextual [PlannerKept]

@[simp] theorem endAbortedChange_kept (s : State) : PlannerKept s (endAbortedChange s) := by
  simp +contextual [PlannerKept, endAbortedChange]

@[simp] theorem forkOutcome_kept (success : Bool) (s : State) : PlannerKept s (forkOutcome success s) := by
  unfold forkOutcome
  (repeat' split) <;> simp +contextual [PlannerKept]

@[simp] theorem clampTimedOut_kept (a : Axis) (s : State) : PlannerKept s (clampTimedOut a s) := by
  simp +contextual [PlannerKept, clampTimedOut]

@[simp] theorem strokeEnds_kept (k : Stroke) (success : Bool) (s : State) :
    PlannerKept s (strokeEnds k success s) := by
  unfold strokeEnds
  (repeat' split) <;> simp +contextual [PlannerKept]

@[simp] theorem settleStrokes_kept (n : Nat) (s : State) : PlannerKept s (settleStrokes n s) := by
  induction n generalizing s with
  | zero => simp [PlannerKept, settleStrokes]
  | succ n ih =>
    unfold settleStrokes
    split <;> simp +contextual [PlannerKept, ih]

@[simp] theorem grantOpportunity_kept (s : State) : PlannerKept s (grantOpportunity s) := by
  simp +contextual [PlannerKept, grantOpportunity]

@[simp] theorem withOpportunity_kept (f : State → State) (s : State) : PlannerKept (f s) (withOpportunity f s) := by
  rcases withOpportunity_cases f s with ⟨_, e⟩ | ⟨_, e⟩ <;> simp +contextual [PlannerKept, e]

@[simp] theorem periodLinger_kept (a : Axis) (s : State) : PlannerKept s (periodLinger a s) := by
  unfold periodLinger
  (repeat' split) <;> simp +contextual [PlannerKept]

/-! ### No entry leaves the fault list -/

/-- Every entry of the list is still in it. -/
structure FaultsGrow (s t : State) : Prop where
  has : ∀ c q, hasFault s c q = true → hasFault t c q = true

theorem FaultsGrow.of_stop {s t : State} (h : t.stop = s.stop) : FaultsGrow s t :=
  ⟨fun c q k => by rwa [hasFault_of_stop_eq h]⟩

theorem FaultsGrow.trans {s t u : State} (h : FaultsGrow s t) (k : FaultsGrow t u) : FaultsGrow s u :=
  ⟨fun c q hs => k.has c q (h.has c q hs)⟩

theorem raiseFault_grows (c : FaultCode) (q : Qualifier) (s : State) : FaultsGrow s (raiseFault c q s) := by
  refine ⟨fun d r h => ?_⟩
  obtain ⟨e, he, hpair⟩ := List.any_eq_true.mp h
  unfold raiseFault hasFault
  split
  · refine List.any_eq_true.mpr ⟨if e.isPair c q then e.repeated else e, ?_, ?_⟩
    · simpa [placeEvent] using ⟨e, he, rfl⟩
    · split <;> simpa [FaultEntry.repeated] using hpair
  · exact List.any_eq_true.mpr ⟨e, by simp [placeEvent, he], hpair⟩

theorem setCondition_grows (c : FaultCode) (q : Qualifier) (v : Bool) (s : State) :
    FaultsGrow s (setCondition c q v s) := by
  refine ⟨fun d r h => ?_⟩
  obtain ⟨e, he, hpair⟩ := List.any_eq_true.mp h
  refine List.any_eq_true.mpr ⟨if e.isPair c q then { e with condition := v } else e, ?_, ?_⟩
  · exact List.mem_map.mpr ⟨e, he, rfl⟩
  · split <;> exact hpair

theorem gearFault_grows (s : State) : FaultsGrow s (gearFault s) := by
  unfold gearFault
  split
  · exact (raiseFault_grows .gearFault (.fork .a) s).trans (.of_stop (by simp))
  · exact (raiseFault_grows .gearFault (.fork .b) s).trans (.of_stop (by simp))
  · exact .of_stop (by simp)

theorem failedAttempt_grows (s : State) : FaultsGrow s (failedAttempt s) := by
  unfold failedAttempt
  dsimp only
  split
  · exact .of_stop (by simp)
  · refine FaultsGrow.trans (.of_stop ?_) (gearFault_grows _)
    simp

theorem strokeSucceeded_grows (s : State) : FaultsGrow s (strokeSucceeded s) := by
  have hcreep : FaultsGrow s (endCreep s) := .of_stop (by simp)
  unfold strokeSucceeded
  dsimp only
  split
  · exact .of_stop (by simp)
  · split
    · exact hcreep.trans (failedAttempt_grows _)
    · exact .of_stop (by simp)

theorem forkOutcome_grows (success : Bool) (s : State) : FaultsGrow s (forkOutcome success s) := by
  unfold forkOutcome
  split
  · exact .of_stop (by simp)
  · split
    · exact strokeSucceeded_grows s
    · exact failedAttempt_grows s
  · exact .of_stop rfl
  · exact .of_stop rfl
  · exact .of_stop rfl

theorem clampTimedOut_grows (a : Axis) (s : State) : FaultsGrow s (clampTimedOut a s) := by
  unfold clampTimedOut
  exact (raiseFault_grows .clampTimeout (.axis a) s).trans (.of_stop (by simp))

theorem strokeEnds_grows (k : Stroke) (success : Bool) (s : State) : FaultsGrow s (strokeEnds k success s) := by
  have hremoved : ∀ f, FaultsGrow s (removeRequest f s) := fun f => .of_stop (by simp)
  unfold strokeEnds
  split
  · split
    · exact .of_stop (by simp)
    · exact (hremoved _).trans (clampTimedOut_grows ..)
  · split
    · exact .of_stop (by simp)
    · exact (hremoved _).trans (clampTimedOut_grows ..)
  · exact (hremoved _).trans (forkOutcome_grows ..)

theorem settleStrokes_grows (n : Nat) (s : State) : FaultsGrow s (settleStrokes n s) := by
  induction n generalizing s with
  | zero => exact .of_stop rfl
  | succ n ih =>
    unfold settleStrokes
    split
    · exact .of_stop rfl
    · next r _ =>
      refine (strokeEnds_grows r.stroke true s).trans (FaultsGrow.trans (.of_stop ?_) (ih _))
      simp

theorem grantOpportunity_grows (s : State) : FaultsGrow s (grantOpportunity s) :=
  FaultsGrow.trans (.of_stop (by simp)) (settleStrokes_grows 32 (grantWalk s))

theorem periodLinger_grows (a : Axis) (s : State) : FaultsGrow s (periodLinger a s) := by
  have hlinger : FaultsGrow s (startLinger a s) := .of_stop (by simp)
  unfold periodLinger
  split
  · split
    · split
      · rcases withOpportunity_cases (startLinger a) s with ⟨_, e⟩ | ⟨_, e⟩
        · rw [e]; exact hlinger
        · rw [e]; exact hlinger.trans (grantOpportunity_grows _)
      · exact .of_stop rfl
    · exact .of_stop (by simp)
  · exact .of_stop rfl

/-! ### Axes that wait for no clamp -/

/-- The local motion waits for a clamp (R14, R19). -/
def LocalMotion.waits (m : LocalMotion) : Prop := m = .jog .clampWait ∨ m = .reference .clampWait

/-- Every axis whose local motion waits for no clamp is as it was. -/
structure AxesKept (s t : State) : Prop where
  axis : ∀ c, ¬(s.axis c).motion.waits → t.axis c = s.axis c

theorem AxesKept.of_axes {s t : State} (h : t.axes = s.axes) : AxesKept s t :=
  ⟨fun c _ => by rw [State.axis, h]; rfl⟩

theorem AxesKept.trans {s t u : State} (h : AxesKept s t) (k : AxesKept t u) : AxesKept s u :=
  ⟨fun c hc => by
    have ht := h.axis c hc
    rw [k.axis c (by rwa [ht]), ht]⟩

theorem AxesKept.setAxis {s : State} {a : Axis} (h : (s.axis a).motion.waits) (u : AxisUnit) :
    AxesKept s (s.setAxis a u) :=
  ⟨fun c hc => by
    by_cases e : c = a
    · exact absurd (e ▸ h) hc
    · rw [State.setAxis_axis_ne _ _ e]⟩

theorem endClampWait_keeps (a : Axis) (s : State) : AxesKept s (endClampWait a s) := by
  unfold endClampWait
  split
  · next h =>
    have hend : AxesKept s (endMotion a s) := .setAxis (.inl h) _
    exact hend.trans (.of_axes (by simp))
  · next h => exact .setAxis (.inr h) _
  · exact .of_axes rfl

theorem startMoving_keeps (a : Axis) (s : State) : AxesKept s (startMoving a s) := by
  unfold startMoving
  split
  · next h => exact .setAxis (.inl h) _
  · next h =>
    split
    · exact .of_axes rfl
    · exact .setAxis (.inr h) _
  · exact .of_axes rfl

theorem releaseSucceeded_keeps (a : Axis) (s : State) : AxesKept s (releaseSucceeded a s) := by
  have hmoving : AxesKept s (startMoving a (setClampState a .released s)) :=
    AxesKept.trans (.of_axes (by simp)) (startMoving_keeps a _)
  unfold releaseSucceeded
  dsimp only
  split
  · exact hmoving.trans (.of_axes (by simp))
  · exact hmoving

theorem clampTimedOut_keeps (a : Axis) (s : State) : AxesKept s (clampTimedOut a s) := by
  unfold clampTimedOut
  refine AxesKept.trans (.of_axes ?_) (endClampWait_keeps a _)
  simp

theorem strokeEnds_keeps (k : Stroke) (success : Bool) (s : State) : AxesKept s (strokeEnds k success s) := by
  have hremoved : ∀ f, AxesKept s (removeRequest f s) := fun f => .of_axes (by simp)
  unfold strokeEnds
  split
  · split
    · exact (hremoved _).trans (releaseSucceeded_keeps ..)
    · exact (hremoved _).trans (clampTimedOut_keeps ..)
  · split
    · exact .of_axes (by simp)
    · exact (hremoved _).trans (clampTimedOut_keeps ..)
  · exact .of_axes (by simp)

theorem settleStrokes_keeps (n : Nat) (s : State) : AxesKept s (settleStrokes n s) := by
  induction n generalizing s with
  | zero => exact .of_axes rfl
  | succ n ih =>
    unfold settleStrokes
    split
    · exact .of_axes rfl
    · next r _ =>
      refine (strokeEnds_keeps r.stroke true s).trans (AxesKept.trans (.of_axes ?_) (ih _))
      simp

theorem grantOpportunity_keeps (s : State) : AxesKept s (grantOpportunity s) :=
  AxesKept.trans (.of_axes (by simp)) (settleStrokes_keeps 32 (grantWalk s))

theorem periodLinger_keeps (a : Axis) (s : State) : AxesKept s (periodLinger a s) := by
  have hlinger : AxesKept s (startLinger a s) := .of_axes (by simp)
  unfold periodLinger
  split
  · split
    · split
      · rcases withOpportunity_cases (startLinger a) s with ⟨_, e⟩ | ⟨_, e⟩
        · rw [e]; exact hlinger
        · rw [e]; exact hlinger.trans (grantOpportunity_keeps _)
      · exact .of_axes rfl
    · exact .of_axes (by simp)
  · exact .of_axes rfl

end Sys2Proof.Machine

namespace Sys2Proof.Machine

/-! ## An interpolation period, stage by stage and axis by axis

Each stage acts on one axis after the other; what it makes of an axis depends on that axis's own records and on blocks that
the stage leaves alone. -/

/-! ### The flags of an axis -/

/-- The fields of an Axis Unit that the flags of Section 1 read. -/
def AxisUnit.setup (u : AxisUnit) : Option AxisParams × Mode × Bool := (u.params, u.mode, u.referenced)

section
variable {s t : State} {a : Axis}

theorem setup_fields (h : (t.axis a).setup = (s.axis a).setup) :
    (t.axis a).params = (s.axis a).params ∧ (t.axis a).mode = (s.axis a).mode
      ∧ (t.axis a).referenced = (s.axis a).referenced := by
  simpa [AxisUnit.setup] using h

theorem driveEnable_congr (h : (t.axis a).setup = (s.axis a).setup) (hstop : t.stop = s.stop) :
    driveEnable t a = driveEnable s a := by
  obtain ⟨hp, hm, -⟩ := setup_fields h
  simp [driveEnable, AxisUnit.configured, hp, hm, hstop, hasFault_of_stop_eq hstop]

theorem compensated_congr (h : (t.axis a).setup = (s.axis a).setup) :
    (t.axis a).compensated = (s.axis a).compensated := by
  obtain ⟨-, hm, hr⟩ := setup_fields h
  simp [AxisUnit.compensated, hm, hr]

theorem positionsFollow_congr (h : (t.axis a).setup = (s.axis a).setup) (hstop : t.stop = s.stop) :
    positionsFollow t a = positionsFollow s a := by
  obtain ⟨hp, hm, hr⟩ := setup_fields h
  simp [positionsFollow, AxisUnit.configured, hp, hm, hr, driveEnable_congr h hstop]

theorem clampTakesPart_congr (h : (t.axis a).setup = (s.axis a).setup) : clampTakesPart t a = clampTakesPart s a := by
  obtain ⟨hp, -, -⟩ := setup_fields h
  simp [clampTakesPart, hp]

theorem clampReleased_congr (h : (t.axis a).setup = (s.axis a).setup) (hc : t.clamp a = s.clamp a) :
    clampReleased t a = clampReleased s a := by
  obtain ⟨-, hm, -⟩ := setup_fields h
  simp [clampReleased, clampNeeded, clampTakesPart_congr h, hm, hc]

theorem rampMayRun_congr (h : (t.axis a).setup = (s.axis a).setup) (hstop : t.stop = s.stop)
    (hc : t.clamp a = s.clamp a) : rampMayRun t a = rampMayRun s a := by
  simp [rampMayRun, compensated_congr h, driveEnable_congr h hstop, clampTakesPart_congr h, hc]

end

/-! ### The planner's work -/

/-- Nothing of a head's start actions is taken (R27). -/
theorem startHead_eq_self {s : State} (h : headInProgress s = true ∨ s.planner.queue = []) : startHead s = s := by
  unfold startHead
  rw [if_neg]
  rcases h with h | h <;> simp [h]

theorem pathStep_axis (mode : FeedMode) (feed : Nat) (c : MoveContext) (s : State) (a : Axis) :
    ∃ x, (pathStep mode feed c s).axis a = { s.axis a with commanded := x } := by
  unfold pathStep
  split
  · exact ⟨_, distribute_axis ..⟩
  · exact ⟨_, distribute_axis ..⟩

theorem moveWork_axis (mode : FeedMode) (feed : Nat) (s : State) (a : Axis) :
    ∃ x, (moveWork mode feed s).1.axis a = { s.axis a with commanded := x } := by
  unfold moveWork
  split
  · exact ⟨_, rfl⟩
  · split
    · exact ⟨_, rfl⟩
    · exact pathStep_axis ..

/-- The work of an ACTIVE head moves the commanded positions of a MOVE's axes alone. -/
theorem activeWork_axis (s : State) (a : Axis) :
    ∃ x, (activeWork s).1.axis a = { s.axis a with commanded := x } := by
  unfold activeWork
  split
  · exact ⟨_, rfl⟩
  · exact moveWork_axis ..
  · exact ⟨_, rfl⟩
  · exact ⟨_, rfl⟩
  · exact ⟨_, rfl⟩
  · exact ⟨_, rfl⟩
  · exact ⟨_, rfl⟩

/-- Where no head begins, the planner's work is that of an ACTIVE head at most (R27). -/
theorem plannerWork_cases {s : State} (h : NothingStarts s) :
    (plannerWork s).1 = s ∨ (plannerWork s).1 = (activeWork s).1 ∨ (plannerWork s).1 = promoteHead s
      ∨ (plannerWork s).1 = (activeWork (promoteHead s)).1 := by
  unfold plannerWork
  split
  · next hrun =>
    rw [startHead_eq_self (h hrun)]
    dsimp only
    split
    · exact .inr (.inr (.inr rfl))
    · exact .inr (.inr (.inl rfl))
  · split
    · exact .inr (.inl rfl)
    · exact .inl rfl
  · split
    · exact .inr (.inl rfl)
    · exact .inl rfl
  · exact .inl rfl
  · exact .inl rfl

theorem plannerWork_axis {s : State} (h : NothingStarts s) (a : Axis) :
    ∃ x, (plannerWork s).1.axis a = { s.axis a with commanded := x } := by
  have hpromote : (promoteHead s).axis a = s.axis a := by simp [State.axis]
  rcases plannerWork_cases h with e | e | e | e
  · exact ⟨_, by rw [e]⟩
  · rw [e]; exact activeWork_axis s a
  · exact ⟨_, by rw [e, hpromote]⟩
  · rw [e, ← hpromote]; exact activeWork_axis _ a

theorem plannerWork_blocks {s : State} (h : NothingStarts s) :
    (plannerWork s).1.clamps = s.clamps ∧ (plannerWork s).1.stop = s.stop
      ∧ (plannerWork s).1.pendant = s.pendant := by
  rcases plannerWork_cases h with e | e | e | e <;> simp [e]

theorem plannerWork_resting {s : State} (h : s.planner.state = .idle ∨ s.planner.state = .held) :
    plannerWork s = (s, false) := by
  rcases h with h | h <;> simp [plannerWork, h]

/-! ### Local motion -/

/-- One step writes p, the commanded position, velocity and direction of motion (R22). -/
theorem motionStep_form (p : AxisParams) (goal : Option Int) (target : Nat) (u : AxisUnit) :
    ∃ q x v h, motionStep p goal target u = { u with p := q, commanded := x, velocity := v, heading := h } := by
  unfold motionStep softGuard
  split
  · split
    · exact ⟨_, _, _, _, rfl⟩
    · split
      · exact ⟨_, _, _, _, rfl⟩
      · exact ⟨_, _, _, _, rfl⟩
  · exact ⟨_, _, _, _, rfl⟩

/-- What the local motion stage makes of an axis. -/
def movedUnit (ovr : Nat) (a : Axis) (u : AxisUnit) : AxisUnit :=
  match u.params with
  | none => u
  | some p => localStep a ovr p u

theorem movedUnit_form (ovr : Nat) (a : Axis) (u : AxisUnit) :
    ∃ q x v h, movedUnit ovr a u = { u with p := q, commanded := x, velocity := v, heading := h } := by
  unfold movedUnit
  split
  · exact ⟨_, _, _, _, rfl⟩
  · unfold localStep
    split
    · exact motionStep_form ..
    · exact motionStep_form ..
    · exact motionStep_form ..
    · exact motionStep_form ..
    · exact ⟨_, _, _, _, rfl⟩
    · exact ⟨_, _, _, _, rfl⟩
    · exact ⟨_, _, _, _, rfl⟩

theorem moveLocally_axes (a : Axis) (s : State) :
    (moveLocally a s).axes = s.axes.set a (movedUnit s.pendant.feedOverride a (s.axis a)) := by
  unfold moveLocally movedUnit
  cases (s.axis a).params with
  | none => exact (PerAxis.set_get _ _).symm
  | some p => simp

theorem moveLocally_axis_ne {a c : Axis} (h : c ≠ a) (s : State) : (moveLocally a s).axis c = s.axis c := by
  rw [State.axis, moveLocally_axes, PerAxis.get_set_ne _ _ h]
  rfl

theorem moveLocally_all (s : State) (a : Axis) :
    (eachAxis moveLocally s).axis a = movedUnit s.pendant.feedOverride a (s.axis a) :=
  eachAxis_at (P := fun _ => True) (view := fun c t => t.axis c)
    (out := fun c t => movedUnit t.pendant.feedOverride c (t.axis c)) (fun _ _ _ => trivial)
    (fun _ _ t _ h => moveLocally_axis_ne h t) (fun _ _ t _ h => by simp [moveLocally_axis_ne h])
    (fun c t _ => by rw [State.axis, moveLocally_axes, PerAxis.get_set]) trivial a

/-! ### Compensation and steps -/

section
variable {before : Axis → Int} {s t : State} {a c : Axis}

theorem compensateAxis_ne (h : c ≠ a) :
    (compensateAxis before a s).axis c = s.axis c ∧ (compensateAxis before a s).compOf c = s.compOf c := by
  unfold compensateAxis
  split
  · simp [followPeriod, followMeasured, State.setAxis_axis_ne _ _ h]
  · simp [stepOutput, State.setAxis_axis_ne _ _ h, State.setComp_compOf_ne _ _ h]

theorem compensateAxis_follow (h : positionsFollow s a = true) :
    (compensateAxis before a s).axis a =
        { s.axis a with
          commanded := (s.axis a).measured, output := (s.axis a).measured, pulses := 0
          atRest := (s.axis a).measured == before a }
      ∧ (compensateAxis before a s).compOf a = s.compOf a := by
  simp [compensateAxis, h, followPeriod, followMeasured]

theorem compensateAxis_step (h : positionsFollow s a = false) :
    (compensateAxis before a s).axis a =
        { (s.axis a).stepped (driveEnable s a) (takenOutput s a (stepComp s a (before a)).1) with
          atRest := (s.axis a).commanded == before a && (stepComp s a (before a)).2 }
      ∧ (compensateAxis before a s).compOf a = (stepComp s a (before a)).1 := by
  simp [compensateAxis, h, stepOutput]

theorem stepComp_congr (ha : t.axis a = s.axis a) (hcomp : t.compOf a = s.compOf a) (hc : t.clamp a = s.clamp a)
    (hstop : t.stop = s.stop) (x : Int) : stepComp t a x = stepComp s a x := by
  have hramp : rampMayRun t a = rampMayRun s a := rampMayRun_congr (by rw [ha]) hstop hc
  simp [stepComp, ha, hcomp, hramp]

theorem takenOutput_congr (ha : t.axis a = s.axis a) (hc : t.clamp a = s.clamp a) (hstop : t.stop = s.stop)
    (w : CompRecord) : takenOutput t a w = takenOutput s a w := by
  have hdrive : driveEnable t a = driveEnable s a := driveEnable_congr (by rw [ha]) hstop
  have hrel : clampReleased t a = clampReleased s a := clampReleased_congr (by rw [ha]) hc
  simp [takenOutput, formedOutput, ha, hdrive, hrel]

/-- The stage reads an axis's own records, its clamp and the stop chain. -/
theorem compensateAxis_congr (ha : t.axis a = s.axis a) (hcomp : t.compOf a = s.compOf a)
    (hc : t.clamp a = s.clamp a) (hstop : t.stop = s.stop) :
    (compensateAxis before a t).axis a = (compensateAxis before a s).axis a
      ∧ (compensateAxis before a t).compOf a = (compensateAxis before a s).compOf a := by
  have hfollow : positionsFollow t a = positionsFollow s a := positionsFollow_congr (by rw [ha]) hstop
  have hdrive : driveEnable t a = driveEnable s a := driveEnable_congr (by rw [ha]) hstop
  cases h : positionsFollow s a with
  | true =>
    obtain ⟨hs, hsc⟩ := compensateAxis_follow (before := before) h
    obtain ⟨ht, htc⟩ := compensateAxis_follow (before := before) (hfollow.trans h)
    rw [hs, hsc, ht, htc, ha, hcomp]
    exact ⟨rfl, rfl⟩
  | false =>
    obtain ⟨hs, hsc⟩ := compensateAxis_step (before := before) h
    obtain ⟨ht, htc⟩ := compensateAxis_step (before := before) (hfollow.trans h)
    rw [hs, hsc, ht, htc, ha, hdrive, stepComp_congr ha hcomp hc hstop, takenOutput_congr ha hc hstop]
    exact ⟨rfl, rfl⟩

end

theorem compensateAxis_all (before : Axis → Int) (s : State) (a : Axis) :
    (eachAxis (compensateAxis before) s).axis a = (compensateAxis before a s).axis a
      ∧ (eachAxis (compensateAxis before) s).compOf a = (compensateAxis before a s).compOf a := by
  have hpair := eachAxis_at (P := fun _ => True) (f := compensateAxis before)
    (view := fun c t => (t.axis c, t.compOf c))
    (out := fun c t => ((compensateAxis before c t).axis c, (compensateAxis before c t).compOf c))
    (fun _ _ _ => trivial)
    (fun c d t _ h => by
      obtain ⟨hax, hco⟩ := compensateAxis_ne (before := before) (s := t) h
      rw [hax, hco])
    (fun c d t _ h => by
      obtain ⟨hax, hco⟩ := compensateAxis_ne (before := before) (s := t) h
      obtain ⟨h1, h2⟩ := compensateAxis_congr (before := before) hax hco (by simp [State.clamp]) (by simp)
      rw [h1, h2])
    (fun _ _ _ => rfl) (s := s) trivial a
  exact ⟨congrArg Prod.fst hpair, congrArg Prod.snd hpair⟩

/-! ### The following-error check -/

/-- No axis beyond its limit, no check acts (R9). -/
theorem checkFollowing_none {s : State} (h : ∀ a, driveEnable s a = true → (s.axis a).errorExceeds = false) :
    eachAxis checkFollowing s = s := by
  have hone : ∀ a, checkFollowing a s = s := fun a => by
    unfold checkFollowing
    rw [if_neg]
    simpa using h a
  simp [eachAxis, hone]

/-! ### The ends of local motion -/

/-- An Axis Unit whose local motion has ended (R10). -/
def AxisUnit.halted (u : AxisUnit) : AxisUnit := { u with motion := .idle, velocity := 0 }

/-- What the end of a period makes of the local motion of an axis (R14, R15, R22). -/
def endedUnit (a : Axis) (u : AxisUnit) : AxisUnit :=
  match u.params with
  | none => u
  | some p =>
    match u.motion with
    | .idle => u
    | .jog _ => if u.velocity == 0 && u.atRest && demandMet a u p then u.halted else u
    | .reference .clampWait => u
    | .reference .stopping => if u.velocity == 0 && u.atRest then u.halted else u
    | .reference .moving =>
      if u.velocity == 0 && u.p == u.searchGoal * 1000 then u.halted else u

theorem endLocal_axes (a : Axis) (s : State) : (endLocal a s).axes = s.axes.set a (endedUnit a (s.axis a)) := by
  have hself : s.axes = s.axes.set a (s.axis a) := (PerAxis.set_get _ _).symm
  have hite : ∀ {b : Bool} {t : State} {u : AxisUnit}, t.axes = s.axes.set a u →
      (if b then t else s).axes = s.axes.set a (if b then u else s.axis a) := by
    intro b t u h
    cases b
    · exact hself
    · exact h
  unfold endLocal endedUnit
  cases (s.axis a).params with
  | none => exact hself
  | some p =>
    cases (s.axis a).motion with
    | idle => exact hself
    | jog phase => exact hite rfl
    | reference phase =>
      cases phase with
      | clampWait => exact hself
      | moving => exact hite (by simp [endMotion, AxisUnit.halted])
      | stopping => exact hite rfl

theorem endLocal_axis_ne {a c : Axis} (h : c ≠ a) (s : State) : (endLocal a s).axis c = s.axis c := by
  rw [State.axis, endLocal_axes, PerAxis.get_set_ne _ _ h]
  rfl

theorem endLocal_all (s : State) (a : Axis) : (eachAxis endLocal s).axis a = endedUnit a (s.axis a) :=
  eachAxis_at (P := fun _ => True) (view := fun c t => t.axis c) (out := fun c t => endedUnit c (t.axis c))
    (fun _ _ _ => trivial) (fun _ _ t _ h => endLocal_axis_ne h t) (fun _ _ t _ h => by rw [endLocal_axis_ne h])
    (fun c t _ => by rw [State.axis, endLocal_axes, PerAxis.get_set]) trivial a

/-- An axis keeps its local motion or loses it. -/
theorem endedUnit_cases (a : Axis) (u : AxisUnit) :
    endedUnit a u = u ∨ endedUnit a u = u.halted := by
  unfold endedUnit
  split
  · exact .inl rfl
  · split
    · exact .inl rfl
    · split
      · exact .inr rfl
      · exact .inl rfl
    · exact .inl rfl
    · split
      · exact .inr rfl
      · exact .inl rfl
    · split
      · exact .inr rfl
      · exact .inl rfl

theorem endLocal_grows (a : Axis) (s : State) : FaultsGrow s (endLocal a s) := by
  unfold endLocal
  split
  · exact .of_stop rfl
  · split
    · exact .of_stop rfl
    · split
      · exact .of_stop rfl
      · exact .of_stop rfl
    · exact .of_stop rfl
    · split
      · exact .of_stop rfl
      · exact .of_stop rfl
    · split
      · exact (raiseFault_grows .refFailed (.axis a) s).trans (.of_stop rfl)
      · exact .of_stop rfl

/-! ### The planner's end of the period -/

theorem completeEntry_axis (s : State) (a : Axis) : ∃ k, (completeEntry s).axis a = { s.axis a with claim := k } := by
  obtain ⟨k, hk⟩ := headLeaves_axis .completed s a
  unfold completeEntry
  split
  · exact ⟨k, by rw [← hk]; simp [State.axis]⟩
  · exact ⟨k, hk⟩

theorem completeAbort_axis (headLeft : Bool) (s : State) (a : Axis) :
    ∃ k, (completeAbort headLeft s).axis a = { s.axis a with claim := k } := by
  obtain ⟨k, hk⟩ := headLeaves_axis .aborted s a
  unfold completeAbort
  split
  · exact ⟨(s.axis a).claim, by simp [State.axis]⟩
  · exact ⟨k, by rw [← hk]; simp [State.axis]⟩

/-- Only the claims of the axes follow the planner's end of the period (R37, R46). -/
theorem plannerFinish_axis (completes : Bool) (s : State) (a : Axis) :
    ∃ k, (plannerFinish completes s).axis a = { s.axis a with claim := k } := by
  have hself : ∃ k, s.axis a = { s.axis a with claim := k } := ⟨_, rfl⟩
  obtain ⟨j, hj⟩ := completeEntry_axis s a
  have hheld : ∀ u : State, (becomeHeld u).axis a = u.axis a := fun u => rfl
  unfold plannerFinish
  split
  · exact hself
  · split
    · exact ⟨j, hj⟩
    · exact hself
  · split
    · exact ⟨j, hj⟩
    · split
      · exact hself
      · exact hself
  · exact hself
  · split
    · obtain ⟨k, hk⟩ := completeAbort_axis true (completeEntry s) a
      exact ⟨k, by rw [hk, hj]⟩
    · split
      · exact completeAbort_axis false s a
      · exact hself

theorem plannerFinish_resting {s : State} (h : s.planner.state = .idle ∨ s.planner.state = .held) (completes : Bool) :
    plannerFinish completes s = s := by
  rcases h with h | h <;> simp [plannerFinish, h]

/-! ### Parked axes, linger timers and the view -/

theorem checkParked_axis_ne {a c : Axis} (h : c ≠ a) (s : State) : (checkParked a s).axis c = s.axis c := by
  unfold checkParked
  split
  · exact loseReference_axis_ne h s
  · rfl

theorem checkParked_of_ne {a : Axis} {s : State} (h : (s.axis a).mode ≠ .parked) : checkParked a s = s := by
  simp [checkParked, h]

/-- A period's last check leaves an axis that is not PARKED alone (R17). -/
theorem checkParked_all {s : State} {a : Axis} (h : (s.axis a).mode ≠ .parked) :
    (eachAxis checkParked s).axis a = s.axis a ∧ (eachAxis checkParked s).compOf a = s.compOf a := by
  have hkeep : ∀ c, ∀ t : State, t.axis a = s.axis a ∧ t.compOf a = s.compOf a →
      (checkParked c t).axis a = s.axis a ∧ (checkParked c t).compOf a = s.compOf a := by
    intro c t ⟨hax, hco⟩
    by_cases e : a = c
    · subst e
      rw [checkParked_of_ne (by rwa [hax])]
      exact ⟨hax, hco⟩
    · refine ⟨(checkParked_axis_ne e t).trans hax, ?_⟩
      rw [← hco, checkParked, loseReference_eq]
      split
      · simp only [State.compOf]
        split
        · exact PerAxis.get_set_ne _ _ e
        · rfl
      · rfl
  exact eachAxis_keeps (P := fun t => t.axis a = s.axis a ∧ t.compOf a = s.compOf a) hkeep ⟨rfl, rfl⟩

/-- An Axis Unit with what it shows recorded (R70, R84, R200). -/
def viewedUnit (s : State) (a : Axis) : AxisUnit :=
  { s.axis a with
    seen := ⟨(s.axis a).commanded, (s.axis a).output, (s.axis a).measured, pitchShown s a⟩ }

theorem viewedUnit_congr {s t : State} {a : Axis} (ha : t.axis a = s.axis a) (hc : t.compOf a = s.compOf a) :
    viewedUnit t a = viewedUnit s a := by
  simp only [viewedUnit, pitchShown, ha, hc]

theorem recordView_all (s : State) (a : Axis) : (eachAxis recordView s).axis a = viewedUnit s a :=
  eachAxis_at (P := fun _ => True) (view := fun c t => t.axis c) (out := fun c t => viewedUnit t c)
    (fun _ _ _ => trivial) (fun _ _ _ _ h => State.setAxis_axis_ne _ _ h)
    (fun _ _ _ _ h => viewedUnit_congr (State.setAxis_axis_ne _ _ h) rfl)
    (fun _ _ _ => State.setAxis_axis_same ..) trivial a

end Sys2Proof.Machine

namespace Sys2Proof.Machine

/-! ### From stage to stage -/

/-- A relation that each step keeps and that composes is kept by a stage. -/
theorem eachAxis_rel {R : State → State → Prop} (htrans : ∀ {s t u}, R s t → R t u → R s u)
    {f : Axis → State → State} (hf : ∀ a s, R s (f a s)) (s : State) : R s (eachAxis f s) :=
  htrans (htrans (htrans (htrans (hf _ _) (hf _ _)) (hf _ _)) (hf _ _)) (hf _ _)

/-- No axis has a linger time of 0 ms. -/
def NoZeroLinger (s : State) : Prop := ∀ a p, (s.axis a).params = some p → p.clampLinger ≠ 0

/-- A clamp after the linger check of a period that starts no stroke (R97). -/
def lingeredClamp (s : State) (a : Axis) : Clamp :=
  match (s.axis a).params with
  | none => s.clamp a
  | some p =>
    { s.clamp a with
      linger :=
        if p.clampFitted = true ∧ (s.axis a).mode ≠ .loop ∧ (s.clamp a).state = .released then
          (if (s.axis a).lingerIdle then some ((s.clamp a).linger.getD p.clampLinger) else none)
        else (s.clamp a).linger }

/-- A linger time above 0 starts the timer and asks nothing of the Valve Bank (R97). -/
theorem startLinger_timer {s : State} {a : Axis} {p : AxisParams} (hp : (s.axis a).params = some p)
    (hz : p.clampLinger ≠ 0) : withOpportunity (startLinger a) s = setLinger a (some p.clampLinger) s := by
  have hstart : startLinger a s = setLinger a (some p.clampLinger) s := by simp [startLinger, hp, hz]
  rw [withOpportunity_of_eq (by rw [hstart]; simp), hstart]

theorem setClamp_self (s : State) (a : Axis) : s.setClamp a (s.clamp a) = s := by
  simp [State.setClamp, State.clamp]

theorem periodLinger_setClamp {s : State} (h : NoZeroLinger s) (a : Axis) :
    periodLinger a s = s.setClamp a (lingeredClamp s a) := by
  unfold periodLinger lingeredClamp
  cases hp : (s.axis a).params with
  | none => simp [clampTakesPart, hp, setClamp_self]
  | some p =>
    have htakes : clampTakesPart s a = p.clampFitted := by simp [clampTakesPart, hp]
    rw [startLinger_timer hp (h a p hp), htakes]
    by_cases hc : p.clampFitted = true ∧ (s.axis a).mode ≠ .loop ∧ (s.clamp a).state = .released
    · have hcond : (p.clampFitted && (s.axis a).mode != .loop && (s.clamp a).state == .released) = true := by
        simpa [and_assoc] using hc
      simp only [if_pos hc, hcond, if_true]
      cases (s.axis a).lingerIdle with
      | false => rfl
      | true =>
        cases hl : (s.clamp a).linger with
        | none => rfl
        | some n =>
          have hself : { s.clamp a with linger := some n } = s.clamp a := by rw [← hl]
          simp [hself, setClamp_self]
    · have hcond : (p.clampFitted && (s.axis a).mode != .loop && (s.clamp a).state == .released) = false := by
        simpa [and_assoc] using hc
      simp only [if_neg hc, hcond]
      exact (setClamp_self s a).symm

theorem lingeredClamp_congr {s t : State} {a : Axis} (ha : t.axis a = s.axis a) (hc : t.clamp a = s.clamp a) :
    lingeredClamp t a = lingeredClamp s a := by
  simp only [lingeredClamp, ha, hc]

theorem periodLinger_all {s : State} (h : NoZeroLinger s) (a : Axis) :
    (eachAxis periodLinger s).clamp a = lingeredClamp s a :=
  eachAxis_at (P := NoZeroLinger) (view := fun c t => t.clamp c) (out := fun c t => lingeredClamp t c)
    (fun c t ht => by rw [periodLinger_setClamp ht]; exact ht)
    (fun c d t ht hne => by rw [periodLinger_setClamp ht]; exact State.setClamp_clamp_ne _ _ hne)
    (fun c d t ht hne => by
      rw [periodLinger_setClamp ht]
      exact lingeredClamp_congr rfl (State.setClamp_clamp_ne _ _ hne))
    (fun c t ht => by rw [periodLinger_setClamp ht]; exact State.setClamp_clamp_same ..) h a

theorem periodLinger_axes {s : State} (h : NoZeroLinger s) : (eachAxis periodLinger s).axes = s.axes := by
  have hkeeps := eachAxis_keeps (P := fun t => NoZeroLinger t ∧ t.axes = s.axes) (f := periodLinger)
    (fun a t ⟨ht, hax⟩ => by
      rw [periodLinger_setClamp ht]
      exact ⟨ht, hax⟩) ⟨h, rfl⟩
  exact hkeeps.2

/-! ### What follows the planner's end of the period -/

section
variable {s : State} {a : Axis}

/-- The linger stage keeps the axes that wait for no clamp. -/
theorem periodLinger_keeps_all (s : State) : AxesKept s (eachAxis periodLinger s) :=
  eachAxis_rel (R := AxesKept) (fun h k => h.trans k) periodLinger_keeps s

theorem periodLinger_still_all (s : State) :
    (eachAxis periodLinger s).axes.map AxisUnit.still = s.axes.map AxisUnit.still := by
  simp [eachAxis]

theorem still_axis {s t : State} (h : t.axes.map AxisUnit.still = s.axes.map AxisUnit.still) (a : Axis) :
    (t.axis a).still = (s.axis a).still := by
  have ha := congrArg (fun p => PerAxis.get p a) h
  simpa [State.axis] using ha

theorem renewErrorCondition_axes (s : State) : (eachAxis renewErrorCondition s).axes = s.axes := by
  simp [eachAxis]

theorem periodChecks_axis (h : (s.axis a).mode ≠ .parked) :
    (eachAxis renewErrorCondition (eachAxis checkParked s)).axis a = s.axis a := by
  rw [State.axis, renewErrorCondition_axes]
  exact (checkParked_all h).1

/-- The stages after the planner's end leave an axis that is not PARKED, but for what a clamp's release lets its local
motion do and for what it shows. -/
theorem periodEnds_still (h : (s.axis a).mode ≠ .parked) :
    ∃ v, ((periodEnds s).axis a).still = { (s.axis a).still with seen := v } := by
  have hchecked := periodChecks_axis h
  have hlinger := still_axis (periodLinger_still_all (eachAxis renewErrorCondition (eachAxis checkParked s))) a
  rw [hchecked] at hlinger
  rw [periodEnds, recordView_all, viewedUnit, AxisUnit.still, ← hlinger]
  exact ⟨_, rfl⟩

theorem periodEnds_axis (h : (s.axis a).mode ≠ .parked) (hw : ¬(s.axis a).motion.waits) :
    ∃ v, (periodEnds s).axis a = { s.axis a with seen := v } := by
  have hchecked := periodChecks_axis h
  have hlinger := (periodLinger_keeps_all (eachAxis renewErrorCondition (eachAxis checkParked s))).axis a
    (by rwa [hchecked])
  rw [hchecked] at hlinger
  rw [periodEnds, recordView_all, viewedUnit, hlinger]
  exact ⟨_, rfl⟩

theorem periodEnds_compOf (h : (s.axis a).mode ≠ .parked) : (periodEnds s).compOf a = s.compOf a := by
  rw [← (checkParked_all h).2]
  simp [periodEnds, State.compOf, eachAxis]

theorem periodEnds_seen (s : State) (a : Axis) :
    ((periodEnds s).axis a).seen =
      ⟨((periodEnds s).axis a).commanded, ((periodEnds s).axis a).output, ((periodEnds s).axis a).measured,
        pitchShown (periodEnds s) a⟩ := by
  have hview := recordView_all (eachAxis periodLinger (eachAxis renewErrorCondition (eachAxis checkParked s))) a
  have hpitch : pitchShown (periodEnds s) a =
      pitchShown (eachAxis periodLinger (eachAxis renewErrorCondition (eachAxis checkParked s))) a := by
    have hcomp : (periodEnds s).compOf a =
        (eachAxis periodLinger (eachAxis renewErrorCondition (eachAxis checkParked s))).compOf a := by
      simp [periodEnds, State.compOf, eachAxis]
    rw [pitchShown, pitchShown, hcomp, periodEnds, hview]
    rfl
  rw [hpitch, periodEnds, hview]
  rfl

end

/-! ### The period without a following error -/

/-- The state of a period once local motion has moved every axis (R27). -/
def periodMoved (s : State) : State :=
  eachAxis moveLocally (plannerWork { s with clocks := { s.clocks with interpolation := 2 } }).1

theorem periodOutputs_eq (s : State) :
    periodOutputs s = eachAxis (compensateAxis fun a => (s.axis a).commanded) (periodMoved s) := rfl

/-- The state of a period at the planner's end of it. -/
def periodFinished (s : State) : State :=
  plannerFinish (plannerWork { s with clocks := { s.clocks with interpolation := 2 } }).2
    (eachAxis endLocal (periodOutputs s))

theorem interpolate_eq {s : State} (h : FollowsWell s) : interpolate s = periodEnds (periodFinished s) := by
  have hcheck : eachAxis checkFollowing (periodOutputs s) = periodOutputs s := checkFollowing_none h
  rw [periodFinished, ← hcheck]
  rfl

theorem periodFinished_axis (s : State) (a : Axis) :
    ∃ k, (periodFinished s).axis a = { endedUnit a ((periodOutputs s).axis a) with claim := k } := by
  obtain ⟨k, hk⟩ := plannerFinish_axis (plannerWork { s with clocks := { s.clocks with interpolation := 2 } }).2
    (eachAxis endLocal (periodOutputs s)) a
  exact ⟨k, by rw [periodFinished, hk, endLocal_all]⟩

theorem periodFinished_still (s : State) (a : Axis) :
    ((periodFinished s).axis a).still = ((periodOutputs s).axis a).still := by
  obtain ⟨k, hk⟩ := periodFinished_axis s a
  rw [hk]
  rcases endedUnit_cases a ((periodOutputs s).axis a) with e | e
  · rw [e]; rfl
  · rw [e]; rfl

theorem periodFinished_blocks (s : State) :
    (periodFinished s).comp = (periodOutputs s).comp ∧ (periodFinished s).clamps = (periodOutputs s).clamps := by
  simp [periodFinished, eachAxis]

theorem periodFinished_mode (s : State) (a : Axis) :
    ((periodFinished s).axis a).mode = ((periodOutputs s).axis a).mode := by
  have h : ((periodFinished s).axis a).still.mode = ((periodOutputs s).axis a).still.mode := by
    rw [periodFinished_still]
  exact h

/-- After a period without a following error an axis that is not PARKED stands where the output stage put it. -/
theorem interpolate_still {s : State} (h : FollowsWell s) {a : Axis} (hm : ((periodOutputs s).axis a).mode ≠ .parked) :
    ∃ v, ((interpolate s).axis a).still = { ((periodOutputs s).axis a).still with seen := v } := by
  have hf := periodFinished_still s a
  obtain ⟨v, hv⟩ := periodEnds_still (s := periodFinished s) (a := a) (by rwa [periodFinished_mode])
  exact ⟨v, by rw [interpolate_eq h, hv, hf]⟩

theorem interpolate_compOf {s : State} (h : FollowsWell s) {a : Axis} (hm : ((periodOutputs s).axis a).mode ≠ .parked) :
    (interpolate s).compOf a = (periodOutputs s).compOf a := by
  rw [interpolate_eq h, periodEnds_compOf (by rwa [periodFinished_mode]), State.compOf, (periodFinished_blocks s).1]
  rfl

end Sys2Proof.Machine

namespace Sys2Proof.Machine

/-! ### What the end of an event keeps -/

@[simp] theorem siteReturn_inputs (s : State) : InputsKept s (siteReturn s) := by
  unfold siteReturn
  dsimp only
  (repeat' split) <;> simp [InputsKept]

@[simp] theorem hydraulicCheck_inputs (s : State) : InputsKept s (hydraulicCheck s) := by
  unfold hydraulicCheck
  dsimp only
  (repeat' split) <;> simp [InputsKept]

@[simp] theorem noteChange_inputs (before s : State) : InputsKept s (noteChange before s) := by
  unfold noteChange
  split <;> simp [InputsKept]

@[simp] theorem transmit_inputs (s : State) : InputsKept s (transmit s) := by
  unfold transmit
  (repeat' split) <;> simp [InputsKept, Link.beginReport]

theorem finish_inputs (before s : State) : InputsKept s (finish before s) := by
  simp [InputsKept, finish]

/-- The state after an interpolation period (R27). -/
def afterPeriod (s : State) : State := finish s (interpolate s)

theorem exec_interpolationPeriod (s : State) : exec .interpolationPeriod s = .next (afterPeriod s) := rfl

theorem afterPeriod_inputs (s : State) : InputsKept s (afterPeriod s) :=
  (interpolate_inputs s).trans (finish_inputs s _)

theorem interpolate_clocks (s : State) : (interpolate s).clocks = { s.clocks with interpolation := 2 } := by
  simp [interpolate]

@[simp] theorem afterPeriod_axis (s : State) (a : Axis) : (afterPeriod s).axis a = (interpolate s).axis a :=
  finish_axis ..

@[simp] theorem afterPeriod_blocks (s : State) :
    (afterPeriod s).planner = (interpolate s).planner ∧ (afterPeriod s).comp = (interpolate s).comp
      ∧ (afterPeriod s).clamps = (interpolate s).clamps ∧ (afterPeriod s).stop = (interpolate s).stop := by
  simp [afterPeriod]

theorem interpolate_periodEnds (s : State) :
    ∃ r, interpolate s = periodEnds r := ⟨_, rfl⟩

theorem afterPeriod_seen (s : State) (a : Axis) :
    ((afterPeriod s).axis a).seen =
      ⟨((afterPeriod s).axis a).commanded, ((afterPeriod s).axis a).output, ((afterPeriod s).axis a).measured,
        pitchShown (afterPeriod s) a⟩ := by
  obtain ⟨r, hr⟩ := interpolate_periodEnds s
  have hpitch : pitchShown (afterPeriod s) a = pitchShown (interpolate s) a := by
    simp [pitchShown, State.compOf]
  rw [hpitch, afterPeriod_axis, hr]
  exact periodEnds_seen r a

/-- The fields of an axis that a period keeps, one by one. -/
theorem wired_fields {u v : AxisUnit} (h : u.wired = v.wired) :
    u.params = v.params ∧ u.encoder = v.encoder ∧ u.mode = v.mode ∧ u.loopHeld = v.loopHeld
      ∧ u.latchPlus = v.latchPlus ∧ u.latchMinus = v.latchMinus ∧ u.plusOpen = v.plusOpen
      ∧ u.minusOpen = v.minusOpen ∧ u.driveFault = v.driveFault ∧ (v.mode ≠ .loop → u.measured = v.measured) := by
  simp only [AxisUnit.wired, Prod.mk.injEq] at h
  obtain ⟨hp, he, hm, hl, hlp, hlm, ho, hn, hd, hmeas⟩ := h
  refine ⟨hp, he, hm, hl, hlp, hlm, ho, hn, hd, fun k => ?_⟩
  rw [hm, if_neg k, if_neg k] at hmeas
  exact Option.some.inj hmeas

theorem inputs_axis {s t : State} (h : InputsKept s t) (a : Axis) : (t.axis a).wired = (s.axis a).wired := by
  have ha := congrArg (fun p => PerAxis.get p a) h.1
  simpa [State.axis] using ha

theorem inputs_table {s t : State} (h : InputsKept s t) (a : Axis) : (t.compOf a).table = (s.compOf a).table := by
  have ha := congrArg (fun p => PerAxis.get p a) h.2.1
  simpa [State.compOf] using ha

theorem inputs_clamp {s t : State} (h : InputsKept s t) (a : Axis) :
    (t.clamp a).switchClosed = (s.clamp a).switchClosed := by
  have ha := congrArg (fun p => PerAxis.get p a) h.2.2.1
  simpa [State.clamp] using ha

end Sys2Proof.Machine

namespace Sys2Proof.Machine

/-! ### The following error of a period (R9) -/

/-- Raising one pair says nothing of another (R186). -/
theorem hasFault_raiseFault_ne {c d : FaultCode} {q r : Qualifier} (h : ¬(c = d ∧ q = r)) (s : State) :
    hasFault (raiseFault c q s) d r = hasFault s d r := by
  unfold raiseFault hasFault
  split
  · simp only [placeEvent, List.any_map]
    refine List.any_congr rfl fun e => ?_
    simp only [Function.comp_apply]
    split <;> rfl
  · have hnew : ((c == d) && (q == r)) = false := by simpa using h
    simp [placeEvent, newFault, hnew]

theorem startHead_still (s : State) : (startHead s).axes.map AxisUnit.still = s.axes.map AxisUnit.still := by
  unfold startHead
  split
  · simp [beginHead]
  · rfl

theorem referenced_of_still {s t : State} (h : t.axes.map AxisUnit.still = s.axes.map AxisUnit.still) (a : Axis) :
    (t.axis a).referenced = (s.axis a).referenced := by
  have hr : (t.axis a).still.referenced = (s.axis a).still.referenced := by rw [still_axis h]
  exact hr

theorem activeWork_referenced (s : State) (a : Axis) :
    ((activeWork s).1.axis a).referenced = (s.axis a).referenced := by
  obtain ⟨x, hx⟩ := activeWork_axis s a
  rw [hx]

/-- The planner's work takes no reference (R27). -/
theorem plannerWork_referenced (s : State) (a : Axis) :
    ((plannerWork s).1.axis a).referenced = (s.axis a).referenced := by
  have hstart := referenced_of_still (startHead_still s) a
  have hpromote : (promoteHead (startHead s)).axis a = (startHead s).axis a := by simp [State.axis]
  unfold plannerWork
  split
  · dsimp only
    split
    · rw [activeWork_referenced, hpromote, hstart]
    · rw [hpromote, hstart]
  · split
    · exact activeWork_referenced s a
    · rfl
  · split
    · exact activeWork_referenced s a
    · rfl
  · rfl
  · rfl

theorem compensateAxis_referenced (before : Axis → Int) (s : State) (a : Axis) :
    ((compensateAxis before a s).axis a).referenced = (s.axis a).referenced := by
  cases h : positionsFollow s a with
  | true => rw [(compensateAxis_follow h).1]
  | false =>
    rw [(compensateAxis_step h).1]
    rfl

/-- No reference is lost before the following-error check (R9, R27). -/
theorem periodOutputs_referenced (s : State) (a : Axis) :
    ((periodOutputs s).axis a).referenced = (s.axis a).referenced := by
  have hmoved : ((periodMoved s).axis a).referenced = (s.axis a).referenced := by
    obtain ⟨q, x, v, hd, hu⟩ := movedUnit_form
      (plannerWork { s with clocks := { s.clocks with interpolation := 2 } }).1.pendant.feedOverride a
      ((plannerWork { s with clocks := { s.clocks with interpolation := 2 } }).1.axis a)
    rw [periodMoved, moveLocally_all, hu]
    exact plannerWork_referenced _ a
  rw [periodOutputs_eq, (compensateAxis_all _ _ a).1, compensateAxis_referenced, hmoved]

/-! #### The check -/

/-- A stage establishes what its step on one axis establishes and the others keep. -/
theorem eachAxis_establishes {Pre Post : State → Prop} {f : Axis → State → State} {a : Axis}
    (hpre : ∀ c s, c ≠ a → Pre s → Pre (f c s)) (hat : ∀ s, Pre s → Post (f a s))
    (hpost : ∀ c s, Post s → Post (f c s)) {s : State} (h : Pre s) : Post (eachAxis f s) := by
  unfold eachAxis
  cases a with
  | x => exact hpost _ _ (hpost _ _ (hpost _ _ (hpost _ _ (hat _ h))))
  | y => exact hpost _ _ (hpost _ _ (hpost _ _ (hat _ (hpre _ _ (by decide) h))))
  | z => exact hpost _ _ (hpost _ _ (hat _ (hpre _ _ (by decide) (hpre _ _ (by decide) h))))
  | w =>
    exact hpost _ _ (hat _ (hpre _ _ (by decide) (hpre _ _ (by decide) (hpre _ _ (by decide) h))))
  | b =>
    exact hat _
      (hpre _ _ (by decide) (hpre _ _ (by decide) (hpre _ _ (by decide) (hpre _ _ (by decide) h))))

/-- An axis whose check will find a following error (R9). -/
structure ErrorAhead (seated : Bool) (a : Axis) (s : State) : Prop where
  drive : driveEnable s a = true
  exceeds : (s.axis a).errorExceeds = true
  referenced : (s.axis a).referenced = seated

/-- What a following error of an axis leaves (R9, R10, R47). -/
structure ErrorStopped (seated : Bool) (a : Axis) (s : State) : Prop where
  fault : hasFault s .followingError (.axis a) = true
  referenced : (s.axis a).referenced = false
  commanded : seated = true → (s.axis a).commanded = (s.axis a).output
  motion : ∀ c, (s.axis c).motion = .idle ∧ (s.axis c).velocity = 0
  planner : s.planner = idlePlanner []

section
variable {seated : Bool} {a c : Axis} {s t : State}

theorem checkFollowing_cases (c : Axis) (s : State) :
    checkFollowing c s = s ∨ checkFollowing c s = axisFault .followingError c s := by
  unfold checkFollowing
  split
  · exact .inr rfl
  · exact .inl rfl

theorem axisFault_halts (f : FaultCode) (c d : Axis) (s : State) :
    ((axisFault f c s).axis d).motion = .idle ∧ ((axisFault f c s).axis d).velocity = 0 := by
  by_cases e : d = c
  · subst e
    obtain ⟨k, hk⟩ := axisFault_axis_same f d s
    rw [hk]
    exact ⟨rfl, rfl⟩
  · obtain ⟨k, hk⟩ := axisFault_axis_ne f e s
    rw [hk]
    exact ⟨rfl, rfl⟩

theorem ErrorAhead.checkFollowing (h : ErrorAhead seated a s) (hne : c ≠ a) :
    ErrorAhead seated a (checkFollowing c s) := by
  rcases checkFollowing_cases c s with e | e
  · rwa [e]
  · obtain ⟨k, hk⟩ := axisFault_axis_ne .followingError hne.symm s
    have hq : ∀ f, hasFault (axisFault .followingError c s) f (.axis a) = hasFault s f (.axis a) := fun f => by
      rw [hasFault_of_stop_eq (axisFault_stop _ c s)]
      exact hasFault_raiseFault_ne (fun ⟨_, hax⟩ => hne (Qualifier.axis.inj hax)) s
    rw [e]
    refine ⟨?_, by rw [hk]; exact h.exceeds, by rw [hk]; exact h.referenced⟩
    rw [← h.drive]
    simp [driveEnable, hq, hk, AxisUnit.stopped, AxisUnit.configured]

theorem ErrorAhead.stops (h : ErrorAhead seated a s) : ErrorStopped seated a (Machine.checkFollowing a s) := by
  obtain ⟨k, hk⟩ := axisFault_axis_same .followingError a s
  have hact : Machine.checkFollowing a s = axisFault .followingError a s := by
    simp [Machine.checkFollowing, h.drive, h.exceeds]
  rw [hact]
  refine ⟨?_, by rw [hk], fun hs => ?_, fun c => axisFault_halts _ a c s, axisFault_planner ..⟩
  · rw [hasFault_of_stop_eq (axisFault_stop _ a s)]
    exact hasFault_raiseFault ..
  · rw [hk]
    simp [h.referenced, hs, AxisUnit.stopped]

/-- What a later stage must leave for the stop to stand. -/
theorem ErrorStopped.later (h : ErrorStopped seated a s) (hf : FaultsGrow s t) (hp : t.planner = s.planner)
    (ha : ∀ c, t.axis c = s.axis c) : ErrorStopped seated a t :=
  ⟨hf.has _ _ h.fault, by rw [ha]; exact h.referenced, by rw [ha]; exact h.commanded,
    fun c => by rw [ha]; exact h.motion c, hp.trans h.planner⟩

theorem loseReference_motion (c d : Axis) (s : State) :
    ((loseReference c s).axis d).motion = (s.axis d).motion
      ∧ ((loseReference c s).axis d).velocity = (s.axis d).velocity := by
  by_cases e : d = c
  · subst e
    rw [loseReference_axis_same]
    exact ⟨rfl, rfl⟩
  · rw [loseReference_axis_ne e]
    exact ⟨rfl, rfl⟩

/-- An axis without reference has none to lose (R3). -/
theorem loseReference_axis_unreferenced (c : Axis) (h : (s.axis a).referenced = false) :
    (loseReference c s).axis a = s.axis a := by
  by_cases e : a = c
  · subst e
    rw [loseReference_axis_same]
    simp only [h, Bool.false_eq_true, if_false]
    rw [← h]
  · exact loseReference_axis_ne e s

theorem ErrorStopped.loseReference (h : ErrorStopped seated a s) (c : Axis) :
    ErrorStopped seated a (loseReference c s) := by
  have ha := loseReference_axis_unreferenced c h.referenced
  refine ⟨(FaultsGrow.of_stop (by simp)).has _ _ h.fault, by rw [ha]; exact h.referenced,
    by rw [ha]; exact h.commanded, fun d => ?_, by simp [h.planner]⟩
  obtain ⟨hm, hv⟩ := loseReference_motion c d s
  rw [hm, hv]
  exact h.motion d

theorem ErrorStopped.immediateStop (h : ErrorStopped seated a s) : ErrorStopped seated a (immediateStop s) := by
  have ha : ∀ c, ∃ k, (Machine.immediateStop s).axis c = (s.axis c).stopped k := immediateStop_axis s
  refine ⟨(FaultsGrow.of_stop (by simp)).has _ _ h.fault, ?_, ?_, fun c => ?_, immediateStop_planner s⟩
  · obtain ⟨k, hk⟩ := ha a
    rw [hk]
    exact h.referenced
  · obtain ⟨k, hk⟩ := ha a
    rw [hk]
    exact h.commanded
  · obtain ⟨k, hk⟩ := ha c
    rw [hk]
    exact ⟨rfl, rfl⟩

theorem ErrorStopped.checkFollowing (h : ErrorStopped seated a s) (c : Axis) :
    ErrorStopped seated a (checkFollowing c s) := by
  rcases checkFollowing_cases c s with e | e
  · rwa [e]
  · have hraised : ErrorStopped seated a (raiseFault .followingError (.axis c) s) :=
      h.later (raiseFault_grows ..) (by simp) fun d => by simp
    rw [e]
    exact hraised.immediateStop.loseReference c

theorem ErrorStopped.endLocal (h : ErrorStopped seated a s) (c : Axis) : ErrorStopped seated a (endLocal c s) := by
  have hself : Machine.endLocal c s = s := by
    unfold Machine.endLocal
    rw [(h.motion c).1]
    split
    · rfl
    · rfl
  rwa [hself]

theorem ErrorStopped.plannerFinish (h : ErrorStopped seated a s) (completes : Bool) :
    ErrorStopped seated a (plannerFinish completes s) := by
  rwa [plannerFinish_resting (.inl (by rw [h.planner]; rfl))]

theorem ErrorStopped.checkParked (h : ErrorStopped seated a s) (c : Axis) :
    ErrorStopped seated a (checkParked c s) := by
  unfold Machine.checkParked
  split
  · exact h.loseReference c
  · exact h

theorem ErrorStopped.renewErrorCondition (h : ErrorStopped seated a s) (c : Axis) :
    ErrorStopped seated a (renewErrorCondition c s) :=
  h.later (setCondition_grows ..) (by simp) fun _ => rfl

theorem ErrorStopped.periodLinger (h : ErrorStopped seated a s) (c : Axis) :
    ErrorStopped seated a (periodLinger c s) := by
  obtain ⟨-, -, hplanner⟩ := periodLinger_kept c s
  refine h.later (periodLinger_grows c s) (hplanner (by rw [h.planner]; rfl)) fun d => ?_
  refine (periodLinger_keeps c s).axis d ?_
  rw [(h.motion d).1]
  simp [LocalMotion.waits]

theorem ErrorStopped.recordView (h : ErrorStopped seated a s) (c : Axis) :
    ErrorStopped seated a (recordView c s) := by
  have hform : ∀ d, ∃ v, (Machine.recordView c s).axis d = { s.axis d with seen := v } := by
    intro d
    unfold Machine.recordView
    by_cases e : d = c
    · subst e
      exact ⟨_, State.setAxis_axis_same ..⟩
    · exact ⟨_, State.setAxis_axis_ne _ _ e⟩
  obtain ⟨v, hv⟩ := hform a
  refine ⟨h.fault, by rw [hv]; exact h.referenced, by rw [hv]; exact h.commanded, fun d => ?_, h.planner⟩
  obtain ⟨w, hw⟩ := hform d
  rw [hw]
  exact h.motion d

theorem ErrorStopped.periodEnds (h : ErrorStopped seated a s) : ErrorStopped seated a (periodEnds s) :=
  eachAxis_keeps (fun c _ k => k.recordView c) <| eachAxis_keeps (fun c _ k => k.periodLinger c) <|
    eachAxis_keeps (fun c _ k => k.renewErrorCondition c) <| eachAxis_keeps (fun c _ k => k.checkParked c) h

/-- A following error found at a period stops every axis and the program (R9, R10, R47). -/
theorem interpolate_errorStopped (hdrive : driveEnable (periodOutputs s) a = true)
    (hexceeds : ((periodOutputs s).axis a).errorExceeds = true) :
    ErrorStopped (s.axis a).referenced a (interpolate s) := by
  have hahead : ErrorAhead (s.axis a).referenced a (periodOutputs s) :=
    ⟨hdrive, hexceeds, periodOutputs_referenced s a⟩
  have hchecked : ErrorStopped (s.axis a).referenced a (eachAxis Machine.checkFollowing (periodOutputs s)) :=
    eachAxis_establishes (fun _ _ hne k => k.checkFollowing hne) (fun _ k => k.stops)
      (fun c _ k => k.checkFollowing c) hahead
  have hended := eachAxis_keeps (P := ErrorStopped (s.axis a).referenced a) (fun c _ k => k.endLocal c) hchecked
  exact (hended.plannerFinish
    (Machine.plannerWork { s with clocks := { s.clocks with interpolation := 2 } }).2).periodEnds

end

end Sys2Proof.Machine

namespace Sys2Proof.Machine

/-! ### Compensation and output of a period (R6, R72, R77 to R79) -/

section
variable {s : State} {a : Axis}

theorem NothingStarts.clocked (h : NothingStarts s) :
    NothingStarts { s with clocks := { s.clocks with interpolation := 2 } } := h

/-- Planner and local motion write positions, velocity and direction of motion of an axis. -/
theorem periodMoved_axis (h : NothingStarts s) (a : Axis) :
    ∃ q x v d, (periodMoved s).axis a = { s.axis a with p := q, commanded := x, velocity := v, heading := d } := by
  obtain ⟨x, hx⟩ := plannerWork_axis h.clocked a
  obtain ⟨q, y, v, d, hu⟩ := movedUnit_form
    (plannerWork { s with clocks := { s.clocks with interpolation := 2 } }).1.pendant.feedOverride a
    ((plannerWork { s with clocks := { s.clocks with interpolation := 2 } }).1.axis a)
  exact ⟨q, y, v, d, by rw [periodMoved, moveLocally_all, hu, hx]; rfl⟩

theorem periodMoved_blocks (h : NothingStarts s) :
    (periodMoved s).comp = s.comp ∧ (periodMoved s).clamps = s.clamps ∧ (periodMoved s).stop = s.stop := by
  obtain ⟨hc, hs, -⟩ := plannerWork_blocks h.clocked
  simp [periodMoved, eachAxis, hc, hs]

theorem periodMoved_setup (h : NothingStarts s) (a : Axis) : ((periodMoved s).axis a).setup = (s.axis a).setup := by
  obtain ⟨q, x, v, d, hu⟩ := periodMoved_axis h a
  rw [hu]
  rfl

theorem periodMoved_follows (h : NothingStarts s) (a : Axis) :
    positionsFollow (periodMoved s) a = positionsFollow s a :=
  positionsFollow_congr (periodMoved_setup h a) (periodMoved_blocks h).2.2

/-! #### The compensation record after one period -/

variable {p : AxisParams}

theorem newDirection_eq (u : AxisUnit) (old : Sign) (inc : Int) :
    newDirection u old inc =
      if u.compensated = true ∧ inc ≠ 0 then (if 0 < inc then .plus else .minus) else old := by
  unfold newDirection headingTo
  cases u.compensated with
  | false => simp
  | true =>
    rcases lt_trichotomy inc 0 with k | k | k
    · simp [k, k.ne, not_lt.mpr k.le]
    · simp [k]
    · simp [k, k.ne']

theorem backlashTarget_eq (p : AxisParams) (d : Sign) :
    backlashTarget p d = if d = .plus then p.backlash else 0 := by
  cases d <;> rfl

theorem rampB_eq (rate target b : Nat) :
    rampB rate target b = if b ≤ target then min target (b + rate) else max target (b - rate) := by
  unfold rampB
  split <;> split <;> omega

theorem stepComp_direction (hp : (s.axis a).params = some p) (before : Int) :
    (stepComp s a before).1.direction =
      newDirection (s.axis a) (s.compOf a).direction ((s.axis a).commanded - before) := by
  unfold stepComp
  rw [hp]
  dsimp only
  split <;> rfl

theorem stepComp_b (hp : (s.axis a).params = some p) (before : Int) :
    (stepComp s a before).1.b =
      if rampMayRun s a = false then (s.compOf a).b
      else rampB p.backlashRate (backlashTarget p (stepComp s a before).1.direction) (s.compOf a).b := by
  rw [stepComp_direction hp]
  unfold stepComp
  rw [hp]
  cases rampMayRun s a <;> rfl

theorem stepComp_reached (hp : (s.axis a).params = some p) (before : Int) :
    (stepComp s a before).2 = true ↔
      (rampMayRun s a = true →
        (stepComp s a before).1.b = backlashTarget p (stepComp s a before).1.direction) := by
  rw [stepComp_b hp, stepComp_direction hp]
  unfold stepComp
  rw [hp]
  cases rampMayRun s a <;> simp

theorem pitchAt_table {c d : CompRecord} (h : c.table = d.table) (x : Int) : pitchAt c x = pitchAt d x := by
  simp only [CompRecord.table, Prod.mk.injEq] at h
  obtain ⟨hk, hb, hp⟩ := h
  simp [pitchAt, CompRecord.point, CompRecord.size, CompRecord.width, hk, hb, hp]

theorem takenOutput_eq (s : State) (a : Axis) (w : CompRecord) :
    takenOutput s a w =
      if clampReleased s a = false then (s.axis a).output
      else if (s.axis a).compensated = false then (s.axis a).commanded
      else if driveEnable s a = false then (s.axis a).output
      else (s.axis a).commanded + pitchAt w (s.axis a).commanded + w.b := by
  unfold takenOutput formedOutput
  cases clampReleased s a <;> cases (s.axis a).compensated <;> cases driveEnable s a <;> rfl

theorem headingTo_plus_iff {d : Sign} {x y : Int} (h : y ≠ x) : headingTo d (y - x) = .plus ↔ x < y := by
  unfold headingTo
  rcases lt_or_gt_of_ne h with k | k
  · rw [if_neg (by omega), if_pos (by omega)]
    simp
    omega
  · simp [k]

end

end Sys2Proof.Machine

namespace Sys2Proof.Machine

section
variable {s : State} {a : Axis}

/-! #### An axis that follows its measured position (R8) -/

/-- An Axis Unit whose positions are the measured one, with no steps. -/
structure AxisUnit.Followed (m : Int) (rest : Bool) (u : AxisUnit) : Prop where
  commanded : u.commanded = m
  output : u.output = m
  pulses : u.pulses = 0
  atRest : u.atRest = rest

theorem AxisUnit.Followed.of_still {u v : AxisUnit} {m : Int} {rest : Bool} (h : u.Followed m rest)
    (e : v.still = u.still) : v.Followed m rest := by
  have hfields := AxisUnit.mk.inj e
  obtain ⟨-, hc, ho, -, -, -, -, hr, -, -, -, -, -, -, -, -, -, -, -, -, -, -, hp, -⟩ := hfields
  exact ⟨hc.trans h.commanded, ho.trans h.output, hp.trans h.pulses, hr.trans h.atRest⟩

theorem followed_loseReference {m : Int} {rest : Bool} (h : (s.axis a).Followed m rest) (c : Axis) :
    ((loseReference c s).axis a).Followed m rest := by
  by_cases e : a = c
  · subst e
    rw [loseReference_axis_same]
    refine ⟨?_, h.output, h.pulses, h.atRest⟩
    dsimp only
    split
    · exact h.output
    · exact h.commanded
  · rwa [loseReference_axis_ne e]

theorem followed_periodEnds {m : Int} {rest : Bool} (h : (s.axis a).Followed m rest) :
    ((periodEnds s).axis a).Followed m rest := by
  have hparked : ((eachAxis checkParked s).axis a).Followed m rest :=
    eachAxis_keeps (P := fun t => (t.axis a).Followed m rest) (fun c t k => by
      unfold checkParked
      split
      · exact followed_loseReference k c
      · exact k) h
  have hrenewed : ((eachAxis renewErrorCondition (eachAxis checkParked s)).axis a).Followed m rest := by
    rwa [State.axis, renewErrorCondition_axes]
  have hlinger := hrenewed.of_still (still_axis (periodLinger_still_all _) a)
  rw [periodEnds, recordView_all, viewedUnit]
  exact ⟨hlinger.commanded, hlinger.output, hlinger.pulses, hlinger.atRest⟩

theorem periodOutputs_followed (h : NothingStarts s) (hf : positionsFollow s a = true) :
    ((periodOutputs s).axis a).Followed (s.axis a).measured ((s.axis a).measured == (s.axis a).commanded) := by
  obtain ⟨q, x, v, d, hu⟩ := periodMoved_axis h a
  have hunit := (compensateAxis_follow (before := fun a => (s.axis a).commanded)
    ((periodMoved_follows h a).trans hf)).1
  rw [periodOutputs_eq, (compensateAxis_all _ _ a).1, hunit, hu]
  exact ⟨rfl, rfl, rfl, rfl⟩

theorem interpolate_followed (h : NothingStarts s) (hw : FollowsWell s) (hf : positionsFollow s a = true) :
    ((interpolate s).axis a).Followed (s.axis a).measured ((s.axis a).measured == (s.axis a).commanded) := by
  rw [interpolate_eq hw]
  exact followed_periodEnds ((periodOutputs_followed h hf).of_still (periodFinished_still s a))

/-! #### An axis that is commanded -/

theorem positionsFollow_mode (h : positionsFollow s a = false) : (s.axis a).mode ≠ .parked := by
  intro k
  simp [positionsFollow, k] at h

/-- The compensation that a period forms for an axis, and whether its ramp has ended (R77 to R79). -/
def periodComp (s : State) (a : Axis) : CompRecord × Bool := stepComp (periodMoved s) a (s.axis a).commanded

/-- The Axis Unit as the output stage leaves it (R6, R72). -/
def periodStepped (s : State) (a : Axis) : AxisUnit :=
  { ((periodMoved s).axis a).stepped (driveEnable s a) (takenOutput (periodMoved s) a (periodComp s a).1) with
    atRest := ((periodMoved s).axis a).commanded == (s.axis a).commanded && (periodComp s a).2 }

theorem periodOutputs_stepped (h : NothingStarts s) (hf : positionsFollow s a = false) :
    (periodOutputs s).axis a = periodStepped s a ∧ (periodOutputs s).compOf a = (periodComp s a).1 := by
  obtain ⟨hunit, hcomp⟩ := compensateAxis_step (before := fun a => (s.axis a).commanded)
    ((periodMoved_follows h a).trans hf)
  have hdrive : driveEnable (periodMoved s) a = driveEnable s a :=
    driveEnable_congr (periodMoved_setup h a) (periodMoved_blocks h).2.2
  obtain ⟨hall, hallComp⟩ := compensateAxis_all (fun a => (s.axis a).commanded) (periodMoved s) a
  rw [periodOutputs_eq, hall, hallComp, hunit, hcomp, hdrive]
  exact ⟨rfl, rfl⟩

theorem periodStepped_mode (h : NothingStarts s) (a : Axis) : (periodStepped s a).mode = (s.axis a).mode :=
  (setup_fields (periodMoved_setup h a)).2.1

theorem interpolate_stepped (h : NothingStarts s) (hw : FollowsWell s) (hf : positionsFollow s a = false) :
    (∃ v, ((interpolate s).axis a).still = { (periodStepped s a).still with seen := v })
      ∧ (interpolate s).compOf a = (periodComp s a).1 := by
  obtain ⟨hunit, hcomp⟩ := periodOutputs_stepped h hf
  have hmode : ((periodOutputs s).axis a).mode ≠ .parked := by
    rw [hunit, periodStepped_mode h]
    exact positionsFollow_mode hf
  rw [← hunit, ← hcomp]
  exact ⟨interpolate_still hw hmode, interpolate_compOf hw hmode⟩

/-- What a period shows of an axis that is commanded: the fields of the stepped unit. -/
theorem interpolate_commanded (h : NothingStarts s) (hw : FollowsWell s) (hf : positionsFollow s a = false) :
    ((interpolate s).axis a).commanded = ((periodMoved s).axis a).commanded
      ∧ ((interpolate s).axis a).output = takenOutput (periodMoved s) a (periodComp s a).1
      ∧ ((interpolate s).axis a).measured = (periodStepped s a).measured
      ∧ ((interpolate s).axis a).directionOut = (periodStepped s a).directionOut
      ∧ ((interpolate s).axis a).pulses = (periodStepped s a).pulses
      ∧ ((interpolate s).axis a).atRest = (periodStepped s a).atRest := by
  obtain ⟨⟨v, hv⟩, -⟩ := interpolate_stepped h hw hf
  obtain ⟨-, hc, ho, hm, -, -, -, hr, -, -, -, -, -, -, -, -, -, -, -, -, -, hd, hp, -⟩ := AxisUnit.mk.inj hv
  exact ⟨hc, ho, hm, hd, hp, hr⟩

/-! #### The linger timers (R97) -/

/-- The state of a period before its linger timers are looked at. -/
def periodChecked (s : State) : State := eachAxis renewErrorCondition (eachAxis checkParked (periodFinished s))

theorem interpolate_checked (hw : FollowsWell s) :
    interpolate s = eachAxis recordView (eachAxis periodLinger (periodChecked s)) := interpolate_eq hw

theorem periodChecked_inputs (s : State) : InputsKept s (periodChecked s) := by
  have hclock : InputsKept s { s with clocks := { s.clocks with interpolation := 2 } } := by simp [InputsKept]
  refine hclock.trans ?_
  simp [InputsKept, periodChecked, periodFinished, periodOutputs, eachAxis]

theorem periodChecked_clamps (h : NothingStarts s) : (periodChecked s).clamps = s.clamps := by
  obtain ⟨hc, -, -⟩ := plannerWork_blocks h.clocked
  simp [periodChecked, periodFinished, periodOutputs, eachAxis, hc]

theorem periodChecked_noZeroLinger (hz : NoZeroLinger s) : NoZeroLinger (periodChecked s) := by
  intro a p hp
  obtain ⟨hparams, -⟩ := wired_fields (inputs_axis (periodChecked_inputs s) a)
  exact hz a p (hparams.symm.trans hp)

/-- The clamps after a period in which no linger time of 0 ms asks for a stroke. -/
theorem interpolate_clamp (h : NothingStarts s) (hw : FollowsWell s) (hz : NoZeroLinger s) (a : Axis) {p : AxisParams}
    (hp : (s.axis a).params = some p) :
    (interpolate s).clamp a =
      { s.clamp a with
        linger :=
          if p.clampFitted = true ∧ (s.axis a).mode ≠ .loop ∧ (s.clamp a).state = .released then
            (if ((interpolate s).axis a).lingerIdle then some ((s.clamp a).linger.getD p.clampLinger) else none)
          else (s.clamp a).linger } := by
  obtain ⟨hparams, -, hmode, -⟩ := wired_fields (inputs_axis (periodChecked_inputs s) a)
  have hclamp : (periodChecked s).clamp a = s.clamp a := by rw [State.clamp, periodChecked_clamps h]; rfl
  have hidle : ((interpolate s).axis a).lingerIdle = ((periodChecked s).axis a).lingerIdle := by
    rw [interpolate_checked hw, recordView_all, viewedUnit, State.axis,
      periodLinger_axes (periodChecked_noZeroLinger hz)]
    rfl
  have hlinger : (interpolate s).clamp a = lingeredClamp (periodChecked s) a := by
    rw [← periodLinger_all (periodChecked_noZeroLinger hz), interpolate_checked hw]
    simp [State.clamp, eachAxis]
  rw [hlinger, lingeredClamp, hidle, hparams, hp, hmode, hclamp]

end

end Sys2Proof.Machine

namespace Sys2Proof.Machine

section
variable {s : State} {a : Axis}

/-! ### What a period does to an axis and to its inputs (O17) -/

/-- With a following error found at a period the drive of the axis is off (R7, R9). -/
theorem driveEnable_of_followingError (h : hasFault s .followingError (.axis a) = true) : driveEnable s a = false := by
  simp [driveEnable, h]

theorem afterPeriod_errorStopped (hdrive : driveEnable (periodOutputs s) a = true)
    (hexceeds : ((periodOutputs s).axis a).errorExceeds = true) :
    ErrorStopped (s.axis a).referenced a (afterPeriod s) :=
  (interpolate_errorStopped hdrive hexceeds).later (.of_stop (by simp)) (by simp) fun c => afterPeriod_axis s c

theorem afterPeriod_compOf (s : State) (a : Axis) : (afterPeriod s).compOf a = (interpolate s).compOf a := by
  simp [State.compOf]

theorem afterPeriod_clamp (s : State) (a : Axis) : (afterPeriod s).clamp a = (interpolate s).clamp a := by
  simp [State.clamp]

/-- The compensation record that a period leaves an axis that is commanded (R77 to R79). -/
theorem periodComp_eq (h : NothingStarts s) {p : AxisParams} (hp : (s.axis a).params = some p) {inc : Int}
    (hinc : inc = ((periodMoved s).axis a).commanded - (s.axis a).commanded) :
    (periodComp s a).1.direction =
        (if (s.axis a).compensated = true ∧ inc ≠ 0 then (if 0 < inc then .plus else .minus)
        else (s.compOf a).direction)
      ∧ (periodComp s a).1.b =
        (if rampMayRun s a = false then (s.compOf a).b
        else rampB p.backlashRate (backlashTarget p (periodComp s a).1.direction) (s.compOf a).b)
      ∧ ((periodComp s a).2 = true ↔
        (rampMayRun s a = true → (periodComp s a).1.b = backlashTarget p (periodComp s a).1.direction)) := by
  have hsetup := periodMoved_setup h a
  obtain ⟨hblocks, hclamps, hstop⟩ := periodMoved_blocks h
  have hp' : ((periodMoved s).axis a).params = some p := (setup_fields hsetup).1.trans hp
  have hcomp : (periodMoved s).compOf a = s.compOf a := by rw [State.compOf, hblocks]; rfl
  have hclamp : (periodMoved s).clamp a = s.clamp a := by rw [State.clamp, hclamps]; rfl
  have hramp : rampMayRun (periodMoved s) a = rampMayRun s a := rampMayRun_congr hsetup hstop hclamp
  have hdir := stepComp_direction hp' (s.axis a).commanded
  have hb := stepComp_b hp' (s.axis a).commanded
  have hreached := stepComp_reached hp' (s.axis a).commanded
  rw [newDirection_eq, compensated_congr hsetup, hcomp, ← hinc] at hdir
  rw [hramp, hcomp] at hb
  rw [hramp] at hreached
  exact ⟨hdir, hb, hreached⟩

/-- The output position that a period gives an axis that is commanded (R6, R72). -/
theorem periodOutput_eq (h : NothingStarts s) :
    takenOutput (periodMoved s) a (periodComp s a).1 =
      if clampReleased s a = false then (s.axis a).output
      else if (s.axis a).compensated = false then ((periodMoved s).axis a).commanded
      else if driveEnable s a = false then (s.axis a).output
      else ((periodMoved s).axis a).commanded + pitchAt (s.compOf a) ((periodMoved s).axis a).commanded
        + (periodComp s a).1.b := by
  have hsetup := periodMoved_setup h a
  obtain ⟨hblocks, hclamps, hstop⟩ := periodMoved_blocks h
  have hclamp : (periodMoved s).clamp a = s.clamp a := by rw [State.clamp, hclamps]; rfl
  have htable : (periodComp s a).1.table = (s.compOf a).table := by
    rw [periodComp, stepComp_table, State.compOf, hblocks]
    rfl
  have houtput : ((periodMoved s).axis a).output = (s.axis a).output := by
    obtain ⟨q, x, v, d, hu⟩ := periodMoved_axis h a
    rw [hu]
  rw [takenOutput_eq, clampReleased_congr hsetup hclamp, compensated_congr hsetup, driveEnable_congr hsetup hstop,
    houtput, pitchAt_table htable]

theorem periodMoved_fields (h : NothingStarts s) (a : Axis) :
    ((periodMoved s).axis a).output = (s.axis a).output ∧ ((periodMoved s).axis a).measured = (s.axis a).measured
      ∧ ((periodMoved s).axis a).mode = (s.axis a).mode := by
  obtain ⟨q, x, v, d, hu⟩ := periodMoved_axis h a
  rw [hu]
  exact ⟨rfl, rfl, rfl⟩

/-- The step outputs that a period gives an axis that is commanded (R6, R18). -/
theorem periodStepped_outputs (h : NothingStarts s) {y : Int}
    (hy : y = takenOutput (periodMoved s) a (periodComp s a).1) :
    (periodStepped s a).pulses = (if driveEnable s a then (y - (s.axis a).output).natAbs else 0)
      ∧ (driveEnable s a = true → y ≠ (s.axis a).output →
        ((periodStepped s a).directionOut = .plus ↔ (s.axis a).output < y))
      ∧ ((s.axis a).mode = .loop →
        (periodStepped s a).measured = (s.axis a).measured + (y - (s.axis a).output)) := by
  obtain ⟨ho, hm, hmode⟩ := periodMoved_fields h a
  subst hy
  unfold periodStepped AxisUnit.stepped
  rw [ho, hm, hmode]
  refine ⟨rfl, fun hd hne => ?_, fun hl => by simp [hl]⟩
  rw [if_pos hd]
  exact headingTo_plus_iff hne

/-- Settles O17: the stages of a period one by one, each keeping what the statement keeps. -/
theorem periodKeepsInputs : Obligations.PeriodKeepsInputs := by
  intro s
  have hin := afterPeriod_inputs s
  obtain ⟨-, -, -, hsw, htab, hpok, hbyp, hsm, hwc, hif, hstp, htl, htm, hfo, hso, hlk, hlg, hes, hpt, hc1, hc2, hst,
    hfr, hpd⟩ := afterPeriod_inputs s
  refine ⟨afterPeriod s, exec_interpolationPeriod s, ?_, ?_, fun a => ?_, fun a => ?_, fun a => inputs_clamp hin a, hsw,
    htab, hpok, hbyp, hsm, hwc, hif, hstp, htl, htm, hfo, hso, hlk, hlg, hes, hpt, hc1, hc2, hst, hfr, hpd,
    fun a hd he => ?_, fun hn hw => ⟨fun a hf => ?_, fun a p hp hf => ?_, fun _ hz a p hp => ?_⟩⟩
  · simp [afterPeriod, interpolate_clocks]
  · simp [afterPeriod]
  · obtain ⟨hp, he, hm, hl, hlp, hlm, ho, hmo, hd, hmeas⟩ := wired_fields (inputs_axis hin a)
    exact ⟨hp, he, hm, hl, hlp, hlm, ho, hmo, hd, hmeas, afterPeriod_seen s a⟩
  · simpa [CompRecord.table] using inputs_table hin a
  · have hstopped := afterPeriod_errorStopped hd he
    refine ⟨hstopped.fault, driveEnable_of_followingError hstopped.fault, hstopped.referenced, hstopped.commanded,
      hstopped.motion, ?_⟩
    rw [hstopped.planner]
    exact ⟨rfl, rfl, rfl⟩
  · have hfollowed := interpolate_followed hn hw hf
    rw [afterPeriod_axis]
    refine ⟨hfollowed.commanded, hfollowed.output, hfollowed.pulses, ?_⟩
    rw [hfollowed.atRest, beq_iff_eq, eq_comm]
  · obtain ⟨hc, ho, hm, hdir, hpul, hrest⟩ := interpolate_commanded hn hw hf
    obtain ⟨hdirection, hb, hreached⟩ := periodComp_eq hn hp
      (inc := ((interpolate s).axis a).commanded - (s.axis a).commanded) (by rw [hc])
    obtain ⟨hpulses, hheading, hloop⟩ := periodStepped_outputs hn ho
    rw [afterPeriod_axis, afterPeriod_compOf, (interpolate_stepped hn hw hf).2]
    refine ⟨_, backlashTarget p (periodComp s a).1.direction, rfl, hdirection, backlashTarget_eq .., ?_, ?_, ?_, ?_, ?_,
      ?_⟩
    · rw [hb, rampB_eq]
    · rw [ho, hc]
      exact periodOutput_eq hn
    · rw [hpul, hpulses]
    · rwa [hdir]
    · rwa [hm]
    · rw [hrest, hc]
      simp [periodStepped, hreached, sub_eq_zero]
  · rw [afterPeriod_clamp, afterPeriod_axis]
    exact interpolate_clamp hn hw hz a hp

end

end Sys2Proof.Machine

namespace Sys2Proof.Machine

/-! ### One step of local motion and its goals (R12, R20, R22) -/

theorem candidate_le (v target a : Nat) : candidate v target a ≤ max v target ∧ candidate v target a ≤ v + a := by
  unfold candidate
  omega

/-- A step speeds up by no more than one period's acceleration, and never beyond its target (R22, R62). -/
theorem stepVelocity_le (u : AxisUnit) (accelN : Nat) (goal : Option Int) (target : Nat) :
    stepVelocity u accelN goal target ≤ max u.velocity target
      ∧ stepVelocity u accelN goal target ≤ u.velocity + accelN := by
  unfold stepVelocity
  split
  · omega
  · next g =>
    split
    · have hc := candidate_le u.velocity target accelN
      unfold velocityStep
      omega
    · omega

theorem softGuard_velocity_le (p : AxisParams) (u : AxisUnit) : (softGuard p u).velocity ≤ u.velocity := by
  unfold softGuard AxisUnit.stoppedAt
  split
  · split
    · exact Nat.zero_le _
    · split
      · exact Nat.zero_le _
      · exact le_rfl
  · exact le_rfl

theorem motionStep_velocity_le (p : AxisParams) (goal : Option Int) (target : Nat) (u : AxisUnit) :
    (motionStep p goal target u).velocity ≤ max u.velocity target
      ∧ (motionStep p goal target u).velocity ≤ u.velocity + p.accelN := by
  have hguard := softGuard_velocity_le p
    (u.movedTo (u.p + signed (stepHeading u goal) (stepVelocity u p.accelN goal target))
      (stepVelocity u p.accelN goal target) (stepHeading u goal))
  obtain ⟨hmax, hacc⟩ := stepVelocity_le u p.accelN goal target
  exact ⟨hguard.trans hmax, hguard.trans hacc⟩

theorem motionStep_unreferenced (p : AxisParams) (goal : Option Int) (target : Nat) {u : AxisUnit}
    (h : u.referenced = false) :
    (motionStep p goal target u).commanded = roundAway (motionStep p goal target u).p 1000 := by
  simp [motionStep, softGuard, AxisUnit.movedTo, h]

theorem latchGoal_eq (u : AxisUnit) (g : Int) :
    latchGoal u g =
      if (u.latchPlus = true ∧ u.commanded < g) ∨ (u.latchMinus = true ∧ g < u.commanded) then u.commanded else g := by
  simp [latchGoal]

theorem jogGoal_eq {a : Axis} {u : AxisUnit} {p : AxisParams} {raw : Int}
    (h : (∃ g, u.demand = .handwheel g ∧ raw = if u.referenced then max p.softMin (min g p.softMax) else g)
      ∨ (u.demand = .button .plus ∧ raw = if u.referenced then p.softMax else u.commanded + travelTop a)
      ∨ (u.demand = .button .minus ∧ raw = if u.referenced then p.softMin else u.commanded - travelTop a)) :
    jogGoal a u p = some (latchGoal u raw) := by
  rcases h with ⟨g, hd, hr⟩ | ⟨hd, hr⟩ | ⟨hd, hr⟩
  · simp [jogGoal, hd, hr, softGoal]
  · simp [jogGoal, hd, hr, buttonGoal]
  · simp [jogGoal, hd, hr, buttonGoal]

theorem jogGoal_congr (a : Axis) {u v : AxisUnit} (p : AxisParams) (hd : v.demand = u.demand)
    (hr : v.referenced = u.referenced) (hc : v.commanded = u.commanded) (hp : v.latchPlus = u.latchPlus)
    (hm : v.latchMinus = u.latchMinus) : jogGoal a v p = jogGoal a u p := by
  have hlatch : ∀ g, latchGoal v g = latchGoal u g := fun g => by simp [latchGoal, hc, hp, hm]
  have hsoft : ∀ g, softGoal v p g = softGoal u p g := fun g => by simp [softGoal, hr]
  have hbutton : ∀ d, buttonGoal a v p d = buttonGoal a u p d := fun d => by cases d <;> simp [buttonGoal, hr, hc]
  simp [jogGoal, hd, hlatch, hsoft, hbutton]

/-- The demands at which a jog may complete: a stop, and a handwheel goal that it has reached (R22). -/
theorem demandMet_iff (a : Axis) (u : AxisUnit) (p : AxisParams) :
    demandMet a u p = true ↔
      u.demand = .stop ∨ ∃ g x, u.demand = .handwheel g ∧ jogGoal a u p = some x ∧ u.p = x * 1000 := by
  unfold demandMet
  cases hd : u.demand with
  | stop => simp
  | button d => simp
  | handwheel g => simp [jogGoal, hd]

end Sys2Proof.Machine

namespace Sys2Proof.Machine

section
variable {s t u : State} {a : Axis}

/-! ### A period with the planner at rest (R14, R20, R21, R44) -/

/-- The planner has nothing to do at a period: it is IDLE or HELD (R27). -/
def Rests (s : State) : Prop := s.planner.state = .idle ∨ s.planner.state = .held

theorem Rests.nothingStarts (h : Rests s) : NothingStarts s := by
  intro hrun
  rcases h with h | h <;> simp [h] at hrun

theorem Rests.periodMoved (h : Rests s) :
    periodMoved s = eachAxis moveLocally { s with clocks := { s.clocks with interpolation := 2 } } := by
  have hwork := plannerWork_resting (s := { s with clocks := { s.clocks with interpolation := 2 } }) h
  rw [Machine.periodMoved, hwork]

/-- Of the planner's record local motion writes the displaced mark alone (R21). -/
structure MarksAlone (s t : State) : Prop where
  planner : ∃ b, t.planner = { s.planner with displaced := b }

theorem MarksAlone.trans (h : MarksAlone s t) (k : MarksAlone t u) : MarksAlone s u := by
  obtain ⟨b, hb⟩ := h.planner
  obtain ⟨c, hc⟩ := k.planner
  exact ⟨c, by rw [hc, hb]⟩

theorem noteJog_marks (c : Axis) (before : Int) (s : State) : MarksAlone s (noteJog c before s) := by
  unfold noteJog
  split
  · exact ⟨true, rfl⟩
  · exact ⟨s.planner.displaced, rfl⟩

theorem moveLocally_marks (c : Axis) (s : State) : MarksAlone s (moveLocally c s) := by
  unfold moveLocally
  split
  · exact ⟨s.planner.displaced, rfl⟩
  · next p _ =>
    obtain ⟨b, hb⟩ := (noteJog_marks c (s.axis c).commanded
      (s.setAxis c (localStep c s.pendant.feedOverride p (s.axis c)))).planner
    exact ⟨b, hb⟩

theorem Rests.periodMoved_marks (h : Rests s) : MarksAlone s (Machine.periodMoved s) := by
  rw [h.periodMoved]
  obtain ⟨b, hb⟩ := (eachAxis_rel (R := MarksAlone) (fun h k => h.trans k) moveLocally_marks
    { s with clocks := { s.clocks with interpolation := 2 } }).planner
  exact ⟨b, hb⟩

theorem endedOutputs_planner (s : State) :
    (eachAxis endLocal (periodOutputs s)).planner = (periodMoved s).planner := by
  simp [periodOutputs_eq, eachAxis]

/-- A planner at rest has no end of the period (R27). -/
theorem Rests.periodFinished (h : Rests s) : periodFinished s = eachAxis endLocal (periodOutputs s) := by
  obtain ⟨b, hb⟩ := h.periodMoved_marks.planner
  refine plannerFinish_resting ?_ _
  rw [endedOutputs_planner, hb]
  exact h

theorem periodLinger_planner (s : State) (h : s.planner.state ≠ .running) :
    (eachAxis periodLinger s).planner.queue = s.planner.queue
      ∧ (eachAxis periodLinger s).planner.state = s.planner.state
      ∧ (eachAxis periodLinger s).planner.displaced = s.planner.displaced :=
  eachAxis_keeps
    (P := fun t => t.planner.queue = s.planner.queue ∧ t.planner.state = s.planner.state
      ∧ t.planner.displaced = s.planner.displaced)
    (fun c t ⟨hq, hs, hd⟩ => by
      obtain ⟨kd, ks, -⟩ := periodLinger_kept c t
      exact ⟨(periodLinger_course c t).2.1.trans hq, (ks (by rwa [hs])).trans hs, kd.trans hd⟩)
    ⟨rfl, rfl, rfl⟩

/-- The program of a planner at rest after a period, and the displaced mark that local motion left (R21, R27). -/
theorem Rests.interpolate_planner (h : Rests s) (hw : FollowsWell s) :
    (interpolate s).planner.queue = s.planner.queue ∧ (interpolate s).planner.state = s.planner.state
      ∧ (interpolate s).planner.displaced = (Machine.periodMoved s).planner.displaced := by
  obtain ⟨b, hb⟩ := h.periodMoved_marks.planner
  have hchecked : (periodChecked s).planner = (Machine.periodMoved s).planner := by
    rw [← endedOutputs_planner, ← h.periodFinished]
    simp [periodChecked, eachAxis]
  have hview : (interpolate s).planner = (eachAxis periodLinger (periodChecked s)).planner := by
    rw [interpolate_checked hw]
    simp [eachAxis]
  obtain ⟨hq, hs, hd⟩ := periodLinger_planner (periodChecked s) (by
    rw [hchecked, hb]
    rcases h with h | h <;> simp [h])
  rw [hview, hq, hs, hd, hchecked, hb]
  exact ⟨rfl, rfl, rfl⟩

/-! #### The displaced mark -/

theorem moveLocally_keeps_mark (c : Axis) (h : s.planner.displaced = true) :
    (moveLocally c s).planner.displaced = true := by
  unfold moveLocally
  split
  · exact h
  · unfold noteJog
    split
    · rfl
    · exact h

/-- An axis whose local motion step will displace a HELD program (R21, R44). -/
structure JogAhead (v : AxisUnit) (ovr : Nat) (a : Axis) (s : State) : Prop where
  unit : s.axis a = v
  override : s.pendant.feedOverride = ovr
  held : s.planner.state = .held
  head : headInProgress s = true

theorem JogAhead.moveLocally {v : AxisUnit} {ovr : Nat} {c : Axis} (h : JogAhead v ovr a s) (hne : c ≠ a) :
    JogAhead v ovr a (moveLocally c s) := by
  obtain ⟨b, hb⟩ := (moveLocally_marks c s).planner
  refine ⟨(moveLocally_axis_ne hne.symm s).trans h.unit, ?_, ?_, ?_⟩
  · rw [(moveLocally_frame c s).2.2.2.2.2.2.2.1]
    exact h.override
  · rw [hb]
    exact h.held
  · rw [headInProgress, hb]
    exact h.head

theorem JogAhead.displaces {v : AxisUnit} {ovr : Nat} {p : AxisParams} (h : JogAhead v ovr a s) (hp : v.params = some p)
    (hjog : (localStep a ovr p v).motion.isJog = true) (hmoved : (localStep a ovr p v).commanded ≠ v.commanded) :
    (Machine.moveLocally a s).planner.displaced = true := by
  have hhead : headInProgress (s.setAxis a (localStep a ovr p v)) = true := h.head
  unfold Machine.moveLocally
  rw [h.unit, hp]
  simp [noteJog, h.override, hjog, hmoved, h.held, hhead]

/-- A jog that moves an axis of a HELD program marks it displaced (R21, R44). -/
theorem Rests.marks_displaced (h : Rests s) {p : AxisParams} (hp : (s.axis a).params = some p)
    (hjog : (localStep a s.pendant.feedOverride p (s.axis a)).motion.isJog = true)
    (hmoved : (localStep a s.pendant.feedOverride p (s.axis a)).commanded ≠ (s.axis a).commanded)
    (hheld : s.planner.state = .held) (hhead : headInProgress s = true) :
    (Machine.periodMoved s).planner.displaced = true := by
  rw [h.periodMoved]
  exact eachAxis_establishes (Pre := JogAhead (s.axis a) s.pendant.feedOverride a)
    (Post := fun t => t.planner.displaced = true) (fun _ _ hne k => k.moveLocally hne)
    (fun _ k => k.displaces hp hjog hmoved) (fun c _ k => moveLocally_keeps_mark c k) ⟨rfl, rfl, hheld, hhead⟩

/-! #### The axis at the end of its local motion -/

/-- The Axis Unit that local motion makes of an axis (R14, R20). -/
theorem Rests.periodMoved_axis (h : Rests s) {p : AxisParams} (hp : (s.axis a).params = some p) :
    (Machine.periodMoved s).axis a = localStep a s.pendant.feedOverride p (s.axis a) := by
  rw [h.periodMoved, moveLocally_all]
  show movedUnit s.pendant.feedOverride a (s.axis a) = _
  simp [movedUnit, hp]

/-- What the output stage leaves of an axis's local motion. -/
theorem periodStepped_fields (h : NothingStarts s) (a : Axis) :
    (periodStepped s a).params = (s.axis a).params ∧ (periodStepped s a).motion = (s.axis a).motion
      ∧ (periodStepped s a).searchGoal = (s.axis a).searchGoal ∧ (periodStepped s a).demand = (s.axis a).demand
      ∧ (periodStepped s a).referenced = (s.axis a).referenced := by
  obtain ⟨q, x, v, d, hu⟩ := periodMoved_axis h a
  unfold periodStepped AxisUnit.stepped
  rw [hu]
  exact ⟨rfl, rfl, rfl, rfl, rfl⟩

theorem endedUnit_waits {v : AxisUnit} (h : ¬v.motion.waits) : ¬(endedUnit a v).motion.waits := by
  rcases endedUnit_cases a v with e | e
  · rwa [e]
  · rw [e]
    simp [AxisUnit.halted, LocalMotion.waits]

/-- The Axis Unit after a period, but for what it shows. -/
theorem Rests.interpolate_axis (h : Rests s) (hw : FollowsWell s) (hf : positionsFollow s a = false)
    (hm : ¬(s.axis a).motion.waits) :
    ∃ v, (interpolate s).axis a = { endedUnit a (periodStepped s a) with seen := v } := by
  have hout := (periodOutputs_stepped h.nothingStarts hf).1
  have hfin : (Machine.periodFinished s).axis a = endedUnit a (periodStepped s a) := by
    rw [h.periodFinished, endLocal_all, hout]
  have hmode : ((Machine.periodFinished s).axis a).mode ≠ .parked := by
    rw [periodFinished_mode, hout, periodStepped_mode h.nothingStarts]
    exact positionsFollow_mode hf
  have hmotion : ¬((Machine.periodFinished s).axis a).motion.waits := by
    rw [hfin]
    exact endedUnit_waits (by rwa [(periodStepped_fields h.nothingStarts a).2.1])
  rw [interpolate_eq hw, ← hfin]
  exact periodEnds_axis hmode hmotion

theorem checkParked_grows (c : Axis) (s : State) : FaultsGrow s (checkParked c s) := .of_stop (by simp)

theorem renewErrorCondition_grows (c : Axis) (s : State) : FaultsGrow s (renewErrorCondition c s) :=
  setCondition_grows ..

theorem recordView_grows (c : Axis) (s : State) : FaultsGrow s (recordView c s) := .of_stop (by simp)

theorem eachAxis_grows {f : Axis → State → State} (hf : ∀ c t, FaultsGrow t (f c t)) (s : State) :
    FaultsGrow s (eachAxis f s) :=
  eachAxis_rel (R := FaultsGrow) (fun h k => h.trans k) hf s

theorem periodEnds_grows (s : State) : FaultsGrow s (periodEnds s) :=
  (eachAxis_grows checkParked_grows s).trans <| (eachAxis_grows renewErrorCondition_grows _).trans <|
    (eachAxis_grows periodLinger_grows _).trans (eachAxis_grows recordView_grows _)

/-- A search that has stopped at its goal fails (R14). -/
theorem endLocal_refFailed {p : AxisParams} (hp : (s.axis a).params = some p)
    (hm : (s.axis a).motion = .reference .moving) (hv : (s.axis a).velocity = 0)
    (hg : (s.axis a).p = (s.axis a).searchGoal * 1000) : hasFault (endLocal a s) .refFailed (.axis a) = true := by
  have hact : endLocal a s = endMotion a (raiseFault .refFailed (.axis a) s) := by
    simp [endLocal, hp, hm, hv, hg]
  rw [hact, hasFault_of_stop_eq (s := raiseFault .refFailed (.axis a) s) (by simp)]
  exact hasFault_raiseFault ..

/-- A search that ends at its goal raises REF_FAILED (R14). -/
theorem Rests.refFailed (h : Rests s) (hw : FollowsWell s) (hf : positionsFollow s a = false) {p : AxisParams}
    (hp : (s.axis a).params = some p) (hm : (s.axis a).motion = .reference .moving)
    (hv : (periodStepped s a).velocity = 0) (hg : (periodStepped s a).p = (s.axis a).searchGoal * 1000) :
    hasFault (interpolate s) .refFailed (.axis a) = true := by
  obtain ⟨hparams, hmotion, hgoal, -⟩ := periodStepped_fields h.nothingStarts a
  have hended : hasFault (eachAxis endLocal (periodOutputs s)) .refFailed (.axis a) = true :=
    eachAxis_establishes (Pre := fun t => t.axis a = periodStepped s a)
      (Post := fun t => hasFault t .refFailed (.axis a) = true)
      (fun c t hne k => (endLocal_axis_ne hne.symm t).trans k)
      (fun t k => endLocal_refFailed (p := p) (by rw [k, hparams, hp]) (by rw [k, hmotion, hm]) (by rw [k, hv])
        (by rw [k, hg, hgoal]))
      (fun c t k => (endLocal_grows c t).has _ _ k) (periodOutputs_stepped h.nothingStarts hf).1
  rw [interpolate_eq hw, h.periodFinished]
  exact (periodEnds_grows _).has _ _ hended

end

end Sys2Proof.Machine

namespace Sys2Proof.Machine

section
variable {s : State} {a : Axis} {p : AxisParams} {v : AxisUnit}

/-! ### What local motion leaves at the end of a period (O19) -/

theorem endedUnit_search (hp : v.params = some p) (hm : v.motion = .reference .moving) :
    endedUnit a v = if v.velocity = 0 ∧ v.p = v.searchGoal * 1000 then v.halted else v := by
  simp [endedUnit, hp, hm]

theorem endedUnit_stopping (hp : v.params = some p) (hm : v.motion = .reference .stopping) :
    endedUnit a v = if v.velocity = 0 ∧ v.atRest = true then v.halted else v := by
  simp [endedUnit, hp, hm]

theorem endedUnit_jog {phase : MotionPhase} (hp : v.params = some p) (hm : v.motion = .jog phase) :
    endedUnit a v =
      if v.velocity = 0 ∧ v.atRest = true ∧ demandMet a v p = true then v.halted else v := by
  simp [endedUnit, hp, hm, and_assoc]

/-- The fields that neither an ending nor the view of a period writes. -/
structure SameRun (u v : AxisUnit) : Prop where
  commanded : u.commanded = v.commanded
  p : u.p = v.p
  heading : u.heading = v.heading
  demand : u.demand = v.demand
  referenced : u.referenced = v.referenced
  atRest : u.atRest = v.atRest
  latchPlus : u.latchPlus = v.latchPlus
  latchMinus : u.latchMinus = v.latchMinus

theorem endedUnit_sameRun (a : Axis) (v : AxisUnit) : SameRun (endedUnit a v) v := by
  rcases endedUnit_cases a v with e | e
  · rw [e]
    exact ⟨rfl, rfl, rfl, rfl, rfl, rfl, rfl, rfl⟩
  · rw [e]
    exact ⟨rfl, rfl, rfl, rfl, rfl, rfl, rfl, rfl⟩

/-- A jog ends once it stands and its demand is met (R22). -/
theorem SameRun.demandMet_iff {u : AxisUnit} (h : SameRun u v) (a : Axis) (p : AxisParams) :
    demandMet a v p = true ↔
      v.demand = .stop ∨ ∃ g x, v.demand = .handwheel g ∧ jogGoal a u p = some x ∧ v.p = x * 1000 := by
  rw [jogGoal_congr a p h.demand h.referenced h.commanded h.latchPlus h.latchMinus]
  exact Machine.demandMet_iff a v p

/-- The step that local motion takes by its phase (R14, R20). -/
theorem localStep_eq {goal : Option Int} {target ovr : Nat}
    (h : (v.motion = .jog .moving ∧ goal = jogGoal a v p ∧ target = min (roundUp (p.jogFeed * ovr) 3) p.vmaxN)
      ∨ (v.motion = .reference .moving ∧ goal = some v.searchGoal ∧ target = p.refN)
      ∨ (v.motion = .jog .stopping ∧ goal = none ∧ target = 0)
      ∨ (v.motion = .reference .stopping ∧ goal = none ∧ target = 0)) :
    localStep a ovr p v = motionStep p goal target v := by
  rcases h with ⟨hm, hg, ht⟩ | ⟨hm, hg, ht⟩ | ⟨hm, hg, ht⟩ | ⟨hm, hg, ht⟩
  · rw [hg, ht]; simp only [localStep, hm, jogTarget]
  · rw [hg, ht]; simp only [localStep, hm]
  · rw [hg, ht]; simp only [localStep, hm]
  · rw [hg, ht]; simp only [localStep, hm]

theorem motionStep_motion (p : AxisParams) (goal : Option Int) (target : Nat) (u : AxisUnit) :
    (motionStep p goal target u).motion = u.motion := by
  obtain ⟨q, x, w, d, hu⟩ := motionStep_form p goal target u
  rw [hu]

/-- In CLAMP_WAIT an axis stands (R14, R19). -/
theorem Rests.clampWait_stands (h : Rests s) (hw : FollowsWell s) (hp : (s.axis a).params = some p)
    (hf : positionsFollow s a = false)
    (hm : (s.axis a).motion = .jog .clampWait ∨ (s.axis a).motion = .reference .clampWait) :
    ((interpolate s).axis a).commanded = (s.axis a).commanded := by
  rw [(interpolate_commanded h.nothingStarts hw hf).1, h.periodMoved_axis hp]
  rcases hm with hm | hm
  · simp only [localStep, hm]
  · simp only [localStep, hm]

/-- What the output stage leaves of a step of local motion. -/
theorem Rests.periodStepped_step (h : Rests s) (hp : (s.axis a).params = some p) {u : AxisUnit}
    (hu : localStep a s.pendant.feedOverride p (s.axis a) = u) :
    (periodStepped s a).commanded = u.commanded ∧ (periodStepped s a).p = u.p
      ∧ (periodStepped s a).heading = u.heading ∧ (periodStepped s a).velocity = u.velocity := by
  unfold periodStepped AxisUnit.stepped
  rw [h.periodMoved_axis hp, hu]
  exact ⟨rfl, rfl, rfl, rfl⟩

/-- An Axis Unit after a period: the stepped unit, whose local motion may have ended. -/
theorem Rests.interpolate_run (h : Rests s) (hw : FollowsWell s) (hf : positionsFollow s a = false)
    (hm : ¬(s.axis a).motion.waits) :
    SameRun ((interpolate s).axis a) (periodStepped s a)
      ∧ ((interpolate s).axis a).motion = (endedUnit a (periodStepped s a)).motion
      ∧ ((interpolate s).axis a).velocity = (endedUnit a (periodStepped s a)).velocity := by
  obtain ⟨view, hview⟩ := h.interpolate_axis hw hf hm
  have hrun := endedUnit_sameRun a (periodStepped s a)
  rw [hview]
  exact ⟨⟨hrun.commanded, hrun.p, hrun.heading, hrun.demand, hrun.referenced, hrun.atRest, hrun.latchPlus,
    hrun.latchMinus⟩, rfl, rfl⟩

section
variable (h : Rests s) (hw : FollowsWell s) (hf : positionsFollow s a = false) (hp : (s.axis a).params = some p)
include h hw hf hp

/-- A search ends where it stops at its goal, as one that failed (R14). -/
theorem Rests.search_ends (hm : (s.axis a).motion = .reference .moving) :
    if (periodStepped s a).velocity = 0 ∧ (periodStepped s a).p = (s.axis a).searchGoal * 1000 then
      ((interpolate s).axis a).motion = .idle ∧ ((interpolate s).axis a).velocity = 0
        ∧ hasFault (interpolate s) .refFailed (.axis a) = true
    else ((interpolate s).axis a).motion = .reference .moving
      ∧ ((interpolate s).axis a).velocity = (periodStepped s a).velocity := by
  obtain ⟨hparams, hmotion, hgoal, -⟩ := periodStepped_fields h.nothingStarts a
  obtain ⟨-, kmotion, kvelocity⟩ := h.interpolate_run hw hf (by rw [hm]; simp [LocalMotion.waits])
  rw [kmotion, kvelocity, endedUnit_search (hparams.trans hp) (hmotion.trans hm), hgoal]
  split
  · next hend => exact ⟨rfl, rfl, h.refFailed hw hf hp hm hend.1 hend.2⟩
  · exact ⟨hmotion.trans hm, rfl⟩

/-- A STOPPING reference run ends at velocity 0 and at rest (R14, R15). -/
theorem Rests.stopping_ends (hm : (s.axis a).motion = .reference .stopping) :
    if (periodStepped s a).velocity = 0 ∧ ((interpolate s).axis a).atRest = true then
      ((interpolate s).axis a).motion = .idle ∧ ((interpolate s).axis a).velocity = 0
    else ((interpolate s).axis a).motion = .reference .stopping
      ∧ ((interpolate s).axis a).velocity = (periodStepped s a).velocity := by
  obtain ⟨hparams, hmotion, -⟩ := periodStepped_fields h.nothingStarts a
  obtain ⟨hrun, kmotion, kvelocity⟩ := h.interpolate_run hw hf (by rw [hm]; simp [LocalMotion.waits])
  rw [kmotion, kvelocity, endedUnit_stopping (hparams.trans hp) (hmotion.trans hm), hrun.atRest]
  split
  · exact ⟨rfl, rfl⟩
  · exact ⟨hmotion.trans hm, rfl⟩

/-- A jog ends at velocity 0 and at rest with its demand met (R22). -/
theorem Rests.jog_ends {phase : MotionPhase} (hm : (s.axis a).motion = .jog phase) (hphase : phase ≠ .clampWait)
    {done : Prop}
    (hdone : done ↔ (periodStepped s a).velocity = 0 ∧ ((interpolate s).axis a).atRest = true
      ∧ ((s.axis a).demand = .stop
        ∨ ∃ g x, (s.axis a).demand = .handwheel g ∧ jogGoal a ((interpolate s).axis a) p = some x
          ∧ (periodStepped s a).p = x * 1000)) :
    (done → ((interpolate s).axis a).motion = .idle ∧ ((interpolate s).axis a).velocity = 0)
      ∧ (¬done → ((interpolate s).axis a).motion = (s.axis a).motion
        ∧ ((interpolate s).axis a).velocity = (periodStepped s a).velocity) := by
  obtain ⟨hparams, hmotion, -, hdemand, -⟩ := periodStepped_fields h.nothingStarts a
  obtain ⟨hrun, kmotion, kvelocity⟩ := h.interpolate_run hw hf (by rw [hm]; simp [LocalMotion.waits, hphase])
  rw [hrun.atRest, ← hdemand, ← hrun.demandMet_iff a p] at hdone
  rw [kmotion, kvelocity, endedUnit_jog (hparams.trans hp) (hmotion.trans hm)]
  refine ⟨fun k => ?_, fun k => ?_⟩
  · rw [if_pos (hdone.mp k)]
    exact ⟨rfl, rfl⟩
  · rw [if_neg (mt hdone.mpr k)]
    exact ⟨hmotion, rfl⟩

end

/-- Settles O19: the bounds of one step, its goals, and the end of a period with the planner at rest. -/
theorem localStepKeepsLimits : Obligations.LocalStepKeepsLimits := by
  refine ⟨fun p goal target u hlim => ⟨fun hr => motionStep_commanded hlim hr goal target,
      (motionStep_velocity_le p goal target u).1, (motionStep_velocity_le p goal target u).2,
      fun hr => motionStep_unreferenced p goal target hr⟩,
    fun a p u => ⟨fun hd => by simp [jogGoal, hd], fun raw hraw => by rw [jogGoal_eq hraw, latchGoal_eq]⟩,
    fun s a p _ hw hrest hp hf => ⟨fun hm => ⟨afterPeriod s, exec_interpolationPeriod s, ?_⟩,
      fun goal target u hcase hu => ?_⟩⟩
  · rw [afterPeriod_axis]
    exact Rests.clampWait_stands hrest hw hp hf hm
  have h : Rests s := hrest
  have hlocal : localStep a s.pendant.feedOverride p (s.axis a) = u := (localStep_eq hcase).trans hu.symm
  have hwaits : ¬(s.axis a).motion.waits := by
    rcases hcase with ⟨hm, -⟩ | ⟨hm, -⟩ | ⟨hm, -⟩ | ⟨hm, -⟩ <;> simp [LocalMotion.waits, hm]
  obtain ⟨hcommanded, hplace, hheading, hvelocity⟩ := h.periodStepped_step hp hlocal
  obtain ⟨-, -, -, hdemand, hreferenced⟩ := periodStepped_fields h.nothingStarts a
  obtain ⟨hrun, -⟩ := h.interpolate_run hw hf hwaits
  obtain ⟨hqueue, hstate, hdisplaced⟩ := h.interpolate_planner hw
  have hfault : hasFault (afterPeriod s) .refFailed (.axis a) = hasFault (interpolate s) .refFailed (.axis a) :=
    hasFault_of_stop_eq (by simp) ..
  have hplanner := (afterPeriod_blocks s).1
  refine ⟨afterPeriod s, exec_interpolationPeriod s, ?_⟩
  rw [afterPeriod_axis, hplanner, hfault, ← hcommanded, ← hplace, ← hvelocity, ← hheading]
  refine ⟨hrun.commanded, hrun.p, hrun.heading, hrun.demand.trans hdemand, hrun.referenced.trans hreferenced, hqueue,
    hstate, fun hjog hmoved hheld hhead => ?_, h.search_ends hw hf hp, h.stopping_ends hw hf hp, fun hm done hdone => ?_⟩
  · rw [hdisplaced]
    refine h.marks_displaced hp ?_ ?_ hheld hhead
    · rw [localStep_eq hcase, motionStep_motion]
      exact hjog
    · rw [hlocal, ← hcommanded]
      exact hmoved
  · rcases hm with hm | hm
    · exact h.jog_ends hw hf hp hm (by decide) hdone
    · exact h.jog_ends hw hf hp hm (by decide) hdone

end

end Sys2Proof.Machine

namespace Sys2Proof.Machine

/-! ## Queues, fault list and planner record (O51)

`Recorded n` is the invariant of O51 with a bound of its own on the replies: an order is taken with room for one more
reply, so its owner's work is followed at the bound that is left (R197). -/

/-- The queues are within their capacities with at most `n` replies waiting, and fault list and planner record are
consistent. -/
def Recorded (n : Nat) (s : State) : Prop :=
  s.planner.queue.length ≤ Config.programQueueCapacity ∧ s.link.replies.length ≤ n
    ∧ s.link.events.length ≤ Config.eventQueueCapacity ∧ FaultsDistinct s ∧ PlannerSound s

theorem recorded_iff (s : State) :
    Recorded Config.replyQueueCapacity s ↔ QueuesBounded s ∧ FaultsDistinct s ∧ PlannerSound s := by
  simp only [Recorded, QueuesBounded, and_assoc]

section

variable {n : Nat} {s t : State}

theorem claim_eq_of_map (h : t.axes.map AxisUnit.claim = s.axes.map AxisUnit.claim) (a : Axis) :
    (t.axis a).claim = (s.axis a).claim := by
  have := congrArg (PerAxis.get · a) h
  simpa [State.axis] using this

/-- The planner's consistency depends on its record and the claims alone. -/
theorem PlannerSound.of_eq (h : PlannerSound s) (hp : t.planner = s.planner)
    (hc : t.axes.map AxisUnit.claim = s.axes.map AxisUnit.claim) : PlannerSound t := by
  unfold PlannerSound headInProgress at *
  simp only [hp, claim_eq_of_map hc]
  exact h

theorem Recorded.of_eq (h : Recorded n s) (hp : t.planner = s.planner) (hl : t.link = s.link)
    (hf : t.stop.faults = s.stop.faults) (hc : t.axes.map AxisUnit.claim = s.axes.map AxisUnit.claim) :
    Recorded n t := by
  obtain ⟨hq, hr, he, hd, hs⟩ := h
  refine ⟨hp ▸ hq, hl ▸ hr, hl ▸ he, ?_, hs.of_eq hp hc⟩
  unfold FaultsDistinct
  rwa [hf]

/-- A planner record that is sound with the claims of the state may take the place of the state's own. -/
theorem Recorded.of_planner (h : Recorded n s) (hs : PlannerSound t)
    (hq : t.planner.queue.length ≤ Config.programQueueCapacity) (hl : t.link = s.link) (hf : t.stop = s.stop) :
    Recorded n t := by
  obtain ⟨-, hr, he, hd, -⟩ := h
  refine ⟨hq, hl ▸ hr, hl ▸ he, ?_, hs⟩
  unfold FaultsDistinct
  rwa [hf]

theorem Recorded.plannerSound (h : Recorded n s) : PlannerSound s := h.2.2.2.2

theorem Recorded.setAxis (h : Recorded n s) {a : Axis} {u : AxisUnit} (hu : u.claim = (s.axis a).claim) :
    Recorded n (s.setAxis a u) := by
  refine h.of_eq rfl rfl rfl ?_
  rw [State.setAxis_axes, PerAxis.map_set, hu]
  exact (congrArg _ (PerAxis.get_map _ _ _).symm).trans (PerAxis.set_get _ _)

/-! ### Reports and faults -/

theorem Recorded.placeEvent {r : EventReport} (h : Recorded n s) : Recorded n (placeEvent r s) := by
  obtain ⟨hq, hr, he, hd, hs⟩ := h
  unfold Machine.placeEvent
  split
  · next hroom => exact ⟨hq, hr, by simp; omega, hd, hs⟩
  · exact ⟨hq, hr, he, hd, hs⟩

theorem Recorded.placeReply {r : Reply} (h : Recorded n s) : Recorded (n + 1) (placeReply r s) := by
  obtain ⟨hq, hr, he, hd, hs⟩ := h
  exact ⟨hq, by simpa [Machine.placeReply] using hr, he, hd, hs⟩

/-- A fault list with the pairs and no counts beyond their range may take the place of the state's own. -/
theorem Recorded.of_faults (h : Recorded n s) {faults : List FaultEntry}
    (hpairs : (faults.map fun e => (e.code, e.qualifier)).Nodup) (hcount : ∀ e ∈ faults, e.repeats ≤ 255) :
    Recorded n { s with stop := { s.stop with faults := faults } } := by
  obtain ⟨hq, hr, he, -, hs⟩ := h
  exact ⟨hq, hr, he, ⟨hpairs, hcount⟩, hs⟩

/-- Entries changed in place keep their pairs. -/
theorem pairs_map {l : List FaultEntry} {f : FaultEntry → FaultEntry}
    (hf : ∀ e, (f e).code = e.code ∧ (f e).qualifier = e.qualifier) :
    (l.map f).map (fun e => (e.code, e.qualifier)) = l.map fun e => (e.code, e.qualifier) := by
  simp [Function.comp_def, hf]

theorem Recorded.setCondition {c : FaultCode} {q : Qualifier} {v : Bool} (h : Recorded n s) :
    Recorded n (setCondition c q v s) := by
  obtain ⟨hdistinct, hcount⟩ := h.2.2.2.1
  refine h.of_faults ?_ ?_
  · rw [pairs_map fun e => by split <;> simp]
    exact hdistinct
  · simp only [List.mem_map]
    rintro e ⟨e', he', rfl⟩
    split <;> exact hcount e' he'

theorem Recorded.raiseFault {c : FaultCode} {q : Qualifier} (h : Recorded n s) : Recorded n (raiseFault c q s) := by
  obtain ⟨hdistinct, hcount⟩ := h.2.2.2.1
  unfold Machine.raiseFault
  split
  · refine (h.of_faults ?_ ?_).placeEvent
    · rw [pairs_map fun e => by split <;> simp [FaultEntry.repeated]]
      exact hdistinct
    · simp only [List.mem_map]
      rintro e ⟨e', he', rfl⟩
      split
      · simp [FaultEntry.repeated]
      · exact hcount e' he'
  · next hnone =>
    refine (h.of_faults ?_ ?_).placeEvent
    · have hnew : ∀ e ∈ s.stop.faults, ¬(e.code = c ∧ e.qualifier = q) := by
        simpa [List.find?_eq_none, FaultEntry.isPair] using hnone
      simp only [List.map_append, List.map_cons, List.map_nil, newFault]
      refine List.nodup_append.mpr ⟨hdistinct, by simp, ?_⟩
      simpa using hnew
    · simp only [List.mem_append, List.mem_singleton]
      rintro e (he | rfl)
      · exact hcount e he
      · simp [newFault]

/-! ### Hold causes -/

theorem has_empty (c : HoldCause) : CauseSet.empty.has c = false := by cases c <;> rfl

theorem Recorded.raiseCause {c : HoldCause} (h : Recorded n s) : Recorded n (raiseCause c s) := by
  obtain ⟨hhead, hrun, hidle, hstart, hcontext, hclaim⟩ := h.plannerSound
  unfold Machine.raiseCause
  split
  · exact h
  · exact h
  · next hnidle _ =>
    refine h.of_planner ⟨hhead, fun hstate => ?_, fun hstate => ?_, fun d hd => ?_, hcontext, hclaim⟩ h.1 rfl rfl
    · split at hstate
      · split at hstate <;> simp at hstate
      · next hnrun => exact (hstate.elim hnidle hnrun).elim
    · split at hstate
      · split at hstate <;> simp at hstate
      · exact absurd hstate hnidle
    · simp only [has_put]
      dsimp only at hd
      split at hd
      · next hnew =>
        rw [has_put] at hd
        split at hd
        · next e =>
          simp only [Bool.and_eq_true] at hnew
          exact ⟨by simp [e], e ▸ hnew.1.1⟩
        · next e => rw [if_neg e]; exact hstart d hd
      · obtain ⟨h1, h2⟩ := hstart d hd
        exact ⟨by split <;> simp [h1], h2⟩

theorem Recorded.dropCause {c : HoldCause} (h : Recorded n s) : Recorded n (dropCause c s) := by
  obtain ⟨hhead, hrun, hidle, hstart, hcontext, hclaim⟩ := h.plannerSound
  unfold Machine.dropCause
  split
  · exact h
  · next hfree =>
    simp only [Bool.or_eq_true, not_or, Bool.not_eq_true] at hfree
    refine h.of_planner ⟨hhead, fun hstate => ?_, hidle, fun d hd => ?_, hcontext, hclaim⟩ h.1 rfl rfl
    · obtain ⟨hcauses, htime⟩ := hrun hstate
      refine ⟨?_, htime⟩
      simp only [hcauses]
      cases c <;> rfl
    · obtain ⟨h1, h2⟩ := hstart d hd
      refine ⟨?_, h2⟩
      simp only [has_put]
      rw [if_neg fun e => ?_]
      · exact h1
      · rw [e, hfree.2] at hd
        exact absurd hd (by simp)

end

end Sys2Proof.Machine

namespace Sys2Proof.Machine

section

variable {n : Nat} {s : State}

/-! ### Spindle, coolant and gears raise causes and faults -/

theorem Recorded.raiseIf {b : Bool} {c : HoldCause} (h : Recorded n s) : Recorded n (raiseIf b c s) := by
  unfold Machine.raiseIf
  split
  · exact h.raiseCause
  · exact h

theorem Recorded.noteFaultHold (h : Recorded n s) : Recorded n (noteFaultHold s) := by
  unfold Machine.noteFaultHold
  split <;> exact h

theorem Recorded.spindleFaultActions (h : Recorded n s) : Recorded n (spindleFaultActions s) :=
  .raiseCause (.noteFaultHold h)

theorem Recorded.inverterFaultActs (h : Recorded n s) : Recorded n (inverterFaultActs s) :=
  (h.raiseFault).spindleFaultActions

/-- An operation that leaves the planner, the Link Unit, the fault list and the axes alone keeps the record. -/
theorem Recorded.of_frame {t : State} (h : Recorded n s) (hp : t.planner = s.planner) (hl : t.link = s.link)
    (hf : t.stop = s.stop) (ha : t.axes = s.axes) : Recorded n t :=
  h.of_eq hp hl (hf ▸ rfl) (ha ▸ rfl)

theorem Recorded.clearOperatorStop (h : Recorded n s) : Recorded n (clearOperatorStop s) :=
  h.of_frame (by simp) (by simp) (by simp) (by simp)

theorem Recorded.operatorStop (h : Recorded n s) : Recorded n (operatorStop s) :=
  h.of_frame (by simp) (by simp) (by simp) (by simp)

theorem Recorded.leaveTsc {new : TscState} (h : Recorded n s) : Recorded n (leaveTsc new s) :=
  h.of_frame (by simp) (by simp) (by simp) (by simp)

theorem Recorded.startPurge (h : Recorded n s) : Recorded n (startPurge s) :=
  h.of_frame (by simp) (by simp) (by simp) (by simp)

theorem Recorded.stopTsc {new : TscState} (h : Recorded n s) : Recorded n (stopTsc new s) := by
  unfold Machine.stopTsc
  split
  · exact (h.leaveTsc).raiseCause
  · exact h.leaveTsc

theorem Recorded.startJudgement (h : Recorded n s) : Recorded n (startJudgement s) := by
  unfold Machine.startJudgement
  split
  · exact h.leaveTsc
  · split
    · exact h.stopTsc
    · exact h

theorem Recorded.placeTsc (h : Recorded n s) : Recorded n (placeTsc s) := by
  unfold Machine.placeTsc
  split
  · exact h.stopTsc
  · exact h.startJudgement

theorem Recorded.moveTsc (h : Recorded n s) : Recorded n (moveTsc s) := by
  unfold Machine.moveTsc
  split
  · split
    case h_1 => exact h.placeTsc
    case h_2 => exact .placeTsc h
    all_goals exact h
  · split
    case h_1 => exact h
    case h_2 => exact h
    case h_6 => exact h.leaveTsc
    case h_7 => exact h.leaveTsc
    all_goals exact h.startPurge

theorem Recorded.setRequests {flood tsc : Bool} (h : Recorded n s) : Recorded n (setRequests flood tsc s) := by
  unfold Machine.setRequests
  split
  · exact .moveTsc h
  · exact h

theorem Recorded.coolantRequest {m : CoolantMode} (h : Recorded n s) : Recorded n (coolantRequest m s) :=
  h.setRequests

theorem Recorded.floodToggle (h : Recorded n s) : Recorded n (floodToggle s) := h.setRequests

theorem Recorded.coolantChangeBegins (h : Recorded n s) : Recorded n (coolantChangeBegins s) :=
  h.of_frame (by simp) (by simp) (by simp) (by simp)

theorem Recorded.coolantChangeEnds (h : Recorded n s) : Recorded n (coolantChangeEnds s) := by
  unfold Machine.coolantChangeEnds
  split
  case h_1 => exact h.placeTsc
  case h_2 => exact h.placeTsc
  all_goals exact h

theorem Recorded.coolantRejudge (h : Recorded n s) : Recorded n (coolantRejudge s) := by
  unfold Machine.coolantRejudge
  split
  · exact h.startJudgement
  · exact h

theorem Recorded.pressureFault (h : Recorded n s) : Recorded n (pressureFault s) :=
  .raiseCause (.leaveTsc h.raiseFault)

theorem Recorded.tscReady (h : Recorded n s) : Recorded n (tscReady s) := by
  obtain ⟨hhead, hrun, hidle, hstart, hcontext, hclaim⟩ := h.plannerSound
  refine h.of_planner ⟨hhead, hrun, fun hi => ?_, hstart, hcontext, hclaim⟩ h.1 rfl rfl
  obtain ⟨hdisplaced, -, hhead⟩ := hidle hi
  exact ⟨hdisplaced, rfl, hhead⟩

theorem Recorded.coolantRelease (h : Recorded n s) : Recorded n (coolantRelease s) := by
  rw [coolantRelease_eq]
  split
  · split
    · exact .startJudgement h
    · exact h
  · exact h

theorem Recorded.setGearbox {g : Gearbox} (h : Recorded n s) : Recorded n (setGearbox g s) :=
  h.of_frame (by simp) (by simp) (by simp) (by simp)

theorem Recorded.holdGearbox (h : Recorded n s) : Recorded n (holdGearbox s) := .setGearbox h

theorem Recorded.gearStop (h : Recorded n s) : Recorded n (gearStop s) := h

theorem Recorded.deriveState (h : Recorded n s) : Recorded n (deriveState s) := h.setGearbox

theorem Recorded.endCreep (h : Recorded n s) : Recorded n (endCreep s) :=
  h.of_frame (by simp) (by simp) (by simp) (by simp)

theorem Recorded.requestStroke {k : ForkStroke} (h : Recorded n s) : Recorded n (requestStroke k s) := h

theorem Recorded.settleChange (h : Recorded n s) : Recorded n (settleChange s) := by
  unfold Machine.settleChange
  dsimp only
  split
  · exact .raiseCause (.coolantChangeEnds (.deriveState h))
  · exact .coolantChangeEnds (.deriveState h)

theorem Recorded.planFirst (h : Recorded n s) : Recorded n (planFirst s) := by
  unfold Machine.planFirst
  split
  · exact h.settleChange
  · exact h

theorem Recorded.beginChange {t : GearTarget} {o : Owner} (h : Recorded n s) : Recorded n (beginChange t o s) := by
  unfold Machine.beginChange
  dsimp only
  split
  · exact .planFirst (.coolantChangeBegins (.setGearbox h))
  · exact .coolantChangeBegins (.setGearbox h)

theorem Recorded.gearFault (h : Recorded n s) : Recorded n (gearFault s) := by
  unfold Machine.gearFault
  refine .coolantChangeEnds (.raiseCause (.gearStop (.holdGearbox ?_)))
  split
  · exact h.raiseFault
  · exact h.raiseFault
  · exact h

theorem Recorded.failedAttempt (h : Recorded n s) : Recorded n (failedAttempt s) := by
  unfold Machine.failedAttempt
  dsimp only
  split
  · exact h.endCreep
  · exact .gearFault h.endCreep

theorem Recorded.strokeSucceeded (h : Recorded n s) : Recorded n (strokeSucceeded s) := by
  unfold Machine.strokeSucceeded
  dsimp only
  split
  · exact h.endCreep.settleChange
  · split
    · exact h.endCreep.failedAttempt
    · exact h.endCreep

theorem Recorded.pauseEnds (h : Recorded n s) : Recorded n (pauseEnds s) := by
  unfold Machine.pauseEnds
  dsimp only
  split
  · exact .settleChange h
  · split <;> exact h

theorem Recorded.retarget {t : GearTarget} {o : Owner} (h : Recorded n s) : Recorded n (retarget t o s) := by
  unfold Machine.retarget
  dsimp only
  split
  case h_1 => exact .planFirst h
  all_goals exact h

theorem Recorded.commandAtIdle {o : Owner} {speed : Nat} {forced : Option GearRange} (h : Recorded n s) :
    Recorded n (commandAtIdle o speed forced s) := by
  unfold Machine.commandAtIdle
  split
  · exact h
  · split
    · exact h
    · split
      · exact h.beginChange
      · split
        · exact h.raiseCause
        · exact h

theorem Recorded.commandInChange {o : Owner} {speed : Nat} {forced : Option GearRange} (h : Recorded n s) :
    Recorded n (commandInChange o speed forced s) := by
  unfold Machine.commandInChange
  split
  · exact h
  · split
    · exact h
    · split
      · exact h
      · exact h.retarget

theorem Recorded.gearCommand {o : Owner} {speed : Nat} {forced : Option GearRange} (h : Recorded n s) :
    Recorded n (gearCommand o speed forced s) := by
  unfold Machine.gearCommand
  split
  case h_1 => exact h.commandAtIdle
  case h_2 => exact h
  all_goals exact h.commandInChange

theorem Recorded.takeDeferred (h : Recorded n s) : Recorded n (takeDeferred s) := by
  unfold Machine.takeDeferred
  split
  · exact h
  · exact Recorded.commandAtIdle (s := { s with gear := { s.gear with deferred := none } }) h

theorem Recorded.endAbortedChange (h : Recorded n s) : Recorded n (endAbortedChange s) :=
  .takeDeferred (.coolantChangeEnds (.deriveState h))

theorem Recorded.gearAbort (h : Recorded n s) : Recorded n (gearAbort s) := by
  unfold Machine.gearAbort
  split
  · exact h
  · dsimp only
    split
    case h_1 => exact .endAbortedChange h.endCreep
    case h_2 => exact .endAbortedChange h.endCreep
    all_goals exact h.endCreep

theorem Recorded.gearTrip {wasActive : Bool} (h : Recorded n s) : Recorded n (gearTrip wasActive s) := by
  unfold Machine.gearTrip
  split
  · exact h
  · refine .coolantChangeEnds ?_
    split
    · exact .holdGearbox h.endCreep
    · exact .deriveState h.endCreep

theorem Recorded.forkOutcome {success : Bool} (h : Recorded n s) : Recorded n (forkOutcome success s) := by
  unfold Machine.forkOutcome
  split
  · exact h.endAbortedChange
  · split
    · exact h.strokeSucceeded
    · exact h.failedAttempt
  all_goals exact h

theorem Recorded.gearSlip {f : Fork} (h : Recorded n s) : Recorded n (gearSlip f s) :=
  .coolantRejudge (.raiseCause (.gearStop (.holdGearbox h.raiseFault)))

theorem Recorded.releaseGearbox (h : Recorded n s) : Recorded n (releaseGearbox s) := by
  unfold Machine.releaseGearbox
  split
  · exact .coolantRejudge (.deriveState h)
  · exact h

end

end Sys2Proof.Machine

namespace Sys2Proof.Machine

section

variable {n : Nat} {s : State} {a : Axis}

/-! ### Local motion, clamps and strokes -/

theorem Recorded.endMotion (h : Recorded n s) : Recorded n (endMotion a s) := h.setAxis rfl

theorem Recorded.jogEndedByStop (h : Recorded n s) : Recorded n (jogEndedByStop a s) :=
  h.of_frame (by simp) (by simp) (by simp) (by simp)

theorem Recorded.axisStop (h : Recorded n s) : Recorded n (axisStop a s) := by
  unfold Machine.axisStop
  split
  · exact h.endMotion.jogEndedByStop
  · exact h.endMotion

theorem Recorded.endClampWait (h : Recorded n s) : Recorded n (endClampWait a s) := by
  unfold Machine.endClampWait
  split
  · exact h.endMotion.jogEndedByStop
  · exact h.endMotion
  · exact h

theorem Recorded.startMoving (h : Recorded n s) : Recorded n (startMoving a s) := by
  unfold Machine.startMoving
  split
  · exact h.setAxis rfl
  · split
    · exact h
    · exact h.setAxis rfl
  · exact h

theorem Recorded.startLinger (h : Recorded n s) : Recorded n (startLinger a s) :=
  h.of_frame (by simp) (by simp) (by simp) (by simp)

theorem Recorded.releaseSucceeded (h : Recorded n s) : Recorded n (releaseSucceeded a s) := by
  have hmoving : Recorded n (Machine.startMoving a (setClampState a .released s)) := .startMoving h
  unfold Machine.releaseSucceeded
  dsimp only
  split
  · exact hmoving.startLinger
  · exact hmoving

theorem Recorded.engageSucceeded (h : Recorded n s) : Recorded n (engageSucceeded a s) :=
  h.of_frame (by simp) (by simp) (by simp) (by simp)

theorem Recorded.clampTimedOut (h : Recorded n s) : Recorded n (clampTimedOut a s) :=
  have hfault : Recorded n (setClampState a .fault (Machine.raiseFault .clampTimeout (.axis a) s)) := h.raiseFault
  .endClampWait (.raiseCause hfault)

theorem Recorded.strokeEnds {k : Stroke} {success : Bool} (h : Recorded n s) :
    Recorded n (strokeEnds k success s) := by
  have hremoved : ∀ f, Recorded n (removeRequest f s) := fun _ => h
  unfold Machine.strokeEnds
  split
  · split
    · exact (hremoved _).releaseSucceeded
    · exact (hremoved _).clampTimedOut
  · split
    · exact (hremoved _).engageSucceeded
    · exact (hremoved _).clampTimedOut
  · exact (hremoved _).forkOutcome

theorem Recorded.grantWalk (h : Recorded n s) : Recorded n (grantWalk s) :=
  h.of_frame (by simp) (by simp) (by simp) (by simp)

theorem Recorded.settleStrokes {m : Nat} (h : Recorded n s) : Recorded n (settleStrokes m s) := by
  induction m generalizing s with
  | zero => exact h
  | succ m ih =>
    unfold Machine.settleStrokes
    split
    · exact h
    · exact ih h.strokeEnds.grantWalk

theorem Recorded.grantOpportunity (h : Recorded n s) : Recorded n (grantOpportunity s) := h.grantWalk.settleStrokes

theorem Recorded.withOpportunity {f : State → State} (h : Recorded n (f s)) : Recorded n (withOpportunity f s) := by
  unfold Machine.withOpportunity
  split
  · exact h
  · exact h.grantOpportunity

theorem Recorded.askClamp (h : Recorded n s) : Recorded n (askClamp a s) := by
  unfold Machine.askClamp
  split
  case h_5 => split <;> exact h
  case h_8 => exact h.endClampWait
  all_goals exact h

theorem Recorded.askRelease (h : Recorded n s) : Recorded n (askRelease a s) := by
  have goesOn : ∀ t, Recorded n t → Recorded n (if clampReleased t a then Machine.startMoving a t else t) := by
    intro t ht
    split
    · exact ht.startMoving
    · exact ht
  refine goesOn _ ?_
  split
  · exact .withOpportunity h.askClamp
  · exact h

theorem Recorded.cancelLinger (h : Recorded n s) : Recorded n (cancelLinger a s) := by
  unfold Machine.cancelLinger
  split <;> exact h

theorem Recorded.spindleCommand {o : Owner} {speed : Nat} {d : Rotation} {forced : Option GearRange}
    (h : Recorded n s) : Recorded n (spindleCommand o speed d forced s) := by
  unfold Machine.spindleCommand
  split
  · exact h.raiseCause
  · refine .withOpportunity ?_
    exact Recorded.gearCommand (s := { s with spindle := _ }) h

/-! ### Jog demands and the site's withdrawal -/

theorem Recorded.giveDemand {d : JogDemand} (h : Recorded n s) : Recorded n (giveDemand a d s) := by
  unfold Machine.giveDemand
  split
  · split
    · exact .askRelease (.cancelLinger (h.setAxis rfl))
    · exact h.setAxis rfl
    · exact h.setAxis rfl
    · exact h.setAxis rfl
    · exact h
  · exact h

theorem Recorded.giveStop (h : Recorded n s) : Recorded n (giveStop a s) := by
  unfold Machine.giveStop
  split
  · exact h
  · exact h.setAxis rfl
  · exact h.setAxis rfl
  · exact h.setAxis rfl
  · exact h

theorem Recorded.stopIfJogged (h : Recorded n s) : Recorded n (stopIfJogged a s) := by
  unfold Machine.stopIfJogged
  split
  · exact h.giveStop
  · exact h

theorem Recorded.eachAxis {f : Axis → State → State} (h : Recorded n s)
    (hf : ∀ a t, Recorded n t → Recorded n (f a t)) : Recorded n (eachAxis f s) :=
  eachAxis_keeps hf h

theorem Recorded.siteReturn (h : Recorded n s) : Recorded n (siteReturn s) :=
  h.of_frame (by simp) (by simp) (by simp) (by simp)

theorem Recorded.withdraw (h : Recorded n s) : Recorded n (withdraw s) := by
  have hstopped := h.eachAxis (f := Machine.stopIfJogged) fun _ _ => .stopIfJogged
  unfold Machine.withdraw
  split
  · exact .siteReturn hstopped
  · exact h

/-! ### Entries leave the queue -/

theorem inProgress_queue (h : PlannerSound s) (hp : headInProgress s = true) : s.planner.queue ≠ [] := by
  obtain ⟨hhead, -⟩ := h
  intro hq
  simp [headInProgress, hhead.mpr hq] at hp

/-- A state with an empty queue has no claim: the head whose move would have it is absent (R49). -/
theorem PlannerSound.no_claim (h : PlannerSound s) (hp : headInProgress s = false) (a : Axis) :
    (s.axis a).claim = false := by
  obtain ⟨-, -, -, -, hcontext, hclaim⟩ := h
  by_contra hc
  obtain ⟨c, l, hctx, -⟩ := hclaim a (by simpa using hc)
  simp [hctx, hp] at hcontext

theorem idleHead_rest (l : List Entry) :
    (idleHead l = none ↔ l = []) ∧ idleHead l ≠ some .starting ∧ idleHead l ≠ some .active := by
  cases l <;> simp [idleHead]

theorem headLeaves_resting (h : PlannerSound s) (o : EntryOutcome) : headInProgress (headLeaves o s) = false := by
  unfold headLeaves
  split
  · next hq =>
    by_contra hp
    exact inProgress_queue h (by simpa using hp) hq
  · next e rest _ => simp [headInProgress, releaseClaims, idleHead_rest rest]

theorem Recorded.headLeaves {o : EntryOutcome} (h : Recorded n s) : Recorded n (headLeaves o s) := by
  obtain ⟨-, hrun, hidle, hstart, -⟩ := h.plannerSound
  unfold Machine.headLeaves
  split
  · exact h
  · next e rest hq =>
    refine Recorded.placeEvent (h.of_planner ⟨(idleHead_rest rest).1, hrun, fun hi => ?_, hstart,
       by simp, ?_⟩ ?_ rfl rfl)
    · obtain ⟨hdisplaced, hwait, -⟩ := hidle hi
      exact ⟨hdisplaced, hwait, by simp [headInProgress, releaseClaims, idleHead_rest rest]⟩
    · simp [releaseClaims, State.axis]
    · have hlen := h.1
      rw [hq, List.length_cons] at hlen
      exact Nat.le_of_succ_le hlen

theorem Recorded.enterIdle (h : Recorded n s) (hp : headInProgress s = false) : Recorded n (enterIdle s) := by
  obtain ⟨hhead, -, -, -, hcontext, hclaim⟩ := h.plannerSound
  exact h.of_planner ⟨hhead, fun _ => ⟨rfl, rfl⟩, fun _ => ⟨rfl, rfl, hp⟩, fun c hc => by
    simp [Machine.enterIdle, has_empty] at hc, hcontext, hclaim⟩ h.1 rfl rfl

theorem Recorded.completeEntry (h : Recorded n s) : Recorded n (completeEntry s) := by
  unfold Machine.completeEntry
  split
  · exact h.headLeaves.enterIdle (headLeaves_resting h.plannerSound _)
  · exact h.headLeaves

theorem completeEntry_resting (h : PlannerSound s) : headInProgress (completeEntry s) = false := by
  unfold completeEntry
  split <;> exact headLeaves_resting h _

theorem Recorded.flushQueue (h : Recorded n s) (hp : headInProgress s = false) : Recorded n (flushQueue s) := by
  obtain ⟨-, hrun, hidle, hstart, -⟩ := h.plannerSound
  refine Recorded.placeEvent (h.of_planner ⟨by simp, hrun, fun hi => ?_, hstart, by simp,
      fun a ha => ?_⟩ ?_ rfl rfl)
  · obtain ⟨hdisplaced, hwait, -⟩ := hidle hi
    exact ⟨hdisplaced, hwait, rfl⟩
  · exact absurd ha (by simpa [State.axis] using h.plannerSound.no_claim hp a)
  · simp

theorem flushQueue_resting (s : State) : headInProgress (flushQueue s) = false := by
  simp [flushQueue, headInProgress]

/-- An abort completes once the head has left, by itself or now (R46). -/
theorem Recorded.completeAbort {headLeft : Bool} (h : Recorded n s)
    (hleft : headLeft = true → headInProgress s = false) : Recorded n (completeAbort headLeft s) := by
  unfold Machine.completeAbort
  refine Recorded.enterIdle ?_ (flushQueue_resting _)
  split
  · next hl => exact h.flushQueue (hleft hl)
  · exact h.headLeaves.flushQueue (headLeaves_resting h.plannerSound _)

theorem Recorded.abortNow (h : Recorded n s) : Recorded n (Machine.completeAbort false s) :=
  h.completeAbort (by simp)

theorem Recorded.stopAxes (h : Recorded n s) : Recorded n (Machine.eachAxis Machine.axisStop s) :=
  h.eachAxis fun _ _ => .axisStop

theorem Recorded.immediateStop (h : Recorded n s) : Recorded n (immediateStop s) := h.stopAxes.gearAbort.abortNow

theorem Recorded.takeTrip (h : Recorded n s) : Recorded n (takeTrip s) :=
  have hcoolant : Recorded n (coolantTrip (spindleTrip (valveTrip
      (Machine.completeAbort false (Machine.eachAxis Machine.axisStop s))))) :=
    h.stopAxes.abortNow.of_frame (by simp) (by simp) (by simp) (by simp)
  hcoolant.gearTrip.withdraw

theorem Recorded.trip {c : FaultCode} (h : Recorded n s) : Recorded n (trip c s) := by
  refine .takeTrip (.raiseFault ?_)
  exact h

end

end Sys2Proof.Machine

namespace Sys2Proof.Machine

section

variable {n : Nat} {s : State} {a : Axis}

/-! ### Start actions -/

/-- A claim taken for a leg of the move in progress is one that the context answers for (R31, R49). -/
theorem Recorded.claimAxis {c : MoveContext} (h : Recorded n s) (hc : s.planner.context = some c) :
    Recorded n (claimAxis c.legs a s) := by
  unfold Machine.claimAxis
  split
  · next hleg =>
    obtain ⟨l, hl⟩ := Option.isSome_iff_exists.mp hleg
    obtain ⟨hhead, hrun, hidle, hstart, hcontext, hclaim⟩ := h.plannerSound
    refine .askRelease (.cancelLinger (h.of_planner ⟨hhead, hrun, hidle, hstart, hcontext,
      fun d hd => ?_⟩ h.1 rfl rfl))
    by_cases hda : d = a
    · exact ⟨c, l, hc, hda ▸ hl⟩
    · exact hclaim d (by rwa [State.setAxis_axis_ne _ _ hda] at hd)
  · exact h

theorem Recorded.claimAxes (h : Recorded n s) : Recorded n (claimAxes s) := by
  unfold Machine.claimAxes
  split
  · exact h
  · next c hc =>
    exact (eachAxis_keeps (P := fun t => Recorded n t ∧ t.planner.context = some c)
      (fun a t ⟨ht, hct⟩ => ⟨ht.claimAxis hct, by simp [hct]⟩) ⟨h, hc⟩).1

theorem Recorded.fixContext {targets : PerAxis (Option Int)} (h : Recorded n s) (hp : headInProgress s = true) :
    Recorded n (fixContext targets s) := by
  obtain ⟨hhead, hrun, hidle, hstart, -, hclaim⟩ := h.plannerSound
  unfold Machine.fixContext
  split
  · exact h
  · next hnone =>
    refine h.of_planner ⟨hhead, hrun, hidle, hstart, fun _ => hp, fun a ha => ?_⟩ h.1 rfl rfl
    obtain ⟨c, l, hc, -⟩ := hclaim a ha
    simp [hnone] at hc

theorem Recorded.armWait {m : CoolantMode} {wait : Bool} (h : Recorded n s) (hp : s.planner.state ≠ .idle) :
    Recorded n (armWait m wait s) := by
  obtain ⟨hhead, hrun, -, hstart, hcontext, hclaim⟩ := h.plannerSound
  unfold Machine.armWait
  split
  · exact h.of_planner ⟨hhead, hrun, fun hi => absurd hi hp, hstart, hcontext, hclaim⟩ h.1 rfl rfl
  · exact h

/-- A head in progress is one of a planner that is not IDLE (R36, R46). -/
theorem PlannerSound.not_idle (h : PlannerSound s) (hp : headInProgress s = true) : s.planner.state ≠ .idle := by
  obtain ⟨-, -, hidle, -⟩ := h
  intro hi
  simp [(hidle hi).2.2] at hp

/-! A coolant request raises a cause at most, and leaves the head. -/

@[simp] theorem raiseCause_head (c : HoldCause) (s : State) : (raiseCause c s).planner.head = s.planner.head := by
  unfold raiseCause
  split <;> rfl

@[simp] theorem stopTsc_head (new : TscState) (s : State) : (stopTsc new s).planner.head = s.planner.head := by
  unfold stopTsc
  split <;> simp

@[simp] theorem startJudgement_head (s : State) : (startJudgement s).planner.head = s.planner.head := by
  unfold startJudgement
  (repeat' split) <;> simp

@[simp] theorem placeTsc_head (s : State) : (placeTsc s).planner.head = s.planner.head := by
  unfold placeTsc
  split <;> simp

@[simp] theorem coolantRequest_head (m : CoolantMode) (s : State) :
    (coolantRequest m s).planner.head = s.planner.head := by
  unfold coolantRequest setRequests moveTsc
  (repeat' split) <;> simp

theorem Recorded.startActions (h : Recorded n s) (hp : headInProgress s = true) : Recorded n (startActions s) := by
  unfold Machine.startActions
  split
  · exact h
  · split
    · exact (h.fixContext hp).claimAxes
    · exact h
    · exact h.spindleCommand
    · next m wait _ =>
      have hrequested : Recorded n (Machine.coolantRequest m s) := h.coolantRequest
      exact hrequested.armWait (hrequested.plannerSound.not_idle (by simpa [headInProgress] using hp))
    · exact h
    · exact h

theorem Recorded.startChecks (h : Recorded n s) : Recorded n (startChecks s) := h.raiseIf.raiseIf.raiseIf.raiseIf

theorem Recorded.beginHead (h : Recorded n s) (hq : s.planner.queue ≠ []) (hs : s.planner.state ≠ .idle) :
    Recorded n (beginHead s) := by
  obtain ⟨-, hrun, -, hstart, -, hclaim⟩ := h.plannerSound
  have hstarting : Recorded n { s with planner := { s.planner with head := some .starting } } :=
    h.of_planner ⟨by simpa using hq, hrun, fun hi => absurd hi hs, hstart, fun _ => rfl, hclaim⟩ h.1 rfl rfl
  exact (hstarting.startActions rfl).startChecks

/-! ### The planner's period -/

theorem Recorded.startHead (h : Recorded n s) (hs : s.planner.state ≠ .idle) : Recorded n (startHead s) := by
  unfold Machine.startHead
  split
  · next hc =>
    simp only [Bool.and_eq_true] at hc
    exact h.beginHead (by simpa using hc.2) hs
  · exact h

theorem Recorded.promoteHead (h : Recorded n s) : Recorded n (promoteHead s) := by
  obtain ⟨hhead, hrun, -, hstart, -, hclaim⟩ := h.plannerSound
  unfold Machine.promoteHead
  split
  · next hc =>
    simp only [Bool.and_eq_true, beq_iff_eq] at hc
    obtain ⟨⟨hstate, hstarting⟩, -⟩ := hc
    exact h.of_planner ⟨by simpa [hstarting] using hhead, hrun, fun hi => absurd (hstate.symm.trans hi) (by simp),
      hstart,
      fun _ => rfl, hclaim⟩ h.1 rfl rfl
  · exact h

/-- A move in progress goes on with its legs (R64). -/
theorem Recorded.distribute {c d : MoveContext} (h : Recorded n s) (hc : s.planner.context = some c)
    (hd : d.legs = c.legs) : Recorded n (distribute d s) := by
  obtain ⟨hhead, hrun, hidle, hstart, hcontext, hclaim⟩ := h.plannerSound
  refine h.of_planner ⟨hhead, hrun, hidle, hstart, fun _ => hcontext (by simp [hc]), fun a ha => ?_⟩ h.1 rfl rfl
  obtain ⟨c', l, hc', hl⟩ := hclaim a (by simpa using ha)
  cases hc.symm.trans hc'
  exact ⟨d, l, rfl, hd ▸ hl⟩

theorem Recorded.activeWork (h : Recorded n s) : Recorded n (activeWork s).1 := by
  unfold Machine.activeWork
  split
  case h_2 =>
    unfold moveWork
    split
    · exact h
    · next c hc =>
      split
      · exact h
      · unfold pathStep
        dsimp only
        split <;> exact h.distribute hc rfl
  all_goals exact h

theorem Recorded.plannerWork (h : Recorded n s) : Recorded n (plannerWork s).1 := by
  unfold Machine.plannerWork
  split
  · next hs =>
    have hpromoted := (h.startHead (by simp [hs])).promoteHead
    dsimp only
    split
    · exact hpromoted.activeWork
    · exact hpromoted
  · split
    · exact h.activeWork
    · exact h
  · split
    · exact h.activeWork
    · exact h
  · exact h
  · exact h

theorem Recorded.becomeHeld (h : Recorded n s) : Recorded n (becomeHeld s) := by
  obtain ⟨hhead, -, -, hstart, hcontext, hclaim⟩ := h.plannerSound
  exact h.of_planner ⟨hhead, by simp [Machine.becomeHeld], by simp [Machine.becomeHeld], hstart, hcontext,
    hclaim⟩ h.1
    rfl rfl

theorem Recorded.plannerFinish {completes : Bool} (h : Recorded n s) : Recorded n (plannerFinish completes s) := by
  unfold Machine.plannerFinish
  split
  · exact h
  · split
    · exact h.completeEntry
    · exact h
  · split
    · exact h.completeEntry.becomeHeld
    · split
      · exact h.becomeHeld
      · exact h
  · exact h
  · split
    · exact h.completeEntry.completeAbort fun _ => completeEntry_resting h.plannerSound
    · split
      · exact h.abortNow
      · exact h

/-! ### Start and Abort -/

theorem hasCondition_eq_false {u : CauseSet} (h : u.hasCondition = false) {c : HoldCause} (hc : c.isCondition = true) :
    u.has c = false := by
  simp only [CauseSet.hasCondition, Bool.or_eq_false_iff] at h
  obtain ⟨⟨⟨⟨hcool, hclamp⟩, hgear⟩, hspindle⟩, hlost⟩ := h
  cases c <;> first | assumption | simp [HoldCause.isCondition] at hc

/-- A Start in HELD finds no condition cause, so the causes it drops are all (R28, R30). -/
theorem Recorded.dropOperatorCauses (h : Recorded n s) (hc : s.planner.causes.hasCondition = false) :
    Recorded n (dropOperatorCauses s) := by
  obtain ⟨hhead, -, -, hstart, hcontext, hclaim⟩ := h.plannerSound
  have hfree : ∀ c, s.planner.startTime.has c = false := by
    intro c
    by_contra hs
    obtain ⟨hcause, hcond⟩ := hstart c (by simpa using hs)
    simp [hasCondition_eq_false hc hcond] at hcause
  have hempty : ∀ u : CauseSet, (∀ c, u.has c = false) → u = .empty := by
    intro u hu
    cases u
    exact CauseSet.mk.injEq .. ▸ ⟨hu .operator, hu .host, hu .coolant, hu .clamp, hu .gear,
      hu .spindle, hu .pendantLost⟩
  refine h.of_planner ⟨hhead, fun _ => ⟨hempty _ fun c => ?_, hempty _ hfree⟩,
    by simp [Machine.dropOperatorCauses], ?_,
    hcontext, hclaim⟩ h.1 rfl rfl
  · simp only [Machine.dropOperatorCauses, has_put]
    cases hcond : c.isCondition
    · cases c <;> simp [HoldCause.isCondition] at hcond ⊢
    · simp [hasCondition_eq_false hc hcond]
  · intro c hs
    simp [Machine.dropOperatorCauses, hfree] at hs

theorem Recorded.awaitSpeed (h : Recorded n s) : Recorded n (awaitSpeed s) := by
  unfold Machine.awaitSpeed
  split
  · next hp =>
    dsimp only
    split
    · exact h.beginHead (inProgress_queue h.plannerSound hp) (h.plannerSound.not_idle hp)
    · exact h
  · exact h

theorem takesStartAgain_inProgress (h : takesStartAgain s = true) : headInProgress s = true := by
  unfold takesStartAgain at h
  unfold headInProgress
  simp only [Bool.or_eq_true, Bool.and_eq_true] at h ⊢
  exact h.imp_right And.left

theorem Recorded.resumeProgram (h : Recorded n s) (hc : s.planner.causes.hasCondition = false) :
    Recorded n (resumeProgram s) := by
  have hcleared : Recorded n (Machine.clearOperatorStop (Machine.dropOperatorCauses s)) :=
    (h.dropOperatorCauses hc).clearOperatorStop
  have htaken : Recorded n ((if takesStartAgain s then Machine.beginHead else id)
      (Machine.clearOperatorStop (Machine.dropOperatorCauses s))) := by
    split
    · next ht =>
      exact hcleared.beginHead (by simpa using inProgress_queue h.plannerSound (takesStartAgain_inProgress ht))
        (by simp [Machine.dropOperatorCauses])
    · exact hcleared
  unfold Machine.resumeProgram
  split
  · exact htaken.awaitSpeed
  · exact htaken

/-- A Start that passed its checks (R28). -/
theorem Recorded.startProgram (h : Recorded n s) (hc : ∀ c ∈ startRefusals s, c.1 = false) :
    Recorded n (startProgram s) := by
  unfold Machine.startProgram
  split
  · next hidle =>
    obtain ⟨hhead, hrun, -, hstart, hcontext, hclaim⟩ := h.plannerSound
    refine Recorded.clearOperatorStop (h.of_planner ⟨hhead, fun _ => ?_, by simp, hstart, hcontext,
      hclaim⟩ h.1 rfl rfl)
    exact hrun (.inl hidle)
  · next hheld =>
    refine h.resumeProgram ?_
    simpa [startRefusals, hheld] using hc _ (List.mem_cons_of_mem _ (List.mem_cons_of_mem _ List.mem_cons_self))
  all_goals exact h

theorem Recorded.brakeOrAbort (h : Recorded n s) : Recorded n (brakeOrAbort s) := by
  unfold Machine.brakeOrAbort
  split
  · obtain ⟨hhead, -, -, hstart, hcontext, hclaim⟩ := h.plannerSound
    exact h.of_planner ⟨hhead, by simp, by simp, hstart, hcontext, hclaim⟩ h.1 rfl rfl
  · exact h.abortNow

theorem Recorded.abortReference (h : Recorded n s) : Recorded n (abortReference a s) := by
  unfold Machine.abortReference
  split
  · exact h.endMotion
  · exact h.setAxis rfl
  all_goals exact h

theorem Recorded.plannerAbort (h : Recorded n s) : Recorded n (plannerAbort s) := by
  unfold Machine.plannerAbort
  split
  · exact h
  · exact h.abortNow
  all_goals exact h.brakeOrAbort

theorem Recorded.abortProgram (h : Recorded n s) : Recorded n (abortProgram s) := by
  refine .plannerAbort ?_
  split
  · exact h.gearAbort.eachAxis fun _ _ => .abortReference
  · exact h.gearAbort

end

end Sys2Proof.Machine

namespace Sys2Proof.Machine

section

variable {n : Nat} {s : State} {a : Axis}

/-! ### The axes and their period -/

theorem Recorded.seatComp (h : Recorded n s) : Recorded n (seatComp a s) := h

theorem Recorded.loseReference (h : Recorded n s) : Recorded n (loseReference a s) := by
  unfold Machine.loseReference
  split
  · exact .seatComp (h.setAxis rfl)
  · exact h

theorem Recorded.axisFault {c : FaultCode} (h : Recorded n s) : Recorded n (axisFault c a s) :=
  h.raiseFault.immediateStop.loseReference

theorem Recorded.driveFaultIfActive (h : Recorded n s) : Recorded n (driveFaultIfActive a s) := by
  unfold Machine.driveFaultIfActive
  split
  · exact h.axisFault
  · exact h

theorem putLatch_claim (u : AxisUnit) (d : Sign) (v : Bool) : (u.putLatch d v).claim = u.claim := by cases d <;> rfl

theorem putSwitch_claim (u : AxisUnit) (d : Sign) (v : Bool) : (u.putSwitch d v).claim = u.claim := by cases d <;> rfl

theorem Recorded.overtravelOpens {d : Sign} (h : Recorded n s) : Recorded n (overtravelOpens a d s) :=
  .immediateStop (h.raiseFault.setAxis (putLatch_claim _ _ _))

theorem Recorded.overtravelIfOpen {d : Sign} (h : Recorded n s) : Recorded n (overtravelIfOpen a d s) := by
  unfold Machine.overtravelIfOpen
  split
  · exact h.overtravelOpens
  · exact h

theorem Recorded.placeRecord {p : AxisParams} (h : Recorded n s) : Recorded n (placeRecord a p s) := by
  have hplaced : Recorded n (s.setAxis a { s.axis a with params := some p }) := h.setAxis rfl
  unfold Machine.placeRecord
  split <;> exact hplaced

theorem Recorded.acceptAxis {p : AxisParams} (h : Recorded n s) : Recorded n (acceptAxis a p s) := by
  unfold Machine.acceptAxis
  split
  · exact h.placeRecord
  · exact h.placeRecord.overtravelIfOpen.overtravelIfOpen.driveFaultIfActive

theorem Recorded.followMeasured (h : Recorded n s) : Recorded n (followMeasured a s) := h.setAxis rfl

theorem Recorded.reseat (h : Recorded n s) : Recorded n (reseat a s) := by
  unfold Machine.reseat
  split
  · split
    · exact .seatComp (h.setAxis rfl)
    · exact .seatComp (.followMeasured (h.setAxis rfl))
  · exact h

theorem Recorded.takePark {x : Axis × Bool} (h : Recorded n s) : Recorded n (takePark x s) := by
  unfold Machine.takePark
  split
  · have hseated : Recorded n (Machine.seatComp x.1 (Machine.followMeasured x.1
        (s.setAxis x.1 { s.axis x.1 with mode := .parked }))) := .seatComp (.followMeasured (h.setAxis rfl))
    unfold enterParked parkClamp
    split
    · exact .grantOpportunity hseated
    · exact hseated
  · exact .driveFaultIfActive (.reseat (h.setAxis rfl))
  all_goals exact h

theorem Recorded.takeLoop {x : Axis × Bool} (h : Recorded n s) : Recorded n (takeLoop x s) := by
  unfold Machine.takeLoop
  split
  · exact .seatComp (h.setAxis rfl)
  · refine .driveFaultIfActive ?_
    dsimp only
    split
    · exact .reseat (h.setAxis rfl)
    · exact .seatComp (.followMeasured (h.setAxis rfl))
  all_goals exact h

theorem Recorded.takeReference (h : Recorded n s) : Recorded n (takeReference a s) := by
  unfold Machine.takeReference
  split
  · exact h
  · split
    · exact .seatComp (h.setAxis rfl)
    · exact .askRelease (.cancelLinger (h.loseReference.setAxis rfl))

theorem Recorded.takeMark (h : Recorded n s) : Recorded n (takeMark a s) := by
  unfold Machine.takeMark
  split
  · exact h
  · split
    · exact .seatComp (h.setAxis rfl)
    · exact h

theorem localStep_claim (a : Axis) (ovr : Nat) (p : AxisParams) (u : AxisUnit) :
    (localStep a ovr p u).claim = u.claim := by
  have hstep : ∀ goal target, (motionStep p goal target u).claim = u.claim := fun goal target => by
    obtain ⟨q, x, v, d, e⟩ := motionStep_form p goal target u
    rw [e]
  unfold localStep
  split <;> first | exact hstep _ _ | rfl

theorem Recorded.moveLocally (h : Recorded n s) : Recorded n (moveLocally a s) := by
  unfold Machine.moveLocally
  split
  · exact h
  · next p _ =>
    have hmoved : Recorded n (s.setAxis a (localStep a s.pendant.feedOverride p (s.axis a))) :=
      h.setAxis (localStep_claim ..)
    unfold noteJog
    split
    · next hheld =>
      simp only [Bool.and_eq_true, beq_iff_eq] at hheld
      obtain ⟨⟨-, hstate⟩, -⟩ := hheld
      obtain ⟨hhead, hrun, -, hstart, hcontext, hclaim⟩ := hmoved.plannerSound
      exact hmoved.of_planner ⟨hhead, hrun, fun hi => absurd (hstate.symm.trans hi) (by simp), hstart,
        hcontext, hclaim⟩
        h.1 rfl rfl
    · exact hmoved

theorem Recorded.compensateAxis {before : Axis → Int} (h : Recorded n s) :
    Recorded n (compensateAxis before a s) := by
  unfold Machine.compensateAxis
  split
  · exact h.followMeasured.setAxis rfl
  · exact h.setAxis rfl

theorem Recorded.checkFollowing (h : Recorded n s) : Recorded n (checkFollowing a s) := by
  unfold Machine.checkFollowing
  split
  · exact h.axisFault
  · exact h

theorem Recorded.endLocal (h : Recorded n s) : Recorded n (endLocal a s) := by
  unfold Machine.endLocal
  split
  · exact h
  · split
    · exact h
    · split
      · exact h.endMotion
      · exact h
    · exact h
    · split
      · exact h.endMotion
      · exact h
    · split
      · exact h.raiseFault.endMotion
      · exact h

theorem Recorded.checkParked (h : Recorded n s) : Recorded n (checkParked a s) := by
  unfold Machine.checkParked
  split
  · exact h.loseReference
  · exact h

theorem Recorded.periodLinger (h : Recorded n s) : Recorded n (periodLinger a s) := by
  unfold Machine.periodLinger
  split
  · split
    · split
      · exact .withOpportunity h.startLinger
      · exact h
    · exact h
  · exact h

theorem Recorded.axesPeriod {before : Axis → Int} (h : Recorded n s) : Recorded n (axesPeriod before s) :=
  let compensated := (h.eachAxis fun _ _ => .moveLocally).eachAxis fun _ _ => .compensateAxis
  (compensated.eachAxis fun _ _ => .checkFollowing).eachAxis fun _ _ => .endLocal

theorem Recorded.periodEnds (h : Recorded n s) : Recorded n (periodEnds s) :=
  (((h.eachAxis fun _ _ => .checkParked).eachAxis fun _ _ => .setCondition).eachAxis fun _ _ => .periodLinger).eachAxis
    fun _ _ ht => ht.setAxis rfl

theorem Recorded.interpolate (h : Recorded n s) : Recorded n (interpolate s) :=
  have hclocked : Recorded n { s with clocks := { s.clocks with interpolation := 2 } } := h
  hclocked.plannerWork.axesPeriod.plannerFinish.periodEnds

/-! ### The pendant -/

theorem Recorded.takeKnobs {r : ScanReply} (h : Recorded n s) : Recorded n (takeKnobs r s) :=
  h.of_frame (by simp) (by simp) (by simp) (by simp)

theorem Recorded.doIf {b : Bool} {f : State → State} (h : Recorded n s)
    (hf : ∀ t, Recorded n t → Recorded n (f t)) :
    Recorded n (doIf b f s) := by
  unfold Machine.doIf
  split
  · exact hf s h
  · exact h

theorem Recorded.cycleStart (h : Recorded n s) : Recorded n (cycleStart s) := by
  unfold Machine.cycleStart
  split
  · exact h
  · next hnone => exact h.startProgram (firstRefusal_eq_none hnone)

theorem Recorded.takeButtons {previous r : ScanReply} (h : Recorded n s) : Recorded n (takeButtons previous r s) :=
  have hpressed : ∀ t, Recorded n t → Recorded n
      (Machine.doIf (t.pendant.site == .pendant || t.planner.state == .idle)
      Machine.floodToggle t) := fun _ ht => ht.doIf fun _ => .floodToggle
  (((((h.doIf fun _ => .raiseCause).doIf fun _ => .operatorStop).doIf hpressed).doIf
    fun _ ht => ht.raiseCause.withdraw).doIf fun _ => .withdraw).doIf fun _ => .cycleStart

theorem Recorded.judgeSite {r : ScanReply} (h : Recorded n s) : Recorded n (judgeSite r s) := by
  unfold Machine.judgeSite
  split
  · split
    · exact h.withdraw
    · exact h
  · split <;> exact h

theorem Recorded.selectorChange {previous r : ScanReply} (h : Recorded n s) :
    Recorded n (selectorChange previous r s) := by
  unfold Machine.selectorChange
  split
  · exact h
  · dsimp only
    split
    · exact h
    · exact h.giveStop

theorem Recorded.buttonDemand {r : ScanReply} (h : Recorded n s) : Recorded n (buttonDemand a r s) := by
  unfold Machine.buttonDemand
  split
  · split
    · exact .giveDemand h
    · exact h
  · split
    · exact h
    · exact .giveStop h

theorem Recorded.clipIf {cut : Bool} (h : Recorded n s) : Recorded n (clipIf cut s) := by
  unfold Machine.clipIf
  split <;> exact h

theorem Recorded.takeWheel {detents : Int} (h : Recorded n s) : Recorded n (takeWheel a detents s) := by
  unfold Machine.takeWheel
  split
  · refine .clipIf ?_
    unfold giveWheelGoal
    split
    · exact .giveDemand h
    · exact h
  · exact .clipIf h

theorem Recorded.takeJog {previous r : ScanReply} (h : Recorded n s) : Recorded n (takeJog previous r a s) := by
  have hpressed : Recorded n (pressDiscards previous r s) := by
    unfold pressDiscards
    split <;> exact h
  unfold Machine.takeJog
  split
  · exact hpressed.buttonDemand
  · exact hpressed.buttonDemand.takeWheel

theorem Recorded.unblock {r : ScanReply} (h : Recorded n s) : Recorded n (unblock r s) := by
  unfold Machine.unblock
  split <;> exact h

theorem Recorded.jogStage {previous r : ScanReply} (h : Recorded n s) : Recorded n (jogStage previous r s) := by
  have hchanged : Recorded n (Machine.unblock r (Machine.selectorChange previous r s)) := h.selectorChange.unblock
  unfold Machine.jogStage
  dsimp only
  split
  · exact hchanged
  · split
    · exact hchanged.takeJog
    · exact hchanged

theorem Recorded.comeOnline {r : ScanReply} (h : Recorded n s) : Recorded n (comeOnline r s) := by
  have honline : Recorded n { s with pendant := { s.pendant with link := .online, goodRun := 0 } } := h
  exact honline.setCondition.takeKnobs

theorem Recorded.scanGood {r : ScanReply} (h : Recorded n s) : Recorded n (scanGood r s) := by
  have hheard : Recorded n { s with pendant := { s.pendant with misses := 0 } } := h
  unfold Machine.scanGood
  split
  · exact hheard.unblock.comeOnline
  · exact hheard.takeKnobs.takeButtons.judgeSite.jogStage
  · split
    · exact hheard.unblock.comeOnline
    · exact Recorded.unblock (s := { s with pendant := _ }) h
  · exact h

theorem Recorded.becomeLost (h : Recorded n s) : Recorded n (becomeLost s) := by
  have hlost : Recorded n { s with pendant := { s.pendant with link := .lost, goodRun := 0 } } := h
  unfold Machine.becomeLost
  dsimp only
  split
  · exact hlost.raiseFault.withdraw.raiseCause
  · exact hlost.raiseFault.withdraw

theorem Recorded.missCounted (h : Recorded n s) : Recorded n (missCounted s) := by
  unfold Machine.missCounted
  split
  · exact .becomeLost h
  · exact h

theorem Recorded.scanMiss (h : Recorded n s) : Recorded n (scanMiss s) := by
  unfold Machine.scanMiss
  split
  · exact h.missCounted
  · exact h.missCounted
  all_goals exact h

theorem Recorded.replyArrives {bytes : List Byte} {fields : Option ScanReply} (h : Recorded n s) :
    Recorded n (replyArrives bytes fields s) := by
  unfold Machine.replyArrives
  split
  · exact h
  · split
    · split
      · exact .scanGood h
      · exact .scanMiss h
    · exact .scanMiss h

theorem Recorded.windowCloses (h : Recorded n s) : Recorded n (windowCloses s) := by
  unfold Machine.windowCloses
  split
  · exact h
  · exact .scanMiss h

end

end Sys2Proof.Machine

namespace Sys2Proof.Machine

section

variable {n : Nat} {s : State} {a : Axis}

/-! ### Spindle, gear and coolant commands -/

theorem Recorded.gearTargetTaken {t : GearTarget} (h : Recorded n s) : Recorded n (gearTargetTaken t s) := by
  have hretargeted : Recorded n (gearRetarget t s) := by
    unfold gearRetarget
    split
    · exact h
    · exact h.retarget
  unfold Machine.gearTargetTaken
  split
  · split
    · exact h
    · exact h.beginChange
  · exact hretargeted
  · exact hretargeted
  · exact hretargeted
  · exact h

theorem Recorded.loadGears {g : GearLoad} (h : Recorded n s) : Recorded n (loadGears g s) := .coolantRejudge h

theorem Recorded.loadCoolant {c : CoolantParams} (h : Recorded n s) : Recorded n (loadCoolant c s) := by
  unfold Machine.loadCoolant unionChanged
  refine .coolantRejudge ?_
  split <;> exact h

theorem Recorded.checkStall (h : Recorded n s) : Recorded n (checkStall s) := by
  unfold Machine.checkStall
  split
  · split
    · exact .spindleFaultActions (.raiseFault h)
    · exact h
  · exact h

theorem Recorded.endWindow (h : Recorded n s) : Recorded n (endWindow s) := by
  have hchecked : Recorded n
      (Machine.checkStall { s with spindle := renewAtSpeed (renewStopped (renewSpeed s.spindle)) }) := .checkStall h
  have hreversed : Recorded n (reverseIfStopped
      (Machine.checkStall { s with spindle := renewAtSpeed (renewStopped (renewSpeed s.spindle)) })) := by
    unfold reverseIfStopped
    split <;> exact hchecked
  unfold Machine.endWindow planIfStopped
  split
  · exact .withOpportunity hreversed.planFirst
  · exact hreversed

theorem Recorded.inverterChange {active : Bool} (h : Recorded n s) : Recorded n (inverterChange active s) := by
  have hwritten : Recorded n { s with spindle := { s.spindle with inverterFault := active } } := h
  unfold Machine.inverterChange
  dsimp only
  split
  · exact h
  · split
    · exact hwritten.setCondition.inverterFaultActs
    · exact hwritten.setCondition

theorem Recorded.forkSwitchMoves {k : ForkSwitch} {closed : Bool} (h : Recorded n s) :
    Recorded n (forkSwitchMoves k closed s) := by
  have hmeans : ∀ t, Recorded n t → Recorded n (forkSwitchMeans k t) := by
    intro t ht
    unfold forkSwitchMeans
    split
    · split
      · exact ht
      · split
        · exact ht.gearSlip
        · exact ht.deriveState.coolantRejudge
        · exact ht.deriveState.coolantRejudge
        · exact ht
    · exact ht
    · exact ht.settleStrokes
    · exact ht
    · exact ht.settleStrokes
  unfold Machine.forkSwitchMoves
  split
  · exact h
  · exact hmeans _ h

theorem Recorded.pauseExpires (h : Recorded n s) : Recorded n (pauseExpires s) := by
  unfold Machine.pauseExpires
  split
  · exact h
  · exact .withOpportunity h.pauseEnds

theorem Recorded.useSample (h : Recorded n s) : Recorded n (useSample s) := by
  unfold Machine.useSample
  split
  · unfold buildSample
    split
    · exact h
    · split
      · exact .tscReady h
      · exact h
  · unfold lossSample
    split
    · exact h
    · split
      · exact .pressureFault h
      · exact h
  all_goals exact h

theorem Recorded.buildExpires (h : Recorded n s) : Recorded n (buildExpires s) := by
  unfold Machine.buildExpires
  split
  · exact h
  · split
    · exact h
    · exact h.pressureFault

theorem Recorded.tankChange {low : Bool} (h : Recorded n s) : Recorded n (tankChange low s) := by
  have hfault : Recorded n
      (Machine.raiseFault .coolantLevel .absent { s with coolant := { s.coolant with tankLow := true } }) :=
    .raiseFault h
  unfold Machine.tankChange
  split
  · exact h
  · split
    · exact .raiseIf (hfault.of_frame (by simp) (by simp) (by simp) (by simp))
    · exact .setCondition h

/-! ### Valve commands and the inputs of the axes -/

theorem Recorded.clampSwitchFault (h : Recorded n s) : Recorded n (clampSwitchFault a s) := by
  have hfault : Recorded n (setLinger a none (setClampState a .fault (Machine.raiseFault .clampSwitch (.axis a) s))) :=
    h.raiseFault
  exact hfault.immediateStop

theorem Recorded.clampSwitchMoves {closed : Bool} (h : Recorded n s) : Recorded n (clampSwitchMoves a closed s) := by
  have hmeans : ∀ t, Recorded n t → Recorded n (clampSwitchMeans a closed t) := by
    intro t ht
    unfold clampSwitchMeans
    split
    case h_1 => exact ht.clampSwitchFault
    case h_3 => exact ht.clampSwitchFault
    case h_5 => exact ht.settleStrokes
    case h_6 => exact ht.settleStrokes
    all_goals exact ht
  unfold Machine.clampSwitchMoves
  dsimp only
  split
  · exact h
  · split
    · exact hmeans _ h
    · exact h

theorem Recorded.strokeTimesOut {f : ValveFunction} (h : Recorded n s) : Recorded n (strokeTimesOut f s) := by
  unfold Machine.strokeTimesOut
  split
  · exact h
  · exact h.strokeEnds.grantOpportunity

theorem Recorded.lingerRunsOut (h : Recorded n s) : Recorded n (lingerRunsOut a s) := by
  unfold Machine.lingerRunsOut
  split
  · exact h
  · exact .grantOpportunity h

theorem Recorded.pressureOkMoves {ok : Bool} (h : Recorded n s) : Recorded n (pressureOkMoves ok s) := by
  have hwritten : Recorded n { s with valve := { s.valve with pressureOk := ok } } := h
  unfold Machine.pressureOkMoves
  dsimp only
  split
  · exact h
  · split
    · exact hwritten.setCondition.grantOpportunity
    · exact hwritten.setCondition

theorem Recorded.hydraulicExpires (h : Recorded n s) : Recorded n (hydraulicExpires s) := by
  unfold Machine.hydraulicExpires
  split
  · exact h
  · exact .raiseFault h

theorem Recorded.driveFaultChange {active : Bool} (h : Recorded n s) : Recorded n (driveFaultChange a active s) := by
  have hwritten : Recorded n (s.setAxis a { s.axis a with driveFault := active }) := h.setAxis rfl
  unfold Machine.driveFaultChange
  dsimp only
  split
  · exact h
  · split
    · exact hwritten.setCondition.axisFault
    · exact hwritten.setCondition

theorem Recorded.overtravelChange {d : Sign} {isOpen : Bool} (h : Recorded n s) :
    Recorded n (overtravelChange a d isOpen s) := by
  have hwritten : Recorded n (s.setAxis a ((s.axis a).putSwitch d isOpen)) := h.setAxis (putSwitch_claim _ _ _)
  unfold Machine.overtravelChange
  dsimp only
  split
  · exact h
  · split
    · exact hwritten.setCondition.overtravelOpens
    · exact hwritten.setCondition

/-! ### Clear Faults and the stop chain -/

theorem Recorded.removeCleared (h : Recorded n s) : Recorded n (removeCleared s) := by
  have hreports : ∀ (l : List FaultEntry) t, Recorded n t → Recorded n (reportRemoved l t) := by
    intro l
    induction l with
    | nil => exact fun _ ht => ht
    | cons e l ih => exact fun t ht => ih _ ht.placeEvent
  obtain ⟨hdistinct, hcount⟩ := h.2.2.2.1
  exact hreports _ _ (h.of_faults ((List.filter_sublist.map _).nodup hdistinct)
    fun e he => hcount e (List.mem_of_mem_filter he))

theorem Recorded.releaseClamp (h : Recorded n s) : Recorded n (releaseClamp a s) := by
  unfold Machine.releaseClamp
  split <;> exact h

theorem Recorded.releaseLatch {removed : List FaultEntry} {d : Sign} (h : Recorded n s) :
    Recorded n (releaseLatch removed d a s) := by
  unfold Machine.releaseLatch
  split
  · exact h.setAxis (putLatch_claim _ _ _)
  · exact h

theorem Recorded.dropCauses (h : Recorded n s) : Recorded n (dropCauses s) :=
  h.dropCause.dropCause.dropCause.dropCause.dropCause

theorem Recorded.armingActs (h : Recorded n s) : Recorded n (armingActs s) := by
  unfold Machine.armingActs
  refine .grantOpportunity ?_
  dsimp only
  split
  · exact .inverterFaultActs h
  · exact h

theorem Recorded.clearAll (h : Recorded n s) : Recorded n (clearAll s) := by
  have harmed : Recorded n (armChain (Machine.removeCleared s)) := by
    unfold armChain
    split <;> exact h.removeCleared
  have hlatches : ∀ d t, Recorded n t → Recorded n (Machine.eachAxis (Machine.releaseLatch (clearable s) d) t) :=
    fun _ _ ht => ht.eachAxis fun _ _ => .releaseLatch
  have hclamps : ∀ t, Recorded n t → Recorded n (Machine.eachAxis Machine.releaseClamp t) :=
    fun _ ht => ht.eachAxis fun _ _ => .releaseClamp
  have hreleased := (hclamps _ (hlatches .minus _ (hlatches .plus _ harmed))).dropCauses.releaseGearbox.coolantRelease
  unfold Machine.clearAll releaseBlocks
  dsimp only
  split
  · exact hreleased.armingActs
  · exact hreleased

theorem Recorded.channelsMove {open1 open2 : Bool} (h : Recorded n s) : Recorded n (channelsMove open1 open2 s) := by
  have htaken : Recorded n (takeChannels open1 open2 s) := by
    refine .setCondition (.setCondition ?_)
    exact h
  unfold Machine.channelsMove
  split
  · exact h
  · unfold judgeChannels
    split
    · split
      · exact htaken.trip
      · exact htaken
    · split
      · exact htaken.trip
      · exact htaken
    · split <;> exact htaken

theorem Recorded.discrepancyExpires (h : Recorded n s) : Recorded n (discrepancyExpires s) := by
  unfold Machine.discrepancyExpires
  split
  · exact h
  · unfold discrepancyActs
    split
    · exact .trip h
    · exact .trip h
    · exact .raiseFault h

/-! ### Orders -/

/-- An order's owner keeps the record, with any bound on the replies. -/
def OwnerRecords (owner : State → Verdict) : Prop :=
  ∀ n s u r, Recorded n s → owner s = .accept u r → Recorded n u

/-- An order is taken where one more reply has room (R197). -/
theorem Recorded.takeOrder {kind : Byte} {tag : Tag} {owner : State → Verdict}
    (h : Recorded Config.replyQueueCapacity s) (ho : OwnerRecords owner) :
    Recorded Config.replyQueueCapacity (takeOrder kind tag owner s) := by
  unfold Machine.takeOrder
  split
  · exact h
  · next hroom =>
    obtain ⟨hq, -, hrest⟩ := h
    have hless : Recorded 7 s := ⟨hq, by unfold Config.replyQueueCapacity at hroom; omega, hrest⟩
    split
    · next u r hu => exact (ho 7 s u r hless hu).placeReply
    · exact hless.placeReply

theorem ownerRecords_field {α : Type} {before : State → List (Bool × RefuseCode)} {f : State → Option α}
    {after : State → α → List (Bool × RefuseCode)} {effect : State → α → State → State}
    {payload : State → α → State → AcceptPayload}
    (h : ∀ n s x, Recorded n s → (∀ c ∈ after s x, c.1 = false) → Recorded n (effect s x s)) :
    OwnerRecords fun s => judgeField (before s) (f s) (after s) fun x => accepted (effect s x) (payload s x) s := by
  intro n s u r hs hu
  obtain ⟨-, x, -, hchecks, htaken⟩ := judgeField_eq_accept hu
  rw [accepted_eq_accept htaken]
  exact h n s x hs hchecks

theorem ownerRecords_empty {p : List Byte} {after : State → List (Bool × RefuseCode)} {effect : State → State}
    {payload : State → AcceptPayload}
    (h : ∀ n s, Recorded n s → (∀ c ∈ after s, c.1 = false) → Recorded n (effect s)) :
    OwnerRecords fun s => judgeEmpty p (after s) (accepted effect payload s) := by
  intro n s u r hs hu
  obtain ⟨hchecks, htaken⟩ := judge_eq_accept hu
  rw [accepted_eq_accept htaken]
  exact h n s hs fun c hc => hchecks c (List.mem_cons_of_mem _ hc)

theorem ownerRecords_query {α : Type} {before : State → List (Bool × RefuseCode)} {f : State → Option α}
    {payload : State → α → AcceptPayload} :
    OwnerRecords fun s => judgeField (before s) (f s) (fun _ => []) fun x => .accept s (payload s x) := by
  intro n s u r hs hu
  obtain ⟨-, x, -, -, htaken⟩ := judgeField_eq_accept hu
  cases htaken
  exact hs

/-- An entry joins a queue that passed QUEUE_FULL (R23, R24). -/
theorem Recorded.appendEntry {e : Entry} (h : Recorded n s)
    (hroom : decide (Config.programQueueCapacity ≤ s.planner.queue.length) = false) :
    Recorded n (appendEntry e s) := by
  obtain ⟨hhead, hrun, hidle, hstart, hcontext, hclaim⟩ := h.plannerSound
  have hprogress : headInProgress (Machine.appendEntry e s) = headInProgress s := by
    cases hq : s.planner.queue
    · simp [Machine.appendEntry, headInProgress, hhead.mpr hq, hq]
    · simp [Machine.appendEntry, headInProgress, hq]
  refine h.of_planner ⟨?_, hrun, ?_, hstart, ?_, hclaim⟩ ?_ rfl rfl
  · cases hq : s.planner.queue with
    | nil => simp [Machine.appendEntry, hq]
    | cons d l => simp [Machine.appendEntry, hq, hhead]
  · rw [hprogress]; exact hidle
  · rw [hprogress]; exact hcontext
  · simp only [Machine.appendEntry, List.length_append, List.length_singleton]
    simp only [decide_eq_false_iff_not] at hroom
    omega

theorem planRefusals_room {s : State} (h : ∀ c ∈ planRefusals s, c.1 = false) :
    decide (Config.programQueueCapacity ≤ s.planner.queue.length) = false :=
  h _ (List.mem_cons_of_mem _ List.mem_cons_self)

theorem moveRefusals_room {s : State} {b : EntryBody} (h : ∀ c ∈ moveRefusals s b, c.1 = false) :
    decide (Config.programQueueCapacity ≤ s.planner.queue.length) = false := by
  unfold moveRefusals at h
  split at h
  · exact h (decide (Config.programQueueCapacity ≤ s.planner.queue.length), .queueFull) (by simp)
  · exact planRefusals_room h

/-- Whatever an order's KIND, its owner keeps the record. -/
theorem ownerOf_records (kind : Byte) (tag : Tag) (p : List Byte) : OwnerRecords (ownerOf kind tag p) := by
  unfold ownerOf
  split
  case h_1 => exact ownerRecords_field fun _ _ _ hs hc => hs.appendEntry (moveRefusals_room hc)
  case h_2 => exact ownerRecords_field fun _ _ _ hs hc => hs.appendEntry (planRefusals_room hc)
  case h_3 =>
    exact ownerRecords_field fun _ _ _ hs hc =>
      hs.appendEntry (planRefusals_room fun c hm => hc c (List.mem_cons_of_mem _ hm))
  case h_4 => exact ownerRecords_field fun _ _ _ hs hc => hs.appendEntry (planRefusals_room hc)
  case h_5 => exact ownerRecords_empty fun _ _ hs hc => hs.appendEntry (planRefusals_room hc)
  case h_6 => exact ownerRecords_empty fun _ _ hs hc => hs.appendEntry (planRefusals_room hc)
  case h_7 => exact ownerRecords_empty fun _ _ hs hc => hs.startProgram hc
  case h_8 => exact ownerRecords_empty fun _ _ hs _ => hs.raiseCause
  case h_9 => exact ownerRecords_empty fun _ _ hs _ => hs.abortProgram
  case h_10 => exact ownerRecords_field fun _ _ _ hs _ => hs.spindleCommand
  case h_11 => exact ownerRecords_field fun _ _ _ hs _ => .withOpportunity hs.gearTargetTaken
  case h_12 => exact ownerRecords_field fun _ _ _ hs _ => hs.coolantRequest
  case h_13 => exact ownerRecords_field fun _ _ _ hs _ => hs.takeReference
  case h_14 => exact ownerRecords_field fun _ _ _ hs _ => hs.takePark
  case h_15 => exact ownerRecords_field fun _ _ _ hs _ => hs.takeLoop
  case h_16 => exact ownerRecords_field fun _ _ _ hs _ => hs.acceptAxis
  case h_17 => exact ownerRecords_field fun _ _ _ hs _ => hs
  case h_18 => exact ownerRecords_field fun _ _ _ hs _ => hs.loadGears
  case h_19 => exact ownerRecords_field fun _ _ _ hs _ => hs
  case h_20 => exact ownerRecords_field fun _ _ _ hs _ => hs.loadCoolant
  case h_21 => exact ownerRecords_field fun _ _ _ hs _ => hs
  case h_22 => exact ownerRecords_field fun _ _ _ hs _ => hs.of_frame (by simp) (by simp) (by simp) (by simp)
  case h_23 => exact ownerRecords_field fun _ _ _ hs _ => hs
  case h_24 => exact ownerRecords_field fun _ _ _ hs _ => hs
  case h_25 =>
    intro n s u r hs hu
    cases (judge_eq_accept hu).2
    exact hs.clearAll
  case h_26 => exact ownerRecords_query
  case h_27 => exact ownerRecords_query
  case h_28 => exact ownerRecords_query
  case h_29 =>
    intro n s u r hs hu
    cases (judge_eq_accept hu).2
    exact hs
  case h_30 => intro n s u r _ hu; cases hu

/-! ### Every command -/

theorem Recorded.takeByte {x : Byte} (h : Recorded Config.replyQueueCapacity s) :
    Recorded Config.replyQueueCapacity (takeByte x s) := by
  unfold Machine.takeByte
  split
  · split <;> exact h
  · unfold takeLen
    (repeat' split) <;> exact h
  · exact h
  · split <;> exact h
  · exact h
  · unfold takeCheck
    split
    · exact Recorded.takeOrder (s := hunt s) h (ownerOf_records _ _ _)
    · exact h

theorem Recorded.transmit (h : Recorded n s) : Recorded n (transmit s) := by
  obtain ⟨hq, hr, he, hrest⟩ := h
  unfold Machine.transmit
  split
  · exact ⟨hq, hr, he, hrest⟩
  · split
    · next r rest hreplies =>
      rw [hreplies, List.length_cons] at hr
      exact ⟨hq, Nat.le_of_succ_le hr, he, hrest⟩
    · split
      · next e rest hevents =>
        rw [hevents, List.length_cons] at he
        exact ⟨hq, hr, Nat.le_of_succ_le he, hrest⟩
      · split
        · exact ⟨hq, hr, he, hrest⟩
        · split <;> exact ⟨hq, hr, he, hrest⟩

theorem Recorded.finish (h : Recorded n s) (before : State) : Recorded n (finish before s) := by
  have hchecked : Recorded n (hydraulicCheck (Machine.siteReturn s)) :=
    h.siteReturn.of_frame (by simp) (by simp) (by simp) (by simp)
  refine .transmit ?_
  unfold noteChange
  split <;> exact hchecked

theorem Recorded.event {f : State → State} {t : State} (h : Recorded n (f s)) (ht : event f s = .next t) :
    Recorded n t := by
  cases ht
  exact h.finish s

theorem raiseAtReset_recorded {i : ResetInputs} {s : State} (h : Recorded n s) : Recorded n (raiseAtReset i s) :=
  (h.doIf fun _ => .raiseFault).doIf fun _ => .raiseFault

theorem powerOn_recorded (i : ResetInputs) (waiting : List Instr) :
    Recorded Config.replyQueueCapacity (powerOn i waiting) := by
  refine raiseAtReset_recorded ⟨Nat.zero_le _, Nat.zero_le _, Nat.zero_le _, ?_, ?_⟩
  · simp [FaultsDistinct, resetState, stopAtReset]
  · simp [PlannerSound, resetState, Planner.afterReset, headInProgress, has_empty, State.axis, AxisUnit.afterReset]

/-- Every command keeps the record. -/
theorem Recorded.exec {c : Instr} {t : State} (h : Recorded Config.replyQueueCapacity s) (ht : exec c s = .next t) :
    Recorded Config.replyQueueCapacity t := by
  have order : ∀ {kind : Byte} {tag : Tag} {owner : State → Verdict}, OwnerRecords owner →
      Machine.event (Machine.takeOrder kind tag owner) s = .next t → Recorded Config.replyQueueCapacity t :=
    fun ho => Recorded.event (h.takeOrder ho)
  cases c with
  | powerOnReset i => cases ht; exact powerOn_recorded i s.pending
  | byteReceived x stopBit =>
    refine Recorded.event ?_ ht
    unfold byteArrives
    split
    · exact h.takeByte
    · exact h
  | gapTimerExpiry =>
    refine Recorded.event ?_ ht
    unfold gapExpires
    split <;> exact h
  | unknownKindTelegram kind tag p => exact order (ownerOf_records kind tag p) ht
  | queueMove tag p => exact order (ownerOf_records 0x01 tag p) ht
  | queueDwell tag p => exact order (ownerOf_records 0x02 tag p) ht
  | queueSpindle tag p => exact order (ownerOf_records 0x03 tag p) ht
  | queueCoolant tag p => exact order (ownerOf_records 0x04 tag p) ht
  | queueMark tag p => exact order (ownerOf_records 0x05 tag p) ht
  | queueEnd tag p => exact order (ownerOf_records 0x06 tag p) ht
  | start tag p => exact order (ownerOf_records 0x10 tag p) ht
  | hold tag p => exact order (ownerOf_records 0x11 tag p) ht
  | abort tag p => exact order (ownerOf_records 0x12 tag p) ht
  | spindleSet tag p => exact order (ownerOf_records 0x18 tag p) ht
  | gearSet tag p => exact order (ownerOf_records 0x19 tag p) ht
  | coolantSet tag p => exact order (ownerOf_records 0x1A tag p) ht
  | reference tag p => exact order (ownerOf_records 0x1B tag p) ht
  | park tag p => exact order (ownerOf_records 0x1C tag p) ht
  | loop tag p => exact order (ownerOf_records 0x1D tag p) ht
  | setAxis tag p => exact order (ownerOf_records 0x20 tag p) ht
  | loadCompensation tag p => exact order (ownerOf_records 0x21 tag p) ht
  | setValveParams tag p => exact order (ownerOf_records 0x25 tag p) ht
  | setSpindleParams tag p => exact order (ownerOf_records 0x23 tag p) ht
  | setGears tag p => exact order (ownerOf_records 0x22 tag p) ht
  | setCoolantParams tag p => exact order (ownerOf_records 0x24 tag p) ht
  | setOverrides tag p => exact order (ownerOf_records 0x26 tag p) ht
  | setPendantText tag p => exact order (ownerOf_records 0x27 tag p) ht
  | setReporting tag p => exact order (ownerOf_records 0x28 tag p) ht
  | clearFaults tag p => exact order (ownerOf_records 0x2F tag p) ht
  | getStatus tag p => exact order (ownerOf_records 0x30 tag p) ht
  | getAxis tag p => exact order (ownerOf_records 0x31 tag p) ht
  | getFaults tag p => exact order (ownerOf_records 0x32 tag p) ht
  | getIdent tag p => exact order (ownerOf_records 0x33 tag p) ht
  | telegramSent => exact Recorded.event (f := fun t => { t with link := { t.link with sending := none } }) h ht
  | positionTimerExpiry =>
    refine Recorded.event ?_ ht
    unfold positionExpires
    split <;> exact h
  | interpolationPeriod => exact Recorded.event h.interpolate ht
  | encoderEdge a aLeads =>
    cases ht
    refine Recorded.finish ?_ s
    exact h.setAxis rfl
  | referenceMark a => exact Recorded.event h.takeMark ht
  | driveFaultInput a active => exact Recorded.event h.driveFaultChange ht
  | overtravelSwitchChange a d isOpen => exact Recorded.event h.overtravelChange ht
  | clampReleasedSwitchChange a closed => exact Recorded.event h.clampSwitchMoves ht
  | strokeTimeout f => exact Recorded.event h.strokeTimesOut ht
  | lingerTimerExpiry a => exact Recorded.event h.lingerRunsOut ht
  | pressureOkChange ok => exact Recorded.event h.pressureOkMoves ht
  | hydraulicWaitTimerExpiry => exact Recorded.event h.hydraulicExpires ht
  | referenceUpdate =>
    cases ht
    refine Recorded.finish ?_ s
    exact h.of_frame (by simp) (by simp) (by simp) (by simp)
  | spindleEncoderEdge clockwise =>
    cases ht
    refine Recorded.finish ?_ s
    exact h
  | speedWindowEnd =>
    cases ht
    refine Recorded.finish ?_ s
    exact .endWindow h
  | inverterFaultInput active => exact Recorded.event h.inverterChange ht
  | forkSwitchChange k closed => exact Recorded.event h.forkSwitchMoves ht
  | creepAlternation =>
    cases ht
    refine Recorded.finish ?_ s
    exact h.of_frame (by simp) (by simp) (by simp) (by simp)
  | pauseTimerExpiry => exact Recorded.event h.pauseExpires ht
  | pressureSample code =>
    cases ht
    refine Recorded.finish ?_ s
    exact .useSample h
  | buildTimerExpiry => exact Recorded.event h.buildExpires ht
  | purgeTimerExpiry =>
    cases ht
    refine Recorded.finish ?_ s
    exact h.of_frame (by simp) (by simp) (by simp) (by simp)
  | tankLowSwitchChange low => exact Recorded.event h.tankChange ht
  | scanRequest =>
    cases ht
    refine Recorded.finish ?_ s
    exact h.of_frame (by simp) (by simp) (by simp) (by simp)
  | pendantReply bytes fields => exact Recorded.event h.replyArrives ht
  | replyWindowClose => exact Recorded.event h.windowCloses ht
  | clipTimerExpiry =>
    cases ht
    refine Recorded.finish ?_ s
    exact h
  | flashPhaseToggle =>
    cases ht
    refine Recorded.finish ?_ s
    exact h
  | stopChannelChange open1 open2 => exact Recorded.event h.channelsMove ht
  | discrepancyTimerExpiry => exact Recorded.event h.discrepancyExpires ht

end

/-- Settles O51: the record is inductive by itself, so each command's own lemma closes the step. -/
theorem stepKeepsRecords : Obligations.StepKeepsRecords := by
  unfold Obligations.StepKeepsRecords
  rintro s t ⟨hqueues, hfaults, hplanner, -⟩ hstep
  have h : Recorded Config.replyQueueCapacity s := (recorded_iff s).mpr ⟨hqueues, hfaults, hplanner⟩
  rw [← recorded_iff]
  unfold step at hstep
  split at hstep
  · cases hstep
    exact h
  · next c rest _ => exact Recorded.exec (s := { s with pending := rest }) h hstep

end Sys2Proof.Machine

namespace Sys2Proof.Machine

/-! ## Queue orders: the payloads of the entries and what they decode to (R24, R204) -/

@[simp] theorem flagOf_flagByte (b : Bool) : flagOf (flagByte b).toNat = some b := by cases b <;> rfl

@[simp] theorem rotationOf_byte (d : Rotation) : rotationOf d.byte.toNat = some d := by cases d <;> rfl

@[simp] theorem coolantModeOf_byte (m : CoolantMode) : coolantModeOf m.byte.toNat = some m := by cases m <;> rfl

@[simp] theorem forcedOf_forcedByte (forced : Option GearRange) : forcedOf (forcedByte forced).toNat = some forced := by
  cases forced with
  | none => rfl
  | some r => cases r <;> rfl

theorem within_eq {lo hi n : Nat} (h1 : lo ≤ n) (h2 : n ≤ hi) : within lo hi n = some n := if_pos ⟨h1, h2⟩

theorem dwellEntry_leBytes {time : Nat} (h1 : 1 ≤ time) (h2 : time ≤ 600000) :
    dwellEntry (leBytes 4 time) = some (.dwell time) := by
  have htime := le32_leBytes time (by omega) []
  rw [List.append_nil] at htime
  rw [dwellEntry, htime, within_eq h1 h2]
  rfl

theorem spindleEntry_bytes {speed : Nat} (h : speed ≤ 3000) (d : Rotation) (forced : Option GearRange) (wait : Bool) :
    spindleEntry (leBytes 2 speed ++ [d.byte, forcedByte forced, flagByte wait])
      = some (.spindle speed d forced wait) := by
  have htail : ∀ i, byteAt (leBytes 2 speed ++ [d.byte, forcedByte forced, flagByte wait]) (2 + i)
      = byteAt [d.byte, forcedByte forced, flagByte wait] i := byteAt_append (leBytes 2 speed) _
  rw [spindleEntry, le16_leBytes speed (by omega), within_eq (Nat.zero_le _) h, htail 0, htail 1, htail 2]
  simp [byteAt]

theorem coolantEntry_bytes (m : CoolantMode) (wait : Bool) :
    coolantEntry [m.byte, flagByte wait] = some (.coolant m wait) := by simp [coolantEntry, byteAt]

theorem asksMissingTsc_bytes {s : State} {m : CoolantMode} (h : m.asksTsc = true → s.link.straps.tscFitted = true)
    (rest : List Byte) : asksMissingTsc s (byteAt (m.byte :: rest) 0) = false := by
  cases m with
  | off | flood => rfl
  | tsc | floodTsc => simp [asksMissingTsc, h rfl]

theorem needsTable_pass {s : State} {speed : Nat} {d : Rotation} {forced : Option GearRange} {wait : Bool}
    (h : s.gear.table.isSome = true ∨ (speed = 0 ∧ forced = none)) :
    (needsTable (.spindle speed d forced wait) && s.gear.table.isNone) = false := by
  rcases h with h | ⟨rfl, rfl⟩
  · cases ht : s.gear.table <;> simp_all
  · rfl

theorem planRefusals_pass {s : State} (habort : s.planner.state ≠ .aborting) (hroom : s.planner.queue.length < 32) :
    ∀ c ∈ planRefusals s, c.1 = false := by
  simp [planRefusals, habort, Config.programQueueCapacity]
  exact decide_eq_false (by omega)

/-- An entry that is taken joins the tail, and the answer is the free slots left (R25). -/
theorem takeEntry_eq (tag : Tag) (b : EntryBody) (s : State) :
    takeEntry tag b s =
      .accept
        { s with
          planner :=
            { s.planner with
              queue := s.planner.queue ++ [⟨tag, b⟩]
              head := if s.planner.queue = [] then some .queued else s.planner.head } }
        (.freeSlots (31 - s.planner.queue.length)) := by
  simp [takeEntry, accepted, appendEntry, freeSlots, Config.programQueueCapacity]

/-- Settles O11: each payload decodes to its entry, the entry passes the checks of R24, and the queue takes it. -/
theorem queueOrdersAppend : Obligations.QueueOrdersAppend := by
  unfold Obligations.QueueOrdersAppend
  intro s tag hs hreply habort hroom
  have hplan := planRefusals_pass habort hroom
  have hkeeps : ∀ b : EntryBody, Settled
      { s with
        planner :=
          { s.planner with
            queue := s.planner.queue ++ [⟨tag, b⟩]
            head := if s.planner.queue = [] then some .queued else s.planner.head } } := fun _ => hs.of_eq rfl rfl rfl
  refine ⟨fun time h1 h2 => ?_, fun speed d forced wait h1 h2 => ?_, fun m wait h => ?_, ?_, ?_⟩
  · refine completes_order (fun _ => rfl) hreply ?_ (hkeeps _) rfl
    exact (judgeField_accept (by simp) (dwellEntry_leBytes h1 h2) hplan).trans (takeEntry_eq ..)
  · refine completes_order (fun _ => rfl) hreply ?_ (hkeeps _) rfl
    refine (judgeField_accept (by simp) (spindleEntry_bytes h1 d forced wait) ?_).trans (takeEntry_eq ..)
    exact List.forall_mem_cons.2 ⟨needsTable_pass h2, hplan⟩
  · refine completes_order (fun _ => rfl) hreply ?_ (hkeeps _) rfl
    refine (judgeField_accept ?_ (coolantEntry_bytes m wait) hplan).trans (takeEntry_eq ..)
    simp [asksMissingTsc_bytes h]
  · refine completes_order (fun _ => rfl) hreply ?_ (hkeeps _) rfl
    exact (judge_accept (List.forall_mem_cons.2 ⟨rfl, hplan⟩)).trans (takeEntry_eq ..)
  · refine completes_order (fun _ => rfl) hreply ?_ (hkeeps _) rfl
    exact (judge_accept (List.forall_mem_cons.2 ⟨rfl, hplan⟩)).trans (takeEntry_eq ..)

end Sys2Proof.Machine

namespace Sys2Proof.Machine

/-! ## Start and Hold -/

theorem anyReference_eq_true {s : State} {a : Axis} (h : (s.axis a).motion.isReference = true) :
    anyReference s = true := by
  simp only [anyReference, List.any_eq_true]
  exact ⟨a, by cases a <;> decide, h⟩

/-- Settles O14: the checks of R28 are judged in their order, and the first that fails gives the code. -/
theorem startRefusedInOrder : Obligations.StartRefusals := by
  unfold Obligations.StartRefusals
  intro s tag hs hreply
  have hrefuses : ∀ {c : RefuseCode}, judge ((false, .badLength) :: startRefusals s)
      (accepted startProgram plannerReply s) = .refuse c → Completes (.start tag []) s s [.refuse tag c 0x10] [] :=
    fun hc => completes_refuse (fun _ => rfl) hreply hc hs
  refine ⟨fun hestop => hrefuses ?_, fun hestop hsite => hrefuses ?_, fun hestop hsite hbusy => hrefuses ?_,
    fun hestop hsite hheld hfree hdisplaced => hrefuses ?_⟩
  · simp [judge, firstRefusal, startRefusals, hestop]
  · simp [judge, firstRefusal, startRefusals, hestop, hsite]
  · rcases hbusy with hholding | haborting | ⟨hheld, hcause⟩ | ⟨hidle, a, ha⟩
    · simp [judge, firstRefusal, startRefusals, hestop, hsite, hholding]
    · simp [judge, firstRefusal, startRefusals, hestop, hsite, haborting]
    · simp [judge, firstRefusal, startRefusals, hestop, hsite, hheld, hcause]
    · simp [judge, firstRefusal, startRefusals, hestop, hsite, hidle, anyReference_eq_true ha]
  · simp [judge, firstRefusal, startRefusals, hestop, hsite, hheld, hfree, hdisplaced]

/-- In IDLE and ABORTING a cause is not added (R39). -/
theorem raiseCause_unheard {s : State} (h : s.planner.state = .idle ∨ s.planner.state = .aborting) (c : HoldCause) :
    raiseCause c s = s := by
  rcases h with h | h <;> simp [raiseCause, h]

/-- HOST is no condition: it joins the set, and the state moves by the table of R39. -/
theorem raiseHost_eq {s : State} (hidle : s.planner.state ≠ .idle) (haborting : s.planner.state ≠ .aborting) :
    raiseCause .host s =
      { s with
        planner :=
          { s.planner with
            state :=
              (match s.planner.state with
               | .running => if s.planner.head == some .active then .holding else .held
               | other => other)
            causes := { s.planner.causes with host := true } } } := by
  unfold raiseCause
  split
  · exact absurd ‹_› hidle
  · exact absurd ‹_› haborting
  · rfl

/-- Settles O15: R39 state by state. -/
theorem holdAddsHost : Obligations.HoldAddsHost := by
  unfold Obligations.HoldAddsHost
  intro s tag hs hreply
  have hholds : ∀ {u : State}, raiseCause .host s = u → Settled u → u.link = s.link →
      Completes (.hold tag []) s u [.accept tag (.planner u.planner.state)] [] := fun hu hsettled hlink =>
    completes_order (owner := holdOrder []) (fun _ => rfl) hreply (by rw [← hu]; rfl) hsettled hlink
  have hsettled : ∀ p : Planner, Settled { s with planner := p } := fun _ => hs.of_eq rfl rfl rfl
  refine ⟨fun hstate => ?_, fun hrun hactive => ?_, fun hrun hactive => ?_, fun hstate => ?_⟩
  · exact hholds (raiseCause_unheard hstate _) hs rfl
  · exact hholds ((raiseHost_eq (by simp [hrun]) (by simp [hrun])).trans (by simp [hrun, hactive])) (hsettled _) rfl
  · exact hholds ((raiseHost_eq (by simp [hrun]) (by simp [hrun])).trans (by simp [hrun, hactive])) (hsettled _) rfl
  · refine hholds ?_ (hsettled _) rfl
    rcases hstate with h | h <;> exact (raiseHost_eq (by simp [h]) (by simp [h])).trans (by simp [h])

end Sys2Proof.Machine

namespace Sys2Proof.Machine

/-! ## What a raised cause does to a running program (R39) -/

/-- A cause raised over an ACTIVE head of a running program: HOLDING, with the cause in the set (R39). -/
theorem raiseCause_active {s : State} (hrun : s.planner.state = .running) (hactive : s.planner.head = some .active)
    (c : HoldCause) :
    (raiseCause c s).planner.state = .holding ∧ (raiseCause c s).planner.causes = s.planner.causes.put c true
      ∧ (raiseCause c s).planner.retake = s.planner.retake := by
  simp [raiseCause, hrun, hactive]

/-- A cause raised over a head that is not ACTIVE: HELD at once (R39). -/
theorem raiseCause_waiting {s : State} (hrun : s.planner.state = .running) (hactive : s.planner.head ≠ some .active)
    (c : HoldCause) :
    (raiseCause c s).planner.state = .held ∧ (raiseCause c s).planner.causes = s.planner.causes.put c true := by
  simp [raiseCause, hrun, hactive]

/-! ## The inverter fault input (O36) -/

/-- With nothing programmed the speed formed is 0, the stall count is cleared and no reversal is left (R106, R111,
R116). -/
theorem formSpeed_stands {s : State} (h : s.spindle.sProg = 0) :
    (formSpeed s).spindle.sCmd = 0 ∧ (formSpeed s).spindle.stallCount = 0
      ∧ (formSpeed s).spindle.phase ≠ .reversing := by
  have hcmd := commandedSpeed_zero (s := s) h
  cases hphase : s.spindle.phase <;> simp [formSpeed, withSpeed, withTarget, settled, hcmd, hphase]

/-- The fault actions leave the spindle at 0, with no command and no operator's stop (R117). -/
theorem spindleFaultActions_spindle (s : State) :
    (spindleFaultActions s).spindle.sProg = 0 ∧ (spindleFaultActions s).spindle.sCmd = 0
      ∧ (spindleFaultActions s).spindle.reference = 0 ∧ (spindleFaultActions s).spindle.stoppedByOperator = false
      ∧ (spindleFaultActions s).spindle.stallCount = 0 ∧ (spindleFaultActions s).spindle.phase ≠ .reversing
      ∧ (spindleFaultActions s).spindle.inverterFault = s.spindle.inverterFault := by
  obtain ⟨hcmd, hstall, hphase⟩ := formSpeed_stands
    (s := { s with spindle := { s.spindle with sProg := 0, stoppedByOperator := false } }) rfl
  simpa [spindleFaultActions, zeroReference] using ⟨hcmd, hstall, hphase⟩

/-- The planner hears of a spindle fault as of the cause SPINDLE, after its note of a held PER_REV MOVE (R67). -/
theorem spindleFaultActions_planner (s : State) :
    (spindleFaultActions s).planner = (raiseCause .spindle (noteFaultHold s)).planner := by
  have hnote : ∀ t : State, t.planner = s.planner → (noteFaultHold t).planner = (noteFaultHold s).planner := by
    intro t ht
    unfold noteFaultHold faultHoldsMove headIsPerRev headBody
    rw [ht]
    split <;> simp_all
  have hraise : ∀ t u : State, t.planner = u.planner → t.stop = u.stop →
      (raiseCause .spindle t).planner = (raiseCause .spindle u).planner := by
    intro t u hp hstop
    unfold raiseCause hasTied hasCode
    rw [hp, hstop]
    split <;> simp_all
  exact hraise _ _ (hnote _ (by simp [zeroReference])) (by simp)

/-- In IDLE and ABORTING the planner does not hear of a spindle fault (R39, R67). -/
theorem spindleFaultActions_unheard {s : State} (h : s.planner.state = .idle ∨ s.planner.state = .aborting) :
    (spindleFaultActions s).planner = s.planner := by
  have hnote : noteFaultHold s = s := by rcases h with h | h <;> simp [noteFaultHold, faultHoldsMove, h]
  rw [spindleFaultActions_planner, hnote, raiseCause_unheard h]

theorem headIsPerRev_congr {s t : State} (h : t.planner = s.planner) : headIsPerRev t = headIsPerRev s := by
  simp [headIsPerRev, headBody, h]

theorem noteFaultHold_planner (s : State) :
    (noteFaultHold s).planner = { s.planner with retake := s.planner.retake || faultHoldsMove s } := by
  unfold noteFaultHold
  cases h : faultHoldsMove s <;> simp

/-- A spindle fault makes a running ACTIVE head HOLDING, with the note for a PER_REV MOVE (R39, R67). -/
theorem spindleFaultActions_active {s : State} (hrun : s.planner.state = .running)
    (hactive : s.planner.head = some .active) :
    (spindleFaultActions s).planner.state = .holding
      ∧ (spindleFaultActions s).planner.causes = { s.planner.causes with spindle := true }
      ∧ (headIsPerRev s = true → (spindleFaultActions s).planner.retake = true) := by
  obtain ⟨hstate, hcauses, hretake⟩ := raiseCause_active (s := noteFaultHold s)
    (by simpa [noteFaultHold_planner] using hrun) (by simpa [noteFaultHold_planner] using hactive) .spindle
  rw [spindleFaultActions_planner, hstate, hcauses, hretake, noteFaultHold_planner]
  exact ⟨rfl, rfl, fun hrev => by simp [faultHoldsMove, hrun, hactive, hrev]⟩

/-- A spindle fault makes a running head that is not ACTIVE HELD (R39). -/
theorem spindleFaultActions_waiting {s : State} (hrun : s.planner.state = .running)
    (hactive : s.planner.head ≠ some .active) :
    (spindleFaultActions s).planner.state = .held
      ∧ (spindleFaultActions s).planner.causes = { s.planner.causes with spindle := true } := by
  obtain ⟨hstate, hcauses⟩ := raiseCause_waiting (s := noteFaultHold s)
    (by simpa [noteFaultHold_planner] using hrun) (by simpa [noteFaultHold_planner] using hactive) .spindle
  rw [spindleFaultActions_planner, hstate, hcauses, noteFaultHold_planner]
  exact ⟨rfl, rfl⟩

theorem spindleEnable_of_spindleFault {s : State} (h : hasFault s .spindleFault .absent = true) :
    spindleEnable s = false := by
  have hcode : hasSpindleFault s = true := by
    simp only [hasFault, List.any_eq_true, Bool.and_eq_true] at h
    obtain ⟨e, he, hc, -⟩ := h
    simp only [hasSpindleFault, hasCode, Bool.or_eq_true, List.any_eq_true]
    exact .inl ⟨e, he, hc⟩
  simp [spindleEnable, hcode]

/-- The level of the inverter fault input with the condition flag of its entry (R186). -/
def inverterLevel (active : Bool) (s : State) : State :=
  setCondition .spindleFault .absent active { s with spindle := { s.spindle with inverterFault := active } }

theorem inverterChange_of_ne {s : State} {v : Bool} (h : s.spindle.inverterFault ≠ v) :
    inverterChange v s =
      if v && s.stop.estop == .armed then inverterFaultActs (inverterLevel v s) else inverterLevel v s := by
  rw [inverterChange, if_neg (by simpa using h)]
  rfl

/-- Settles O36: a level written, and the fault actions of a rise in ARMED. -/
theorem inverterFaultStopsSpindle : Obligations.InverterFaultStopsSpindle := by
  unfold Obligations.InverterFaultStopsSpindle
  intro s hs
  refine ⟨completes_event (f := inverterChange s.spindle.inverterFault) rfl (by simp [inverterChange]) hs rfl,
    fun v hv hun => ?_, fun hin harmed => ?_⟩
  · refine completes_event (f := inverterChange v) rfl ?_ (hs.of_eq rfl rfl rfl) rfl
    rw [inverterChange_of_ne hv, if_neg (by simpa [or_iff_not_imp_left] using hun)]
    exact setCondition_eq ..
  · have hchange : inverterChange true s = inverterFaultActs (inverterLevel true s) := by
      simp [inverterChange_of_ne (v := true) (s := s) (by simp [hin]), harmed]
    have hlevel : (raiseFault .spindleFault .absent (inverterLevel true s)).planner = s.planner := by
      simp [inverterLevel]
    obtain ⟨t, hexec, hform, -⟩ := event_next (f := inverterChange true) (s := s)
      (hs.of_eq (by simp) (by simp) (by simp))
    have hspindle : t.spindle = (inverterFaultActs (inverterLevel true s)).spindle := by rw [hform, hchange]
    have hstop : t.stop = (raiseFault .spindleFault .absent (inverterLevel true s)).stop := by
      rw [hform, hchange]
      simp [inverterFaultActs]
    have hplanner : t.planner = (inverterFaultActs (inverterLevel true s)).planner := by rw [hform, hchange]
    have hfault : hasFault t .spindleFault .absent = true := by
      rw [hasFault_of_stop_eq hstop]
      exact hasFault_raiseFault ..
    obtain ⟨hprog, hcmd, href, hop, hstall, hphase, hlev⟩ :=
      spindleFaultActions_spindle (raiseFault .spindleFault .absent (inverterLevel true s))
    refine ⟨t, hexec, ?_, hfault, spindleEnable_of_spindleFault hfault, ?_⟩
    · rw [hform]
      simp [hchange, inverterFaultActs, inverterLevel]
    rw [hspindle, hplanner, inverterFaultActs]
    refine ⟨hlev.trans (by simp [inverterLevel]), hprog, hcmd, href, hop, hstall, hphase, fun h => ?_,
      fun hrun hactive => ?_, fun hrun hactive => ?_⟩
    · exact (spindleFaultActions_unheard (hlevel ▸ h)).trans hlevel
    · obtain ⟨hstate, hcauses, hretake⟩ := spindleFaultActions_active (hlevel ▸ hrun) (hlevel ▸ hactive)
      rw [hlevel] at hcauses
      rw [headIsPerRev_congr hlevel] at hretake
      exact ⟨hstate, hcauses, hretake⟩
    · obtain ⟨hstate, hcauses⟩ := spindleFaultActions_waiting (hlevel ▸ hrun) (hlevel ▸ hactive)
      rw [hlevel] at hcauses
      exact ⟨hstate, hcauses⟩

end Sys2Proof.Machine

namespace Sys2Proof.Machine

/-- Two states are one where their blocks agree. -/
theorem State.eq_iff_blocks {s t : State} :
    s = t ↔ s.link = t.link ∧ s.planner = t.planner ∧ s.axes = t.axes ∧ s.comp = t.comp ∧ s.clamps = t.clamps
      ∧ s.valve = t.valve ∧ s.spindle = t.spindle ∧ s.gear = t.gear ∧ s.coolant = t.coolant
      ∧ s.pendant = t.pendant ∧ s.stop = t.stop ∧ s.clocks = t.clocks ∧ s.pending = t.pending := by
  cases s
  cases t
  simp

/-! ## The pressure sample (O40) -/

/-- The state with the sample in the filter, before its further use (R144). -/
def sampled (c : Coolant) (s : State) : State :=
  { s with coolant := c, clocks := { s.clocks with pressureSample := 10 } }

theorem useSample_idle {s : State} (hbuild : s.coolant.tsc ≠ .building) (hready : s.coolant.tsc ≠ .ready) :
    useSample s = s := by
  unfold useSample
  split
  · exact absurd ‹_› hbuild
  · exact absurd ‹_› hready
  all_goals rfl

theorem useSample_building {s : State} (h : s.coolant.tsc = .building) : useSample s = buildSample s := by
  simp [useSample, h]

theorem useSample_ready {s : State} (h : s.coolant.tsc = .ready) : useSample s = lossSample s := by
  simp [useSample, h]

/-- A loss: TSC is FAULTED with its timer off, the fault raised, and COOLANT raised to the planner (R149). -/
theorem pressureFault_eq (s : State) :
    pressureFault s =
      { s with
        coolant := { s.coolant with tsc := .faulted, buildTimer := none, late := false }
        spindle := (pressureFault s).spindle
        planner := (pressureFault s).planner
        stop := (raiseFault .coolantPressure .absent s).stop
        link := (pressureFault s).link } := by
  simp [pressureFault, State.eq_iff_blocks]

theorem pressureFault_sProg (s : State) : (pressureFault s).spindle.sProg = s.spindle.sProg := by
  simp [pressureFault]

theorem pressureFault_unheard {s : State} (h : s.planner.state = .idle) : (pressureFault s).planner = s.planner := by
  have hraised : (leaveTsc .faulted (raiseFault .coolantPressure .absent s)).planner = s.planner := by simp
  rw [pressureFault, raiseCause_unheard (.inl (hraised ▸ h)), hraised]

theorem pressureFault_active {s : State} (hrun : s.planner.state = .running) (hactive : s.planner.head = some .active) :
    (pressureFault s).planner.state = .holding
      ∧ (pressureFault s).planner.causes = { s.planner.causes with coolant := true } := by
  have hraised : (leaveTsc .faulted (raiseFault .coolantPressure .absent s)).planner = s.planner := by simp
  obtain ⟨hstate, hcauses, -⟩ := raiseCause_active (hraised ▸ hrun) (hraised ▸ hactive) .coolant
  exact ⟨hstate, hcauses.trans (by rw [hraised]; rfl)⟩

/-- Settles O40: the filter takes the sample, and BUILDING and READY each use it by the filtered pressure and the
count so far. -/
theorem pressureSampleFilters : Obligations.PressureSampleFilters := by
  unfold Obligations.PressureSampleFilters
  intro s code c hs hc
  have htsc : s.coolant.tsc = c.tsc := by rw [hc]
  have hmin : s.coolant.tscMin = c.tscMin := by rw [hc]
  have hrun : s.coolant.buildRun = c.buildRun := by rw [hc]
  have hloss : s.coolant.lossCount = c.lossCount := by rw [hc]
  have hlimit : s.coolant.unionLimit = c.unionLimit := by rw [hc]
  have hexec : exec (.pressureSample code) s = event (fun _ => useSample (sampled c s)) s := by rw [hc]; rfl
  have hkeeps : ∀ d : Coolant, Settled (sampled d s) := fun _ => hs.of_eq rfl rfl rfl
  rw [htsc, hmin, hrun, hloss, hlimit]
  refine ⟨fun hbuild hready => ?_, fun hbuild hlow => ?_, fun hbuild hhigh hshort => ?_, fun hbuild hhigh hfull => ?_,
    fun hready hhigh => ?_, fun hready hlow hshort => ?_, fun hready hlow hfull => ?_⟩
  · exact completes_event hexec (useSample_idle hbuild hready) (hkeeps _) rfl
  · exact completes_event hexec ((useSample_building hbuild).trans (if_pos hlow)) (hkeeps _) rfl
  · refine completes_event hexec ((useSample_building hbuild).trans ?_) (hkeeps _) rfl
    exact (if_neg (Nat.not_lt.2 hhigh)).trans (if_neg (Nat.not_le.2 hshort))
  · have huse : useSample (sampled c s) = tscReady (sampled { c with buildRun := 30 } s) :=
      (useSample_building hbuild).trans ((if_neg (Nat.not_lt.2 hhigh)).trans (if_pos hfull))
    obtain ⟨t, ht, hform, howes⟩ := event_next (f := fun _ => useSample (sampled c s)) (s := s)
      (by rw [huse]; exact hs.of_eq rfl rfl rfl)
    rw [huse] at hform howes
    refine ⟨t, hexec.trans ht, hform, howes.of_link_eq rfl, ?_, ?_⟩ <;> rw [hform]
    · rfl
    · simp [unionCeiling, tscReady, sampled]
  · exact completes_event hexec ((useSample_ready hready).trans (if_pos hhigh)) (hkeeps _) rfl
  · refine completes_event hexec ((useSample_ready hready).trans ?_) (hkeeps _) rfl
    exact (if_neg (Nat.not_le.2 hlow)).trans (if_neg (Nat.not_le.2 hshort))
  · have huse : useSample (sampled c s) = pressureFault (sampled { c with lossCount := 10 } s) :=
      (useSample_ready hready).trans ((if_neg (Nat.not_le.2 hlow)).trans (if_pos hfull))
    obtain ⟨t, ht, hform, -⟩ := event_next (f := fun _ => useSample (sampled c s)) (s := s)
      (by rw [huse]; exact (hkeeps { c with lossCount := 10 }).of_eq (by simp) (by simp) (by simp))
    rw [huse] at hform
    have hloses := pressureFault_eq (sampled { c with lossCount := 10 } s)
    have hoff : t.coolant.tsc = .faulted := by rw [hform, hloses]
    refine ⟨t, hexec.trans ht, ?_, ?_, by simp [tscPump, hoff], by simp [purgeValve, hoff], ?_, fun hidle => ?_,
      fun hrunning hactive => ?_⟩
    · rw [hform, hloses]
      rfl
    · rw [hasFault_of_stop_eq (s := raiseFault .coolantPressure .absent (sampled { c with lossCount := 10 } s))
        (by rw [hform, hloses])]
      exact hasFault_raiseFault ..
    · rw [hform]
      exact pressureFault_sProg _
    · rw [hform]
      exact pressureFault_unheard hidle
    · rw [hform]
      exact pressureFault_active (s := sampled { c with lossCount := 10 } s) hrunning hactive

end Sys2Proof.Machine

namespace Sys2Proof.Machine

/-! ## S_cmd stays formed through the coolant's answers to a change (R106, R152) -/

/-- S_cmd is the speed that R106 gives. -/
def CommandFormed (s : State) : Prop := s.spindle.sCmd = (commandedSpeed s s.spindle).1

theorem commandFormed_formSpeed (s : State) : CommandFormed (formSpeed s) := formSpeed_sCmd s

/-- What R106 reads is unchanged, the coolant counting only by its ceiling. -/
theorem CommandFormed.of_eq {s t : State} (h : CommandFormed s) (hsp : t.spindle = s.spindle) (hg : t.gear = s.gear)
    (hstop : t.stop = s.stop) (hpend : t.pendant = s.pendant) (hceil : unionCeiling t = unionCeiling s) :
    CommandFormed t := by
  unfold CommandFormed commandedSpeed currentRow at *
  rw [hsp, hg, hstop, hpend, hceil]
  exact h

theorem CommandFormed.leaveTsc {s : State} (h : CommandFormed s) (new : TscState) : CommandFormed (leaveTsc new s) := by
  unfold Machine.leaveTsc formIfCeiling
  split
  · next hceil => exact h.of_eq rfl rfl rfl rfl (by simpa using hceil)
  · exact commandFormed_formSpeed _

theorem CommandFormed.raiseCause {s : State} (h : CommandFormed s) (c : HoldCause) : CommandFormed (raiseCause c s) :=
  h.of_eq (by simp) (by simp) (by simp) (by simp) (by simp [unionCeiling])

theorem CommandFormed.stopTsc {s : State} (h : CommandFormed s) (new : TscState) : CommandFormed (stopTsc new s) := by
  unfold Machine.stopTsc
  split
  · exact (h.leaveTsc new).raiseCause _
  · exact h.leaveTsc new

theorem CommandFormed.startJudgement {s : State} (h : CommandFormed s) : CommandFormed (startJudgement s) := by
  unfold Machine.startJudgement
  split
  · exact h.leaveTsc _
  · split
    · exact h.stopTsc _
    · exact commandFormed_formSpeed _

theorem CommandFormed.placeTsc {s : State} (h : CommandFormed s) : CommandFormed (placeTsc s) := by
  unfold Machine.placeTsc
  split
  · exact h.stopTsc _
  · exact h.startJudgement

/-- A TSC that is neither SUSPENDED nor BLOCKED does not answer to the end of a change (R152). -/
theorem coolantChangeEnds_unheard {s : State} (h1 : s.coolant.tsc ≠ .suspended) (h2 : s.coolant.tsc ≠ .blocked) :
    coolantChangeEnds s = s := by
  unfold coolantChangeEnds
  split
  · exact absurd ‹_› h1
  · exact absurd ‹_› h2
  all_goals rfl

/-- The end of a change leaves TSC as it stands, or places it anew (R152). -/
theorem coolantChangeEnds_cases (s : State) : coolantChangeEnds s = s ∨ coolantChangeEnds s = placeTsc s := by
  unfold coolantChangeEnds
  split
  · exact .inr rfl
  · exact .inr rfl
  all_goals exact .inl rfl

theorem CommandFormed.coolantChangeEnds {s : State} (h : CommandFormed s) : CommandFormed (coolantChangeEnds s) := by
  rcases coolantChangeEnds_cases s with hc | hc <;> rw [hc]
  · exact h
  · exact h.placeTsc

theorem CommandFormed.stands {s : State} (h : CommandFormed s) (hprog : s.spindle.sProg = 0) : s.spindle.sCmd = 0 :=
  h.trans (commandedSpeed_zero hprog)

@[simp] theorem coolantChangeEnds_sProg (s : State) : (coolantChangeEnds s).spindle.sProg = s.spindle.sProg := by
  rcases coolantChangeEnds_cases s with hc | hc <;> rw [hc]
  unfold placeTsc
  split <;> simp

/-- A cause in the set stays there when TSC is placed anew (R39). -/
theorem coolantChangeEnds_gear (s : State) :
    (coolantChangeEnds s).planner.causes.gear = s.planner.causes.gear := by
  have hhas : (coolantChangeEnds s).planner.causes.has .gear = s.planner.causes.has .gear := by
    rcases coolantChangeEnds_cases s with hc | hc <;> rw [hc]
    unfold placeTsc
    split
    · unfold stopTsc
      split <;> simp [raiseCause_has]
    · exact startJudgement_has (by decide) s
  exact hhas

theorem commandFormed_setGearbox (g : Gearbox) (s : State) : CommandFormed (setGearbox g s) := commandFormed_formSpeed _

@[simp] theorem setGearbox_sProg (g : Gearbox) (s : State) : (setGearbox g s).spindle.sProg = s.spindle.sProg := by
  unfold setGearbox
  split <;> simp [zeroReference]

@[simp] theorem setGearbox_gear (g : Gearbox) (s : State) :
    (setGearbox g s).gear = { s.gear with gearbox := g } := by
  unfold setGearbox
  split <;> simp

/-! ## The creep and its end (R112, R133) -/

theorem endCreep_of_none {s : State} (h : s.gear.creep = none) : endCreep s = s := by simp [endCreep, h]

theorem endCreep_of_some {s : State} (h : s.gear.creep.isSome = true) :
    endCreep s = creepEnd { s with gear := { s.gear with creep := none } } := if_pos h

@[simp] theorem endCreep_gear (s : State) : (endCreep s).gear = { s.gear with creep := none } := by
  cases h : s.gear.creep with
  | none => rw [endCreep_of_none h, ← h]
  | some k => simp [endCreep_of_some (s := s) (by simp [h])]

@[simp] theorem withTarget_reference (s : State) (p : Spindle) :
    (withTarget s p).reference = p.reference ∧ (withTarget s p).phase = p.phase := by
  unfold withTarget
  split <;> simp [*]

@[simp] theorem settled_reference (s : State) (p : Spindle) : (settled s p).reference = p.reference := by
  unfold settled
  (repeat' split) <;> simp

/-- The settling of the direction begins no creep (R111). -/
theorem settled_phase {s : State} {p : Spindle} (h : p.phase ≠ .creep) : (settled s p).phase ≠ .creep := by
  unfold settled
  (repeat' split) <;> simp_all

/-- No creep is left: the reference at 0 and the phase not CREEP (R112). -/
def CreepOver (p : Spindle) : Prop := p.reference = 0 ∧ p.phase ≠ .creep

theorem creepOver_endCreep {s : State} (h : s.gear.creep.isSome = true) : CreepOver (endCreep s).spindle := by
  rw [endCreep_of_some h]
  exact ⟨by simp [creepEnd], settled_phase (by simp)⟩

theorem CreepOver.formSpeed {s : State} (h : CreepOver s.spindle) : CreepOver (formSpeed s).spindle := by
  obtain ⟨href, hphase⟩ := h
  exact ⟨by simpa [Machine.formSpeed, withSpeed] using href, settled_phase (by simpa using hphase)⟩

theorem CreepOver.setGearbox {s : State} (h : CreepOver s.spindle) (g : Gearbox) :
    CreepOver (setGearbox g s).spindle := by
  unfold Machine.setGearbox
  refine CreepOver.formSpeed ?_
  split
  · exact ⟨rfl, h.2⟩
  · exact h

end Sys2Proof.Machine

namespace Sys2Proof.Machine

/-! ## The time limit of a stroke (O43) -/

theorem strokeTimesOut_none {s : State} {f : ValveFunction}
    (h : ∀ r ∈ s.valve.requests, r.isActive = true → r.stroke.function ≠ f) : strokeTimesOut f s = s := by
  have hnone : activeRequest s f = none := by
    rw [activeRequest, List.find?_eq_none]
    intro r hr
    simpa using h r hr
  rw [strokeTimesOut, hnone]

/-- The state with the valve request list empty. -/
def noRequests (s : State) : State := { s with valve := { s.valve with requests := [] } }

/-- The time limit of the one request on the list ends its stroke with the list empty (R85, R90). -/
theorem strokeTimesOut_single {s : State} {k : Stroke} {p n : Nat} (h : s.valve.requests = [⟨k, p, .active n⟩]) :
    strokeTimesOut k.function s = grantOpportunity (strokeEnds k false s)
      ∧ removeRequest k.function s = noRequests s := by
  have hactive : activeRequest s k.function = some ⟨k, p, .active n⟩ := by simp [activeRequest, h, Request.isActive]
  refine ⟨by rw [strokeTimesOut, hactive], ?_⟩
  simp [removeRequest, noRequests, h]

/-- With the one request ACTIVE nothing waits, and nothing waits once it has left (R92). -/
theorem Settled.noRequests {s : State} (hs : Settled s) {k : Stroke} {p n : Nat}
    (h : s.valve.requests = [⟨k, p, .active n⟩]) : Settled (noRequests s) := by
  obtain ⟨hsite, hhydraulic⟩ := hs
  refine ⟨hsite.of_eq rfl rfl, ?_⟩
  simpa [HydraulicSettled, Machine.noRequests, h, Request.isActive] using hhydraulic

/-! ### A clamp -/

/-- A clamp's timeout: the fault, the clamp in FAULT, the cause, and the end of a motion that waited (R98). -/
theorem clampTimedOut_eq (a : Axis) (s : State) :
    clampTimedOut a s =
      endClampWait a (raiseCause .clamp ((raiseFault .clampTimeout (.axis a) s).setClamp a
        ⟨.fault, false, none, (s.clamp a).switchClosed⟩)) := by
  simp [clampTimedOut, setLinger, setReleasePending, setClampState, State.clamp]

theorem endClampWait_waiting {s : State} {a : Axis}
    (h : (s.axis a).motion = .jog .clampWait ∨ (s.axis a).motion = .reference .clampWait) :
    (endClampWait a s).axes = s.axes.set a { s.axis a with motion := .idle, velocity := 0 } := by
  rcases h with h | h
  · rw [endClampWait, h]
    simp [endMotion, jogEndedByStop_frame]
  · rw [endClampWait, h]
    simp [endMotion]

theorem endClampWait_other {s : State} {a : Axis} (h1 : (s.axis a).motion ≠ .jog .clampWait)
    (h2 : (s.axis a).motion ≠ .reference .clampWait) : endClampWait a s = s := by
  unfold endClampWait
  split
  · exact absurd ‹_› h1
  · exact absurd ‹_› h2
  · rfl

/-- The planner hears of a cause while a program is in progress (R39). -/
theorem raiseCause_heard {s : State}
    (h : s.planner.state = .running ∨ s.planner.state = .holding ∨ s.planner.state = .held) (c : HoldCause) :
    (raiseCause c s).planner.causes = s.planner.causes.put c true
      ∧ (raiseCause c s).planner.queue = s.planner.queue
      ∧ (raiseCause c s).planner.state =
          (if s.planner.state = .running then (if s.planner.head = some .active then .holding else .held)
          else s.planner.state) := by
  rcases h with h | h | h <;> simp [raiseCause, h]

/-- The one clamp stroke on the list runs out of time. -/
theorem strokeTimesOut_clamp {s : State} {a : Axis} {k n : Nat}
    (h : s.valve.requests = [⟨.release a, k, .active n⟩] ∨ s.valve.requests = [⟨.engage a, k, .active n⟩]) :
    strokeTimesOut (.clamp a) s = clampTimedOut a (noRequests s) ∧ (Settled s → Settled (noRequests s)) := by
  have hempty : grantOpportunity (clampTimedOut a (noRequests s)) = clampTimedOut a (noRequests s) :=
    grantOpportunity_nil (by simp [noRequests])
  rcases h with h | h
  · obtain ⟨hends, hleaves⟩ := strokeTimesOut_single h
    exact ⟨hends.trans ((congrArg (grantOpportunity ∘ clampTimedOut a) hleaves).trans hempty),
      fun hs => hs.noRequests h⟩
  · obtain ⟨hends, hleaves⟩ := strokeTimesOut_single h
    exact ⟨hends.trans ((congrArg (grantOpportunity ∘ clampTimedOut a) hleaves).trans hempty),
      fun hs => hs.noRequests h⟩

/-- A clamp with its timeout taken and its cause not yet raised (R98). -/
def clampFailed (a : Axis) (s : State) : State :=
  (raiseFault .clampTimeout (.axis a) (noRequests s)).setClamp a ⟨.fault, false, none, (s.clamp a).switchClosed⟩

theorem clampFailed_frame (a : Axis) (s : State) :
    (clampFailed a s).planner = s.planner ∧ (clampFailed a s).axes = s.axes ∧ (clampFailed a s).comp = s.comp
      ∧ (clampFailed a s).clamps = s.clamps.set a ⟨.fault, false, none, (s.clamp a).switchClosed⟩
      ∧ (clampFailed a s).valve = { s.valve with requests := [] } ∧ (clampFailed a s).spindle = s.spindle
      ∧ (clampFailed a s).gear = s.gear ∧ (clampFailed a s).coolant = s.coolant
      ∧ (clampFailed a s).pendant = s.pendant ∧ (clampFailed a s).clocks = s.clocks
      ∧ (clampFailed a s).pending = s.pending := by
  simp [clampFailed, noRequests]

theorem clampFailed_hasFault (a : Axis) (s : State) : hasFault (clampFailed a s) .clampTimeout (.axis a) = true :=
  hasFault_raiseFault .clampTimeout (.axis a) (noRequests s)

/-- An event ends with its effect and what ends every event. -/
theorem event_finish {f : State → State} {s u : State} (h : f s = u) : event f s = .next (finish s u) := by
  rw [← h]
  rfl

/-- The time limit of a clamp's stroke (R39, R90, R98). -/
theorem clampTimeout_ends {s : State} (hs : Settled s) {a : Axis} {k n : Nat}
    (h : s.valve.requests = [⟨.release a, k, .active n⟩] ∨ s.valve.requests = [⟨.engage a, k, .active n⟩]) :
    ∃ t, exec (.strokeTimeout (.clamp a)) s = .next t
      ∧ t =
          { s with
            axes := t.axes, clamps := t.clamps, valve := t.valve, planner := t.planner, pendant := t.pendant
            stop := t.stop, link := t.link }
      ∧ hasFault t .clampTimeout (.axis a) = true
      ∧ t.clamps = s.clamps.set a ⟨.fault, false, none, (s.clamp a).switchClosed⟩
      ∧ t.valve = { s.valve with requests := [] }
      ∧ ((s.axis a).motion = .jog .clampWait ∨ (s.axis a).motion = .reference .clampWait →
          t.axes = s.axes.set a { s.axis a with motion := .idle, velocity := 0 })
      ∧ ((s.axis a).motion ≠ .jog .clampWait → (s.axis a).motion ≠ .reference .clampWait →
          t.axes = s.axes ∧ t.pendant = s.pendant)
      ∧ t.planner = (raiseCause .clamp (clampFailed a s)).planner := by
  obtain ⟨hends, hempty⟩ := strokeTimesOut_clamp h
  obtain ⟨hplanner, haxes, hcomp, hclamps, hvalve, hspindle, hgear, hcoolant, hpendant, hclocks, hpending⟩ :=
    clampFailed_frame a s
  have hout : strokeTimesOut (.clamp a) s = endClampWait a (raiseCause .clamp (clampFailed a s)) :=
    hends.trans (clampTimedOut_eq a _)
  have hsettled : HydraulicSettled (endClampWait a (raiseCause .clamp (clampFailed a s))) :=
    (hempty hs).2.of_eq (by simp [hvalve, noRequests])
  have haxis : (raiseCause .clamp (clampFailed a s)).axis a = s.axis a := by simp [State.axis, haxes]
  refine ⟨finish s (endClampWait a (raiseCause .clamp (clampFailed a s))), event_finish hout, ?_,
    ?_, ?_, ?_, fun hwait => ?_, fun hjog href => ?_, ?_⟩
  · simp [State.eq_iff_blocks, hcomp, hspindle, hgear, hcoolant, hclocks, hpending]
  · rw [hasFault_of_stop_eq (s := clampFailed a s) (by simp)]
    exact clampFailed_hasFault a s
  · simp [hclamps]
  · rw [finish_valve hsettled]
    simp [hvalve]
  · rw [← haxis] at hwait
    simp [endClampWait_waiting hwait, haxes, haxis]
  · rw [← haxis] at hjog href
    rw [endClampWait_other hjog href]
    have hsite : SiteSettled (raiseCause .clamp (clampFailed a s)) := hs.1.of_eq (by simp [hpendant]) (by simp [haxes])
    simp [finish, siteReturn_eq_self hsite, haxes, hpendant]
  · simp

end Sys2Proof.Machine

namespace Sys2Proof.Machine

/-! ### A fork (R135, R139) -/

/-- The one fork stroke on the list runs out of time. -/
theorem strokeTimesOut_fork {s : State} {k : ForkStroke} {p n : Nat}
    (h : s.valve.requests = [⟨.fork k, p, .active n⟩]) :
    strokeTimesOut (Stroke.fork k).function s = grantOpportunity (forkOutcome false (noRequests s)) := by
  obtain ⟨hends, hleaves⟩ := strokeTimesOut_single h
  rw [hends, strokeEnds, hleaves]

/-- The state with one more failed attempt counted and the creep ended (R135). -/
def attemptCounted (s : State) : State :=
  { endCreep s with gear := { s.gear with creep := none, attempts := min 255 (s.gear.attempts + 1) } }

/-- A failed attempt is followed by a pause, or by GEAR_FAULT at retry_limit (R135). -/
theorem failedAttempt_eq (s : State) :
    failedAttempt s =
      if s.gear.retryLimit = 0 ∨ min 255 (s.gear.attempts + 1) < s.gear.retryLimit then
        { attemptCounted s with
          gear := { (attemptCounted s).gear with step := .pause, pauseTimer := some 500 } }
      else gearFault (attemptCounted s) := by
  simp [failedAttempt, attemptCounted]

/-- GEAR_FAULT ends the change with the gearbox held UNKNOWN (R125, R135). -/
theorem gearFault_gear (s : State) :
    (gearFault s).gear =
      { s.gear with
        step := .idle, target := none, owner := none, stroke := none, held := true, gearbox := .unknown } := by
  unfold gearFault
  split <;> simp [gearStop, holdGearbox]

theorem gearFault_hasFault {s : State} {k : ForkStroke} (h : s.gear.stroke = some k) :
    hasFault (gearFault s) .gearFault (.fork k.fork) = true := by
  rw [hasFault_of_stop_eq (s := raiseFault .gearFault (.fork k.fork) s)]
  · exact hasFault_raiseFault ..
  · cases k <;> simp [gearFault, h, ForkStroke.fork]

/-- GEAR_FAULT leaves the spindle with no command (R135). -/
theorem gearFault_stands (s : State) : (gearFault s).spindle.sProg = 0 ∧ (gearFault s).spindle.sCmd = 0 := by
  have hprog : (gearFault s).spindle.sProg = 0 := by simp [gearFault, gearStop]
  refine ⟨hprog, CommandFormed.stands ?_ hprog⟩
  exact ((commandFormed_formSpeed _).raiseCause _).coolantChangeEnds

theorem gearFault_cause {s : State} (h : s.planner.state = .running) : (gearFault s).planner.causes.gear = true := by
  unfold gearFault
  rw [coolantChangeEnds_gear, (raiseCause_heard (.inl ?_) .gear).1]
  · rfl
  · split <;> simpa using h

@[simp] theorem attemptCounted_frame (s : State) :
    (attemptCounted s).link = s.link ∧ (attemptCounted s).planner = s.planner ∧ (attemptCounted s).axes = s.axes
      ∧ (attemptCounted s).comp = s.comp ∧ (attemptCounted s).clamps = s.clamps
      ∧ (attemptCounted s).valve = s.valve ∧ (attemptCounted s).spindle = (endCreep s).spindle
      ∧ (attemptCounted s).coolant = s.coolant ∧ (attemptCounted s).pendant = s.pendant
      ∧ (attemptCounted s).stop = s.stop ∧ (attemptCounted s).clocks = s.clocks
      ∧ (attemptCounted s).pending = s.pending := by
  simp [attemptCounted]

/-- An aborted change at its end, before the coolant hears of it (R124, R139). -/
def changeEnded (s : State) : State :=
  deriveState
    { s with
      gear := { s.gear with step := .idle, target := none, owner := none, stroke := none, pauseTimer := none } }

theorem changeEnded_gear (s : State) :
    (changeEnded s).gear =
      { s.gear with
        step := .idle, target := none, owner := none, stroke := none, pauseTimer := none
        gearbox := deriveGearbox s.gear.switches } := by
  simp [changeEnded]

@[simp] theorem changeEnded_frame (s : State) :
    (changeEnded s).link = s.link ∧ (changeEnded s).planner = s.planner ∧ (changeEnded s).axes = s.axes
      ∧ (changeEnded s).comp = s.comp ∧ (changeEnded s).clamps = s.clamps ∧ (changeEnded s).valve = s.valve
      ∧ (changeEnded s).coolant = s.coolant ∧ (changeEnded s).pendant = s.pendant
      ∧ (changeEnded s).stop = s.stop ∧ (changeEnded s).clocks = s.clocks
      ∧ (changeEnded s).pending = s.pending := by
  simp [changeEnded]

@[simp] theorem changeEnded_sProg (s : State) : (changeEnded s).spindle.sProg = s.spindle.sProg := by
  simp [changeEnded]

/-- With no command deferred the end of an aborted change is the gearbox derived anew, and the coolant's answer
(R124, R139). -/
theorem endAbortedChange_undeferred {s : State} (h : s.gear.deferred = none) :
    endAbortedChange s = coolantChangeEnds (changeEnded s) := by
  simp [endAbortedChange, takeDeferred, changeEnded, h]

/-- The time limit in STROKE with attempts left: a pause of 500 ms (R135). -/
theorem forkTimeout_pauses {s : State} (hs : Settled s) {k : ForkStroke} {p n : Nat}
    (h : s.valve.requests = [⟨.fork k, p, .active n⟩]) (hstep : s.gear.step = .stroke)
    (hleft : s.gear.retryLimit = 0 ∨ s.gear.attempts + 1 < s.gear.retryLimit) :
    ∃ t, exec (.strokeTimeout (Stroke.fork k).function) s = .next t
      ∧ t = { s with gear := t.gear, valve := t.valve, spindle := t.spindle, link := t.link } ∧ Owes s t [] []
      ∧ t.gear =
          { s.gear with
            step := .pause, pauseTimer := some 500, attempts := min 255 (s.gear.attempts + 1), creep := none }
      ∧ t.valve = { s.valve with requests := [] }
      ∧ t.spindle = (endCreep (noRequests s)).spindle := by
  have hout : strokeTimesOut (Stroke.fork k).function s =
      { attemptCounted (noRequests s) with
        gear := { (attemptCounted (noRequests s)).gear with step := .pause, pauseTimer := some 500 } } := by
    have hpauses := (failedAttempt_eq (noRequests s)).trans (if_pos (hleft.imp_right fun hlt => by
      show min 255 (s.gear.attempts + 1) < s.gear.retryLimit
      omega))
    have hfork : forkOutcome false (noRequests s) = failedAttempt (noRequests s) := by
      simp [forkOutcome, noRequests, hstep]
    rw [strokeTimesOut_fork h, hfork, hpauses]
    exact grantOpportunity_nil (by simp [noRequests])
  obtain ⟨t, ht, hform, howes⟩ := event_next (f := strokeTimesOut (Stroke.fork k).function) (s := s)
    (by rw [hout]; exact (hs.noRequests h).of_eq (by simp) (by simp) (by simp))
  rw [hout] at hform howes
  refine ⟨t, ht, ?_, howes.of_link_eq (by simp [noRequests]), ?_, ?_, ?_⟩ <;> rw [hform]
  · simp [noRequests]
  · simp [noRequests, attemptCounted]
  · simp [noRequests]
  · simp

/-- The time limit in STROKE at retry_limit: GEAR_FAULT (R135). -/
theorem forkTimeout_faults {s : State} (hs : Settled s) {k : ForkStroke} {p n : Nat}
    (h : s.valve.requests = [⟨.fork k, p, .active n⟩]) (hstep : s.gear.step = .stroke)
    (hlimit : s.gear.retryLimit ≠ 0) (hsmall : s.gear.retryLimit ≤ 8)
    (hspent : s.gear.retryLimit ≤ s.gear.attempts + 1) :
    ∃ t, exec (.strokeTimeout (Stroke.fork k).function) s = .next t
      ∧ t = { gearFault (attemptCounted (noRequests s)) with link := t.link } := by
  have hout : strokeTimesOut (Stroke.fork k).function s = gearFault (attemptCounted (noRequests s)) := by
    have hfaults := (failedAttempt_eq (noRequests s)).trans (if_neg (not_or.2 ⟨hlimit, by
      show ¬min 255 (s.gear.attempts + 1) < s.gear.retryLimit
      omega⟩))
    have hfork : forkOutcome false (noRequests s) = failedAttempt (noRequests s) := by
      simp [forkOutcome, noRequests, hstep]
    rw [strokeTimesOut_fork h, hfork, hfaults]
    exact grantOpportunity_nil (by simp [noRequests])
  obtain ⟨t, ht, hform, -⟩ := event_next (f := strokeTimesOut (Stroke.fork k).function) (s := s)
    (by rw [hout]; exact (hs.noRequests h).of_eq (by simp) (by simp) (by simp))
  exact ⟨t, ht, hout ▸ hform⟩

/-- The time limit in ENDING: the change ends, with no attempt counted and no fault (R139). -/
theorem forkTimeout_ends {s : State} (hs : Settled s) {k : ForkStroke} {p n : Nat}
    (h : s.valve.requests = [⟨.fork k, p, .active n⟩]) (hstep : s.gear.step = .ending)
    (hdeferred : s.gear.deferred = none) :
    ∃ t, exec (.strokeTimeout (Stroke.fork k).function) s = .next t
      ∧ t = { coolantChangeEnds (changeEnded (noRequests s)) with link := t.link }
      ∧ Owes (coolantChangeEnds (changeEnded (noRequests s))) t [] [] := by
  have hout : strokeTimesOut (Stroke.fork k).function s = coolantChangeEnds (changeEnded (noRequests s)) := by
    have hfork : forkOutcome false (noRequests s) = endAbortedChange (noRequests s) := by
      simp [forkOutcome, noRequests, hstep]
    rw [strokeTimesOut_fork h, hfork, endAbortedChange_undeferred (s := noRequests s) hdeferred]
    exact grantOpportunity_nil (by simp [noRequests])
  obtain ⟨t, ht, hform, howes⟩ := event_next (f := strokeTimesOut (Stroke.fork k).function) (s := s)
    (by
      rw [hout]
      exact (hs.noRequests h).of_eq (by simp) (by simp) (by simp))
  exact ⟨t, ht, hout ▸ hform, hout ▸ howes⟩

/-- Settles O43: a stroke of no request, a clamp's, and a fork's in STROKE with and without attempts left, and in
ENDING. -/
theorem strokeTimeoutEnds : Obligations.StrokeTimeoutEnds := by
  unfold Obligations.StrokeTimeoutEnds
  intro s hs
  refine ⟨fun f h => ?_, fun a k n h => ?_, fun k p n h hstep hleft => ?_,
    fun k p n h hstep hstroke hlimit hsmall hspent => ?_, fun k p n h hstep hdeferred => ?_⟩
  · exact completes_event (f := strokeTimesOut f) rfl (strokeTimesOut_none h) hs rfl
  · obtain ⟨t, ht, hform, hfault, hclamps, hvalve, hwait, hother, hplanner⟩ := clampTimeout_ends hs h
    have hfailed : (clampFailed a s).planner = s.planner := (clampFailed_frame a s).1
    refine ⟨t, ht, hform, hfault, hclamps, hvalve, hwait, hother, fun hquiet => ?_, fun hprogram => ?_⟩
    · rw [hplanner, raiseCause_unheard (hfailed ▸ hquiet), hfailed]
    · obtain ⟨hcauses, hqueue, hstate⟩ := raiseCause_heard (hfailed ▸ hprogram) .clamp
      rw [hplanner, hcauses, hqueue, hstate, hfailed]
      exact ⟨rfl, rfl, rfl⟩
  · obtain ⟨t, ht, hform, howes, hgear, hvalve, hspindle⟩ := forkTimeout_pauses hs h hstep hleft
    refine ⟨t, ht, hform, howes, hgear, hvalve, fun hnone => ?_, fun hcreep => ?_⟩
    · rw [hspindle, endCreep_of_none (s := noRequests s) hnone]
      rfl
    · rw [hspindle]
      exact creepOver_endCreep hcreep
  · obtain ⟨t, ht, hform⟩ := forkTimeout_faults hs h hstep hlimit hsmall hspent
    obtain ⟨hprog, hcmd⟩ := gearFault_stands (attemptCounted (noRequests s))
    have hgear := gearFault_gear (attemptCounted (noRequests s))
    refine ⟨t, ht, ?_, ?_⟩
    · rw [hasFault_of_stop_eq (s := gearFault (attemptCounted (noRequests s))) (by rw [hform])]
      exact gearFault_hasFault hstroke
    · rw [hform]
      refine ⟨by rw [hgear], by rw [hgear], by rw [hgear], by rw [hgear], by rw [hgear], ?_, ?_, hprog, hcmd,
        ?_, ?_, ?_, ?_, fun hrun => ?_⟩
      · rw [hgear]; rfl
      · rw [hgear]; rfl
      · simp [noRequests]
      · simp [noRequests]
      · simp [noRequests]
      · simp [noRequests]
      · exact gearFault_cause (s := attemptCounted (noRequests s)) (by simpa [noRequests] using hrun)
  · obtain ⟨t, ht, hform, howes⟩ := forkTimeout_ends hs h hstep hdeferred
    have hformed : CommandFormed (coolantChangeEnds (changeEnded (noRequests s))) :=
      (commandFormed_setGearbox _ _).coolantChangeEnds
    refine ⟨t, ht, ?_, ?_, ?_, ?_, ?_, fun hsuspended hblocked => ?_⟩
    · rw [hform]
      simp [noRequests]
    · rw [hform]
      simp [changeEnded_gear, noRequests]
    · rw [hform]
      simp [noRequests]
    · rw [hform]
      simp [noRequests]
    · exact hformed.of_eq (by rw [hform]) (by rw [hform]) (by rw [hform]) (by rw [hform]) (by rw [hform]; rfl)
    · have hquiet : coolantChangeEnds (changeEnded (noRequests s)) = changeEnded (noRequests s) :=
        coolantChangeEnds_unheard (by simpa [noRequests] using hsuspended)
          (by simpa [noRequests] using hblocked)
      rw [hquiet] at hform howes
      refine ⟨?_, ?_, howes.of_link_eq ?_⟩
      · rw [hform]; simp [noRequests]
      · rw [hform]; simp [noRequests]
      · simp [noRequests]

end Sys2Proof.Machine

namespace Sys2Proof.Machine

/-! ## The completion of an abort, and its reports (R46) -/

/-- What the host hears of an abort that completes at once: the head ABORTED, where there is one, and the rest in one
FLUSHED (R46). -/
def abortReports : List Entry → List EventReport
  | [] => [.flushed []]
  | e :: rest => [.entryDone e.tag e.body.kind .aborted, .flushed (rest.map Entry.tag)]

/-- The axes once an abort has completed: the head that leaves gives up the claims (R46). -/
def abortedAxes (s : State) : PerAxis AxisUnit :=
  if s.planner.queue = [] then s.axes else s.axes.map fun u => { u with claim := false }

theorem completeAbort_axes (s : State) : (completeAbort false s).axes = abortedAxes s := by
  unfold completeAbort headLeaves abortedAxes
  cases h : s.planner.queue <;> simp [releaseClaims]

theorem completeAbort_eq (s : State) :
    completeAbort false s =
      { s with axes := abortedAxes s, planner := idlePlanner [], link := (completeAbort false s).link } := by
  simp [State.eq_iff_blocks, completeAbort_axes]

/-- A report takes one place of the room (R198). -/
theorem EventRoom.placeEvent {s : State} {n : Nat} (h : EventRoom s (n + 1)) (e : EventReport) :
    EventRoom (placeEvent e s) n := by
  have hlt : s.link.events.length < Config.eventQueueCapacity := by unfold EventRoom at h; omega
  simp only [EventRoom, Machine.placeEvent, hlt, if_true, List.length_append, List.length_singleton] at h ⊢
  omega

theorem EventRoom.le {s : State} {m n : Nat} (h : EventRoom s n) (hmn : m ≤ n) : EventRoom s m :=
  (Nat.add_le_add_left hmn _).trans h

/-- Forgetting the link, what is owed since an earlier state is what is owed since the later one (R197, R198). -/
theorem placeEvent_owes_since {s t : State} (h : EventRoom s 1) (hl : t.link = s.link) (e : EventReport) :
    Owes s (placeEvent e t) [] [e] :=
  (placeEvent_owes (s := t) (by unfold EventRoom at *; rwa [hl]) e).of_link_eq hl

theorem completeAbort_owes {s : State} (h : EventRoom s (abortReports s.planner.queue).length) :
    Owes s (completeAbort false s) [] (abortReports s.planner.queue) := by
  cases hq : s.planner.queue with
  | nil =>
    rw [hq] at h
    have hreport : completeAbort false s = enterIdle (flushQueue s) := by simp [completeAbort, headLeaves, hq]
    rw [hreport, flushQueue, hq]
    exact placeEvent_owes_since h rfl _
  | cons e rest =>
    rw [hq] at h
    have hhead : Owes s (headLeaves .aborted s) [] [.entryDone e.tag e.body.kind .aborted]
        ∧ EventRoom (headLeaves .aborted s) 1 ∧ (headLeaves .aborted s).planner.queue = rest := by
      rw [headLeaves, hq]
      exact ⟨placeEvent_owes_since (h.le (by simp [abortReports])) rfl _, EventRoom.placeEvent (n := 1) h _,
        by simp⟩
    obtain ⟨howes, hroom, hrest⟩ := hhead
    refine howes.trans (?_ : Owes _ _ [] [.flushed (rest.map Entry.tag)])
    rw [completeAbort, flushQueue, if_neg (by decide), hrest]
    exact placeEvent_owes_since hroom rfl _

/-! ## The planner's part of an Abort, by its state (R45) -/

theorem plannerAbort_idle {s : State} (h : s.planner.state = .idle) : plannerAbort s = completeAbort false s := by
  simp [plannerAbort, h]

theorem plannerAbort_aborting {s : State} (h : s.planner.state = .aborting) : plannerAbort s = s := by
  simp [plannerAbort, h]

theorem plannerAbort_brakes {s : State}
    (h : s.planner.state = .running ∨ s.planner.state = .holding ∨ s.planner.state = .held)
    (hmove : activeMove s = true) (hv : pathVelocity s ≠ 0) :
    plannerAbort s = { s with planner := { s.planner with state := .aborting } } := by
  rcases h with h | h | h <;> simp [plannerAbort, brakeOrAbort, h, hmove, hv]

theorem plannerAbort_completes {s : State}
    (h : s.planner.state = .running ∨ s.planner.state = .holding ∨ s.planner.state = .held)
    (hstill : activeMove s = false ∨ pathVelocity s = 0) : plannerAbort s = completeAbort false s := by
  have hnot : (activeMove s && pathVelocity s != 0) = false := by rcases hstill with h | h <;> simp [h]
  rcases h with h | h | h <;> simp [plannerAbort, brakeOrAbort, h, hnot]

/-! ## A reference run that hears of an Abort (R15) -/

/-- An Axis Unit once its reference run has heard of an Abort: in CLAMP_WAIT it ends, in MOVING it brakes (R15). -/
def AxisUnit.runAborted (u : AxisUnit) : AxisUnit :=
  match u.motion with
  | .reference .clampWait => { u with motion := .idle, velocity := 0 }
  | .reference .moving => { u with motion := .reference .stopping }
  | _ => u

theorem abortReference_axes (a : Axis) (s : State) :
    (abortReference a s).axes = s.axes.set a (s.axis a).runAborted := by
  unfold abortReference AxisUnit.runAborted
  split <;> simp_all [endMotion, State.axis, PerAxis.set_get]

theorem abortReference_all (s : State) :
    eachAxis abortReference s = { s with axes := s.axes.map AxisUnit.runAborted } := by
  have haxes : (eachAxis abortReference s).axes = s.axes.map AxisUnit.runAborted := by
    refine PerAxis.ext_get fun c => ?_
    rw [PerAxis.get_map]
    simp only [eachAxis, abortReference_axes, State.axis]
    cases c <;> rfl
  simp only [State.eq_iff_blocks, haxes]
  simp [eachAxis]

theorem runAborted_other {u : AxisUnit} (h : u.motion.isReference = false) : u.runAborted = u := by
  unfold AxisUnit.runAborted
  split <;> simp_all [LocalMotion.isReference]

/-- No run, nothing to hear. -/
theorem abortReference_quiet {s : State} (h : anyReference s = false) : eachAxis abortReference s = s := by
  rw [abortReference_all]
  have haxes : s.axes.map AxisUnit.runAborted = s.axes := by
    refine PerAxis.ext_get fun c => ?_
    rw [PerAxis.get_map]
    refine runAborted_other (Bool.eq_false_iff.2 fun hrun => ?_)
    rw [anyReference_eq_true hrun] at h
    cases h
  rw [haxes]

end Sys2Proof.Machine

namespace Sys2Proof.Machine

/-! ## A range change that hears of an Abort (R139) -/

/-- A change that hears of an abort, before its step is looked at: the creep ended, S_prog 0, no owner and no deferred
command (R139). -/
def changeAborted (s : State) : State :=
  { gearStop (endCreep s) with gear := { s.gear with creep := none, owner := none, deferred := none } }

@[simp] theorem changeAborted_frame (s : State) :
    (changeAborted s).link = s.link ∧ (changeAborted s).planner = s.planner ∧ (changeAborted s).axes = s.axes
      ∧ (changeAborted s).comp = s.comp ∧ (changeAborted s).clamps = s.clamps ∧ (changeAborted s).valve = s.valve
      ∧ (changeAborted s).coolant = s.coolant ∧ (changeAborted s).pendant = s.pendant
      ∧ (changeAborted s).stop = s.stop ∧ (changeAborted s).clocks = s.clocks
      ∧ (changeAborted s).pending = s.pending := by
  simp [changeAborted]

/-- The spindle of an aborted change: no command, and no creep where one ran (R112, R139). -/
def SpindleDropped (s : State) (p : Spindle) : Prop :=
  p.sProg = 0 ∧ p.sCmd = 0 ∧ (s.gear.creep.isSome = true → CreepOver p)

theorem spindleDropped_changeAborted (s : State) : SpindleDropped s (changeAborted s).spindle := by
  have hprog : (gearStop (endCreep s)).spindle.sProg = 0 := by simp [gearStop]
  refine ⟨hprog, CommandFormed.stands (s := gearStop (endCreep s)) (commandFormed_formSpeed _) hprog,
    fun hcreep => ?_⟩
  exact CreepOver.formSpeed (s := { endCreep s with spindle := { (endCreep s).spindle with sProg := 0 } })
    (creepOver_endCreep hcreep)

theorem SpindleDropped.changeEnded {s t : State} (h : SpindleDropped s t.spindle) :
    SpindleDropped s (changeEnded t).spindle := by
  obtain ⟨hprog, -, hcreep⟩ := h
  have hended : (Machine.changeEnded t).spindle.sProg = 0 := by simpa using hprog
  refine ⟨hended, CommandFormed.stands (commandFormed_setGearbox _ _) hended, fun hc => ?_⟩
  exact CreepOver.setGearbox (s := { t with
    gear := { t.gear with step := .idle, target := none, owner := none, stroke := none, pauseTimer := none } })
    (hcreep hc) _

/-- In STOPPING and PAUSE the change ends at once (R139). -/
theorem gearAbort_ends {s : State} (h : s.gear.step = .stopping ∨ s.gear.step = .pause)
    (h1 : s.coolant.tsc ≠ .suspended) (h2 : s.coolant.tsc ≠ .blocked) :
    gearAbort s = changeEnded (changeAborted s) := by
  have hends : gearAbort s = endAbortedChange (changeAborted s) := by
    rcases h with h | h <;> simp [gearAbort, changeAborted, h]
  rw [hends, endAbortedChange_undeferred rfl, coolantChangeEnds_unheard (by simpa using h1) (by simpa using h2)]

/-- In STROKE and ENDING the request is left to come to its end (R139). -/
theorem gearAbort_waits {s : State} (h : s.gear.step = .stroke ∨ s.gear.step = .ending) :
    gearAbort s = { changeAborted s with gear := { (changeAborted s).gear with step := .ending } } := by
  rcases h with h | h <;> simp [gearAbort, changeAborted, h]

/-- A change in progress that hears of an Abort, with no TSC to place anew: the spindle and the gears alone change. -/
theorem gearAbort_change {s : State} (hstep : s.gear.step ≠ .idle) (h1 : s.coolant.tsc ≠ .suspended)
    (h2 : s.coolant.tsc ≠ .blocked) :
    gearAbort s = { s with spindle := (gearAbort s).spindle, gear := (gearAbort s).gear }
      ∧ SpindleDropped s (gearAbort s).spindle
      ∧ (s.gear.step = .stopping ∨ s.gear.step = .pause →
          (gearAbort s).gear =
            { s.gear with
              step := .idle, target := none, owner := none, stroke := none, pauseTimer := none, creep := none
              deferred := none, gearbox := deriveGearbox s.gear.switches })
      ∧ (s.gear.step = .stroke ∨ s.gear.step = .ending →
          (gearAbort s).gear = { s.gear with step := .ending, owner := none, deferred := none, creep := none }) := by
  have hsteps : (s.gear.step = .stopping ∨ s.gear.step = .pause)
      ∨ s.gear.step = .stroke ∨ s.gear.step = .ending := by
    cases h : s.gear.step <;> simp_all
  have hdropped := spindleDropped_changeAborted s
  rcases hsteps with h | h
  · rw [gearAbort_ends h h1 h2]
    refine ⟨by simp [State.eq_iff_blocks], hdropped.changeEnded, fun _ => changeEnded_gear _, fun hother => ?_⟩
    rcases h with h | h <;> rcases hother with k | k <;> cases h.symm.trans k
  · rw [gearAbort_waits h]
    refine ⟨by simp, hdropped, fun hother => ?_, fun _ => rfl⟩
    rcases h with h | h <;> rcases hother with k | k <;> cases h.symm.trans k

/-! ## The Abort order (O16) -/

/-- An Abort that leaves a settled state completes with its effect, its reports and the planner's state. -/
theorem abort_next {s : State} {e : List EventReport} {tag : Tag} (hreply : ReplyRoom s)
    (hu : Settled (abortProgram s)) (howes : Owes s (abortProgram s) [] e) :
    ∃ t, exec (.abort tag []) s = .next t ∧ t = { abortProgram s with link := t.link }
      ∧ Owes s t [.accept tag (.planner (abortProgram s).planner.state)] e := by
  obtain ⟨t, ht, hform, howed⟩ := order_next (kind := 0x12) (tag := tag) (owner := abortOrder []) (s := s)
    (u := abortProgram s) hreply rfl hu
  have hboth := howes.trans howed
  rw [List.nil_append, List.append_nil] at hboth
  exact ⟨t, ht, hform, hboth⟩

theorem completes_abort {s u : State} {e : List EventReport} {tag : Tag} (hreply : ReplyRoom s)
    (h : abortProgram s = { u with link := (abortProgram s).link }) (hu : Settled u)
    (howes : Owes s (abortProgram s) [] e) :
    Completes (.abort tag []) s u [.accept tag (.planner u.planner.state)] e := by
  have hsettled : Settled (abortProgram s) := hu.of_eq (by rw [h]) (by rw [h]) (by rw [h])
  obtain ⟨t, ht, hform, howed⟩ := abort_next (tag := tag) hreply hsettled howes
  have hplanner : (abortProgram s).planner = u.planner := by rw [h]
  refine ⟨t, ht, ?_, hplanner ▸ howed⟩
  rw [h] at hform
  exact hform

/-- With no change in progress the planner's part is all there is outside IDLE, and in IDLE the runs hear
first (R15). -/
theorem abortProgram_quiet {s : State} (hstep : s.gear.step = .idle) :
    abortProgram s = plannerAbort (if s.planner.state == .idle then eachAxis abortReference s else s) := by
  simp [abortProgram, gearAbort, hstep]

theorem abortProgram_unheard {s : State} (hstep : s.gear.step = .idle)
    (h : s.planner.state ≠ .idle ∨ anyReference s = false) : abortProgram s = plannerAbort s := by
  rw [abortProgram_quiet hstep]
  split
  · next hidle =>
    rw [abortReference_quiet (h.resolve_left fun hne => hne (by simpa using hidle))]
  · rfl

/-- An abort that completes at once, with no reference run to hear of it. -/
theorem completes_abort_at_once {s : State} {tag : Tag} (hs : Settled s) (hreply : ReplyRoom s)
    (h : abortProgram s = completeAbort false s) (hroom : EventRoom s (abortReports s.planner.queue).length) :
    Completes (.abort tag []) s { s with axes := abortedAxes s, planner := idlePlanner [] }
      [.accept tag (.planner .idle)] (abortReports s.planner.queue) := by
  refine completes_abort hreply ?_ (hs.of_blocks rfl rfl fun a => ?_) (h ▸ completeAbort_owes hroom)
  · rw [h]
    exact completeAbort_eq s
  · simp only [State.axis, abortedAxes]
    split <;> simp

end Sys2Proof.Machine

namespace Sys2Proof.Machine

/-- What an Abort in IDLE leaves of an Axis Unit: its run has heard, and a head that leaves takes the claim (R15,
R46). -/
theorem abortIdle_axis (s : State) (a : Axis) :
    (completeAbort false (eachAxis abortReference s)).axis a =
      { (s.axis a).runAborted with claim := if s.planner.queue = [] then (s.axis a).claim else false } := by
  have hclaim : (s.axis a).runAborted.claim = (s.axis a).claim := by
    unfold AxisUnit.runAborted
    split <;> rfl
  rw [abortReference_all, State.axis, completeAbort_axes, abortedAxes]
  split
  · rw [PerAxis.get_map, ← hclaim]
    rfl
  · rw [PerAxis.get_map, PerAxis.get_map]
    rfl

/-- What hearing of an Abort changes of an Axis Unit, by its motion (R15). -/
theorem runAborted_fields (u : AxisUnit) :
    u.runAborted = { u with motion := u.runAborted.motion, velocity := u.runAborted.velocity }
      ∧ (u.motion = .reference .clampWait → u.runAborted.motion = .idle ∧ u.runAborted.velocity = 0)
      ∧ (u.motion = .reference .moving ∨ u.motion = .reference .stopping →
          u.runAborted.motion = .reference .stopping ∧ u.runAborted.velocity = u.velocity)
      ∧ (u.motion.isReference = false → u.runAborted.motion = u.motion ∧ u.runAborted.velocity = u.velocity) := by
  unfold AxisUnit.runAborted
  split <;> simp_all [LocalMotion.isReference]

/-- An Abort in IDLE with no change in progress (R15, R45). -/
theorem abortIdle_next {s : State} {tag : Tag} (hs : Settled s) (hreply : ReplyRoom s)
    (hidle : s.planner.state = .idle) (hstep : s.gear.step = .idle) (hsite : s.pendant.withdrawing = false)
    (hroom : EventRoom s (abortReports s.planner.queue).length) :
    ∃ t, exec (.abort tag []) s = .next t
      ∧ t = { s with axes := t.axes, planner := idlePlanner [], link := t.link }
      ∧ Owes s t [.accept tag (.planner .idle)] (abortReports s.planner.queue)
      ∧ ∀ a, t.axis a =
          { (s.axis a).runAborted with claim := if s.planner.queue = [] then (s.axis a).claim else false } := by
  have hform : abortProgram s = completeAbort false (eachAxis abortReference s) := by
    rw [abortProgram_quiet hstep, if_pos (by simp [hidle]), plannerAbort_idle (by simp [abortReference_all, hidle])]
  have hsettled : Settled (abortProgram s) := by
    rw [hform, abortReference_all]
    exact ⟨fun hw => by simp [hsite] at hw, hs.2.of_eq (by simp)⟩
  have howes : Owes s (abortProgram s) [] (abortReports s.planner.queue) := by
    rw [hform, abortReference_all]
    exact (completeAbort_owes (s := { s with axes := s.axes.map AxisUnit.runAborted }) hroom).of_link_eq rfl
  obtain ⟨t, ht, hnext, howed⟩ := abort_next (tag := tag) hreply hsettled howes
  have hplanner : (abortProgram s).planner.state = .idle := by rw [hform]; simp [idlePlanner]
  rw [hplanner] at howed
  refine ⟨t, ht, ?_, howed, fun a => ?_⟩
  · rw [hnext, hform, abortReference_all]
    simp
  · rw [hnext, hform]
    exact abortIdle_axis s a

/-- The planner's part of an Abort moves no local motion (R46). -/
theorem plannerAbort_motion (s : State) (a : Axis) : ((plannerAbort s).axis a).motion = (s.axis a).motion := by
  have hends : ((completeAbort false s).axis a).motion = (s.axis a).motion := by
    obtain ⟨k, hk⟩ := completeAbort_axis false s a
    rw [hk]
  have hbrakes : ((brakeOrAbort s).axis a).motion = (s.axis a).motion := by
    unfold brakeOrAbort
    split
    · rfl
    · exact hends
  unfold plannerAbort
  split <;> simp [hends, hbrakes]

/-- The state in which the planner takes an Abort: a change in progress has heard of it, and in IDLE so have the runs
(R15, R139). -/
def abandoned (s : State) : State :=
  if s.planner.state == .idle then eachAxis abortReference (gearAbort s) else gearAbort s

theorem abortProgram_eq (s : State) : abortProgram s = plannerAbort (abandoned s) := rfl

/-- What an Abort with a change in progress has done when the planner takes it. -/
theorem abandoned_eq {s : State} (hstep : s.gear.step ≠ .idle) (h1 : s.coolant.tsc ≠ .suspended)
    (h2 : s.coolant.tsc ≠ .blocked) :
    abandoned s =
      { s with
        axes := if s.planner.state = .idle then s.axes.map AxisUnit.runAborted else s.axes
        spindle := (gearAbort s).spindle
        gear := (gearAbort s).gear } := by
  obtain ⟨hform, -⟩ := gearAbort_change hstep h1 h2
  unfold abandoned
  split
  · next hidle =>
    rw [abortReference_all, if_pos (by simpa using hidle), hform]
  · next hidle =>
    rw [if_neg (by simpa using hidle)]
    exact hform

/-- An Abort with a change in progress answers a next state; the site may return where a run has ended (R139, R168). -/
theorem abortChange_next {s : State} {tag : Tag} (hs : Settled s) (hreply : ReplyRoom s)
    (hstep : s.gear.step ≠ .idle) (h1 : s.coolant.tsc ≠ .suspended) (h2 : s.coolant.tsc ≠ .blocked) :
    ∃ t, exec (.abort tag []) s = .next t
      ∧ t =
          { s with
            axes := (plannerAbort (abandoned s)).axes, planner := (plannerAbort (abandoned s)).planner
            spindle := (gearAbort s).spindle, gear := (gearAbort s).gear, pendant := t.pendant, link := t.link }
      ∧ (s.planner.state ≠ .idle → t.pendant = s.pendant) := by
  have hblocks := abandoned_eq hstep h1 h2
  have htaken : takeOrder 0x12 tag (abortOrder []) s =
      placeReply (.accept tag (plannerReply (abortProgram s))) (abortProgram s) := takeOrder_accept hreply rfl
  have hvalve : HydraulicSettled (takeOrder 0x12 tag (abortOrder []) s) :=
    hs.2.of_eq (by rw [htaken, abortProgram_eq]; simp [hblocks])
  refine ⟨_, event_finish (f := takeOrder 0x12 tag (abortOrder [])) rfl, ?_, fun hprogram => ?_⟩
  · simp only [State.eq_iff_blocks, finish_valve hvalve]
    rw [htaken, abortProgram_eq]
    simp [hblocks]
  · have hsite : SiteSettled (takeOrder 0x12 tag (abortOrder []) s) := by
      refine (hs.of_motion (t := takeOrder 0x12 tag (abortOrder []) s) ?_ ?_ fun a ha => ?_).1
      all_goals rw [htaken, abortProgram_eq]
      · simp [hblocks]
      · simp [hblocks]
      · have haxis : (abandoned s).axis a = s.axis a := by rw [hblocks, State.axis, if_neg hprogram]; rfl
        rw [← haxis, ← plannerAbort_motion] at ha
        exact ha
    simp only [finish, siteReturn_eq_self hsite]
    rw [htaken, abortProgram_eq]
    simp [hblocks]

theorem activeMove_congr {s t : State} (h : t.planner = s.planner) : activeMove t = activeMove s := by
  simp [activeMove, headBody, h]

theorem pathVelocity_congr {s t : State} (h : t.planner = s.planner) : pathVelocity t = pathVelocity s := by
  simp [pathVelocity, h]

/-- Settles O16: an Abort with no change in progress, in IDLE, and with a change in progress. -/
theorem abortEndsProgram : Obligations.AbortEndsProgram := by
  unfold Obligations.AbortEndsProgram
  intro s tag hs hreply
  refine ⟨fun hstep => ⟨fun haborting => ?_, fun hstate hmove hv => ?_, fun hstate hstill => ?_⟩,
    fun hidle hstep hsite hroom => ?_, fun hstep h1 h2 => ?_⟩
  · have hsame : abortProgram s = s :=
      (abortProgram_unheard hstep (.inl (by simp [haborting]))).trans (plannerAbort_aborting haborting)
    have hdone := completes_abort (tag := tag) hreply (u := s) (by rw [hsame]) hs (e := [])
      (by rw [hsame]; exact Owes.refl s)
    rwa [haborting] at hdone
  · have hbrakes : abortProgram s = { s with planner := { s.planner with state := .aborting } } :=
      (abortProgram_unheard hstep (.inl (by rcases hstate with h | h | h <;> simp [h]))).trans
        (plannerAbort_brakes hstate hmove hv)
    exact completes_abort hreply (by rw [hbrakes]) (hs.of_eq rfl rfl rfl)
      (hbrakes.symm ▸ (Owes.refl s).of_link_eq rfl)
  · have hends : abortProgram s = completeAbort false s := by
      rcases hstate with h | h | h | ⟨hidle, hquiet⟩
      · exact (abortProgram_unheard hstep (.inl (by simp [h]))).trans (plannerAbort_completes (.inl h) hstill)
      · exact (abortProgram_unheard hstep (.inl (by simp [h]))).trans (plannerAbort_completes (.inr (.inl h)) hstill)
      · exact (abortProgram_unheard hstep (.inl (by simp [h]))).trans (plannerAbort_completes (.inr (.inr h)) hstill)
      · exact (abortProgram_unheard hstep (.inr hquiet)).trans (plannerAbort_idle hidle)
    have hdone := completes_abort_at_once (tag := tag) hs hreply hends
    refine ⟨fun e rest hq hroom => ?_, fun hq hroom => ?_⟩
    · rw [abortedAxes, if_neg (by simp [hq]), hq] at hdone
      exact hdone hroom
    · rw [abortedAxes, if_pos hq, hq] at hdone
      exact hdone hroom
  · obtain ⟨t, ht, hform, howes, haxis⟩ := abortIdle_next (tag := tag) hs hreply hidle hstep hsite
      (hroom.le (by cases s.planner.queue <;> simp [abortReports]))
    refine ⟨t, ht, hform, by cases hq : s.planner.queue <;> rwa [hq] at howes, fun a => ?_, fun a => ?_,
      fun a hwait => ?_, fun a hrun => ?_, fun a hother => ?_⟩ <;>
      obtain ⟨hkept, hends, hbrakes, hstays⟩ := runAborted_fields (s.axis a) <;> rw [haxis]
    · rw [hkept]
    · exact hends hwait
    · exact hbrakes hrun
    · exact hstays hother
  · obtain ⟨-, ⟨hprog, hcmd, hcreep⟩, hends, hwaits⟩ := gearAbort_change hstep h1 h2
    obtain ⟨t, ht, hform, hpendant⟩ := abortChange_next (tag := tag) hs hreply hstep h1 h2
    have hblocks := abandoned_eq hstep h1 h2
    have hplanner : (abandoned s).planner = s.planner := by rw [hblocks]
    have hmove := activeMove_congr hplanner
    have hv := pathVelocity_congr hplanner
    have haxes : s.planner.state ≠ .idle → (abandoned s).axes = s.axes := fun h => by rw [hblocks]; exact if_neg h
    refine ⟨t, ht, by rw [hform], ?_, ?_, fun hidle => ?_, hpendant, fun haborting => ?_,
      fun hprogram => ⟨?_, ?_⟩, ?_, ?_, ?_⟩ <;> rw [hform]
    · exact hprog
    · exact hcmd
    · rw [plannerAbort_idle (hplanner ▸ hidle), completeAbort_planner]
    · rw [plannerAbort_aborting (hplanner ▸ haborting)]
      exact ⟨hplanner, haxes (by simp [haborting])⟩
    · intro hactive hvelocity
      rw [plannerAbort_brakes (hplanner ▸ hprogram) (hmove.trans hactive) (hv ▸ hvelocity), hplanner]
      exact ⟨rfl, haxes (by rcases hprogram with h | h | h <;> simp [h])⟩
    · intro hstill
      rw [plannerAbort_completes (hplanner ▸ hprogram) (by rwa [hmove, hv]), completeAbort_planner]
    · exact hcreep
    · exact hends
    · exact hwaits

end Sys2Proof.Machine

namespace Sys2Proof.Machine

/-! ## What a grant opportunity goes through (R88 to R90) -/

/-- A walk changes no stroke of the list. -/
theorem walk_strokes (v : ValveBank) (ahead l : List Request) (free : Nat) (granted : List Stroke) :
    (walk v ahead free l granted).1.map Request.stroke = (ahead ++ l).map Request.stroke := by
  have hpassed : ∀ m : List Request, (m.map Request.passed).map Request.stroke = m.map Request.stroke := fun m => by
    simp only [List.map_map]
    refine List.map_congr_left fun r _ => ?_
    simp only [Function.comp, Request.passed]
    split <;> rfl
  induction l generalizing ahead free granted with
  | nil => simp [walk]
  | cons r rest ih =>
    unfold walk
    split
    · rw [ih]; simp
    · split
      · rfl
      · split
        · rw [ih]; simp [hpassed]
        · rw [ih]; simp

/-- A walk grants strokes of the list alone. -/
theorem walk_granted (v : ValveBank) (ahead l : List Request) (free : Nat) (granted : List Stroke) :
    ∀ k ∈ (walk v ahead free l granted).2, k ∈ granted ∨ k ∈ l.map Request.stroke := by
  induction l generalizing ahead free granted with
  | nil => exact fun k hk => .inl hk
  | cons r rest ih =>
    unfold walk
    split
    · exact fun k hk => (ih _ _ _ k hk).imp_right (List.mem_cons_of_mem _)
    · split
      · exact fun k hk => .inl hk
      · split
        · intro k hk
          rcases ih _ _ _ k hk with h | h
          · rcases List.mem_append.1 h with h | h
            · exact .inl h
            · exact .inr (by simp_all)
          · exact .inr (List.mem_cons_of_mem _ h)
        · exact fun k hk => (ih _ _ _ k hk).imp_right (List.mem_cons_of_mem _)

/-- What holds however the list's requests stand, through the grant of a stroke on the list and through its success,
holds after a grant opportunity. -/
theorem grantOpportunity_induct {P : State → Prop} {s : State} (hs : P s)
    (hlist : ∀ t l, P t → l.map Request.stroke = t.valve.requests.map Request.stroke →
      P { t with valve := { t.valve with requests := l } })
    (hgrant : ∀ t k, P t → k ∈ t.valve.requests.map Request.stroke → P (strokeGranted k t))
    (hend : ∀ t r, P t → r ∈ t.valve.requests → confirmed t r.stroke = true →
      P (strokeEnds r.stroke true t)) :
    P (grantOpportunity s) := by
  have hfold : ∀ (ks : List Stroke) (t : State), P t → (∀ k ∈ ks, k ∈ t.valve.requests.map Request.stroke) →
      P (ks.foldl (fun u k => strokeGranted k u) t) := by
    intro ks
    induction ks with
    | nil => exact fun t ht _ => ht
    | cons k ks ih =>
      intro t ht hks
      refine ih _ (hgrant t k ht (hks k (by simp))) fun j hj => ?_
      simpa using hks j (by simp [hj])
  have hwalk : ∀ t, P t → P (grantWalk t) := by
    intro t ht
    unfold grantWalk
    split
    · have hstrokes := walk_strokes t.valve [] t.valve.requests (Config.flowUnits - flowInUse t.valve.requests) []
      refine hfold _ _ (hlist t _ ht hstrokes) fun k hk => ?_
      rw [hstrokes]
      exact (walk_granted _ _ _ _ _ k hk).resolve_left (by simp)
    · exact ht
  have hsettle : ∀ n t, P t → P (settleStrokes n t) := by
    intro n
    induction n with
    | zero => exact fun t ht => ht
    | succ n ih =>
      intro t ht
      unfold settleStrokes
      split
      · exact ht
      · next r hr =>
        have hconfirmed := List.find?_some hr
        simp only [Bool.and_eq_true] at hconfirmed
        exact ih _ (hwalk _ (hend t r ht (List.mem_of_find?_eq_some hr) hconfirmed.2))
  exact hsettle 32 _ (hwalk s hs)

/-! ## Axes, clamps and strokes move by themselves

`Aside` collects what the rest of a period may touch beside the planner's work: axes but for their claims, compensation,
clamps, the valve list and the condition flags. -/

/-- The axes but for their claims, with compensation, clamps, valve bank and stop chain, are all that differs. -/
def Aside (s t : State) : Prop :=
  t = { s with axes := t.axes, comp := t.comp, clamps := t.clamps, valve := t.valve, stop := t.stop }
    ∧ ∀ a, (t.axis a).claim = (s.axis a).claim

theorem aside_iff {s t : State} :
    Aside s t ↔
      (t.link = s.link ∧ t.planner = s.planner ∧ t.spindle = s.spindle ∧ t.gear = s.gear ∧ t.coolant = s.coolant
        ∧ t.pendant = s.pendant ∧ t.clocks = s.clocks ∧ t.pending = s.pending)
      ∧ ∀ a, (t.axis a).claim = (s.axis a).claim := by
  simp [Aside, State.eq_iff_blocks]

theorem Aside.refl (s : State) : Aside s s := ⟨rfl, fun _ => rfl⟩

theorem Aside.trans {s t u : State} (h : Aside s t) (k : Aside t u) : Aside s u := by
  rw [aside_iff] at *
  obtain ⟨⟨h1, h2, h3, h4, h5, h6, h7, h8⟩, hc⟩ := h
  obtain ⟨⟨k1, k2, k3, k4, k5, k6, k7, k8⟩, kc⟩ := k
  exact ⟨⟨k1.trans h1, k2.trans h2, k3.trans h3, k4.trans h4, k5.trans h5, k6.trans h6, k7.trans h7, k8.trans h8⟩,
    fun a => (kc a).trans (hc a)⟩

theorem Aside.gear {s t : State} (h : Aside s t) : t.gear = s.gear := by
  obtain ⟨⟨-, -, -, hg, -⟩, -⟩ := aside_iff.1 h
  exact hg

/-- What strokes and their ends touch: the axes but for their claims, with clamps and valve bank. -/
def Stroked (s t : State) : Prop := Aside s t ∧ t.stop = s.stop ∧ t.comp = s.comp

theorem Stroked.aside {s t : State} (h : Stroked s t) : Aside s t := h.1

theorem Stroked.of_claims {s t : State}
    (h : t = { s with axes := t.axes, clamps := t.clamps, valve := t.valve })
    (hc : ∀ a, (t.axis a).claim = (s.axis a).claim) : Stroked s t := by
  refine ⟨⟨?_, hc⟩, by rw [h], by rw [h]⟩
  rw [h]

theorem Stroked.form {s t : State} (h : Stroked s t) :
    t = { s with axes := t.axes, clamps := t.clamps, valve := t.valve } := by
  obtain ⟨⟨hform, -⟩, hstop, hcomp⟩ := h
  rw [hstop, hcomp] at hform
  exact hform

theorem Stroked.refl (s : State) : Stroked s s := ⟨.refl s, rfl, rfl⟩

theorem Stroked.trans {s t u : State} (h : Stroked s t) (k : Stroked t u) : Stroked s u := by
  obtain ⟨ha, hstop, hcomp⟩ := h
  obtain ⟨ka, kstop, kcomp⟩ := k
  exact ⟨ha.trans ka, kstop.trans hstop, kcomp.trans hcomp⟩

theorem Stroked.gear {s t : State} (h : Stroked s t) : t.gear = s.gear := h.aside.gear

theorem Stroked.setAxis (s : State) {a : Axis} {u : AxisUnit} (h : u.claim = (s.axis a).claim) :
    Stroked s (s.setAxis a u) := by
  refine .of_claims rfl fun c => ?_
  by_cases e : c = a
  · rw [e, State.setAxis_axis_same, h]
  · rw [State.setAxis_axis_ne _ _ e]

theorem Stroked.setClamp (s : State) (a : Axis) (c : Clamp) : Stroked s (s.setClamp a c) := .of_claims rfl fun _ => rfl

theorem Stroked.joinRequest (k : Stroke) (s : State) : Stroked s (joinRequest k s) := .of_claims rfl fun _ => rfl

theorem Stroked.removeRequest (f : ValveFunction) (s : State) : Stroked s (removeRequest f s) :=
  .of_claims rfl fun _ => rfl

theorem Stroked.startMoving (a : Axis) (s : State) : Stroked s (startMoving a s) := by
  unfold Machine.startMoving
  split
  · exact .setAxis s rfl
  · split
    · exact .refl s
    · exact .setAxis s rfl
  · exact .refl s

theorem Stroked.lingerExpires (a : Axis) (s : State) : Stroked s (lingerExpires a s) :=
  ((Stroked.setClamp ..).trans (.setClamp ..)).trans (.joinRequest ..)

theorem Stroked.startLinger (a : Axis) (s : State) : Stroked s (startLinger a s) := by
  unfold Machine.startLinger
  split
  · exact .refl s
  · split
    · exact .lingerExpires a s
    · exact .setClamp ..

theorem Stroked.releaseSucceeded (a : Axis) (s : State) : Stroked s (releaseSucceeded a s) := by
  have hmoves : Stroked s (Machine.startMoving a (setClampState a .released s)) :=
    (Stroked.setClamp ..).trans (.startMoving ..)
  unfold Machine.releaseSucceeded
  dsimp only
  split
  · exact hmoves.trans (.startLinger ..)
  · exact hmoves

theorem Stroked.engageSucceeded (a : Axis) (s : State) : Stroked s (engageSucceeded a s) := by
  unfold Machine.engageSucceeded
  split
  · split
    · exact ((Stroked.setClamp ..).trans (.setClamp ..)).trans (.joinRequest ..)
    · exact (Stroked.setClamp ..).trans (.setClamp ..)
  · exact .setClamp ..

/-- With no change in progress the Gear Sequencer does not answer to a stroke. -/
theorem Stroked.strokeEnds {s : State} (h : s.gear.step = .idle) (k : Stroke) : Stroked s (strokeEnds k true s) := by
  cases k with
  | release a => exact (Stroked.removeRequest ..).trans (.releaseSucceeded ..)
  | engage a => exact (Stroked.removeRequest ..).trans (.engageSucceeded ..)
  | fork f =>
    have hquiet : Machine.strokeEnds (.fork f) true s = Machine.removeRequest (Stroke.fork f).function s := by
      simp [Machine.strokeEnds, forkOutcome, h]
    rw [hquiet]
    exact .removeRequest ..

theorem Stroked.strokeGranted {s : State} (h : s.gear.step = .idle) (k : Stroke) : Stroked s (strokeGranted k s) := by
  cases k with
  | release a => exact .setClamp ..
  | engage a => exact .setClamp ..
  | fork f =>
    have hquiet : Machine.strokeGranted (.fork f) s = s := by simp [Machine.strokeGranted, forkGranted, h]
    rw [hquiet]
    exact .refl s

theorem Stroked.grantOpportunity {s : State} (h : s.gear.step = .idle) : Stroked s (grantOpportunity s) := by
  have hidle : ∀ t, Stroked s t → t.gear.step = .idle := fun t ht => by rw [ht.gear, h]
  refine grantOpportunity_induct (P := Stroked s) (.refl s) ?_ ?_ ?_
  · exact fun t l ht _ => ht.trans (.of_claims rfl fun _ => rfl)
  · exact fun t k ht _ => ht.trans (.strokeGranted (hidle t ht) k)
  · exact fun t r ht _ _ => ht.trans (.strokeEnds (hidle t ht) r.stroke)

theorem Stroked.withOpportunity {s : State} {f : State → State} (h : s.gear.step = .idle) (hf : Stroked s (f s)) :
    Stroked s (withOpportunity f s) := by
  rcases withOpportunity_cases f s with ⟨-, e⟩ | ⟨-, e⟩ <;> rw [e]
  · exact hf
  · exact hf.trans (.grantOpportunity (by rw [hf.gear, h]))

/-! ### The stages of a period -/

theorem Aside.eachAxis {P : State → Prop} {f : Axis → State → State} {s : State} (hs : P s)
    (hkeep : ∀ s t, P s → Aside s t → P t) (hf : ∀ a t, P t → Aside t (f a t)) : Aside s (eachAxis f s) := by
  have hboth := eachAxis_keeps (P := fun t => P t ∧ Aside s t) (f := f)
    (fun a t ⟨hp, ht⟩ => ⟨hkeep t _ hp (hf a t hp), ht.trans (hf a t hp)⟩) ⟨hs, Aside.refl s⟩
  exact hboth.2

theorem Aside.checkParked (a : Axis) (s : State) : Aside s (checkParked a s) := by
  unfold Machine.checkParked
  split
  · rw [loseReference_eq]
    refine ⟨rfl, fun c => ?_⟩
    simp only [State.axis]
    by_cases e : c = a
    · rw [e, PerAxis.get_set]
    · rw [PerAxis.get_set_ne _ _ e]
  · exact .refl s

theorem Aside.periodLinger {s : State} (h : s.gear.step = .idle) (a : Axis) : Aside s (periodLinger a s) := by
  unfold Machine.periodLinger
  split
  · split
    · split
      · exact (Stroked.withOpportunity h (.startLinger a s)).aside
      · exact .refl s
    · exact (Stroked.setClamp ..).aside
  · exact .refl s

theorem Aside.periodEnds {s : State} (h : s.gear.step = .idle) : Aside s (periodEnds s) := by
  have hstill : ∀ s t : State, s.gear.step = .idle → Aside s t → t.gear.step = .idle :=
    fun s t hs ht => by rw [ht.gear, hs]
  have hparked : Aside s (Machine.eachAxis Machine.checkParked s) :=
    Aside.eachAxis h hstill fun a t _ => .checkParked a t
  have herror : ∀ t, t.gear.step = .idle → Aside t (Machine.eachAxis renewErrorCondition t) := fun t ht =>
    Aside.eachAxis ht hstill fun a u _ => ⟨rfl, fun _ => rfl⟩
  have hlinger : ∀ t, t.gear.step = .idle → Aside t (Machine.eachAxis Machine.periodLinger t) := fun t ht =>
    Aside.eachAxis ht hstill fun a u hu => .periodLinger hu a
  have hview : ∀ t, t.gear.step = .idle → Aside t (Machine.eachAxis recordView t) := fun t ht =>
    Aside.eachAxis ht hstill fun a u _ =>
    (Stroked.setAxis u rfl : Stroked u (recordView a u)).aside
  have h1 := hparked.trans (herror _ (hstill _ _ h hparked))
  have h2 := h1.trans (hlinger _ (hstill _ _ h h1))
  exact h2.trans (hview _ (hstill _ _ h h2))

end Sys2Proof.Machine

namespace Sys2Proof.Machine

/-! ## A period with the head alone at work -/

section
variable {s : State}

theorem HeadAlone.followsWell (h : HeadAlone s) : FollowsWell s := by
  obtain ⟨hwell, -⟩ := h
  exact hwell

theorem HeadAlone.motion (h : HeadAlone s) (a : Axis) : (s.axis a).motion = .idle := by
  obtain ⟨-, hmotion, -⟩ := h
  exact hmotion a

theorem HeadAlone.step (h : HeadAlone s) : s.gear.step = .idle := by
  obtain ⟨-, -, hstep, -⟩ := h
  exact hstep

theorem moveLocally_idle {a : Axis} (h : (s.axis a).motion = .idle) : moveLocally a s = s := by
  unfold moveLocally
  split
  · rfl
  · have hstep : ∀ p, localStep a s.pendant.feedOverride p (s.axis a) = s.axis a := fun p => by simp [localStep, h]
    have hself : s.setAxis a (s.axis a) = s := by simp [State.setAxis, State.axis, PerAxis.set_get]
    simp [hstep, hself, noteJog, h, LocalMotion.isJog]

theorem moveLocally_idle_all (h : ∀ a, (s.axis a).motion = .idle) : eachAxis moveLocally s = s := by
  have hone : ∀ a, moveLocally a s = s := fun a => moveLocally_idle (h a)
  simp [eachAxis, hone]

theorem endLocal_idle_all (h : ∀ a, (s.axis a).motion = .idle) : eachAxis endLocal s = s := by
  have hone : ∀ a, endLocal a s = s := fun a => by
    unfold endLocal
    cases (s.axis a).params with
    | none => rfl
    | some p => simp [h a]
  simp [eachAxis, hone]

/-- Outside HELD local motion moves the axes alone (R21, R44). -/
theorem Aside.moveLocally (h : s.planner.state ≠ .held) (a : Axis) : Aside s (moveLocally a s) := by
  have hnote : ∀ (x : Int) (t : State), t.planner = s.planner → noteJog a x t = t := fun x t ht => by
    simp [noteJog, ht, h]
  unfold Machine.moveLocally
  split
  · exact .refl s
  · next p hp =>
    refine (hnote (s.axis a).commanded (s.setAxis a _) rfl).symm ▸ (Stroked.setAxis s ?_).aside
    obtain ⟨q, x, v, d, hform⟩ := movedUnit_form s.pendant.feedOverride a (s.axis a)
    simp only [movedUnit, hp] at hform
    rw [hform]

theorem Aside.compensateAxis (before : Axis → Int) (a : Axis) (s : State) : Aside s (compensateAxis before a s) := by
  unfold Machine.compensateAxis
  split
  · have hfollow : Stroked s (followMeasured a s) := .setAxis s rfl
    have hrest : Stroked (followMeasured a s) (followPeriod a (before a) s) := .setAxis _ rfl
    exact (hfollow.trans hrest).aside
  · have hstep : ∀ u : AxisUnit, u.claim = (s.axis a).claim →
        Aside s ((s.setAxis a u).setComp a (stepComp s a (before a)).1) :=
      fun _ hu => (Stroked.setAxis s hu).aside.trans ⟨rfl, fun _ => rfl⟩
    exact hstep _ rfl

/-- The planner's work of a period (R27). -/
def periodWork (s : State) : State × Bool := plannerWork { s with clocks := { s.clocks with interpolation := 2 } }

theorem periodOutputs_aside
    (h : (∀ a, ((periodWork s).1.axis a).motion = .idle) ∨ (periodWork s).1.planner.state ≠ .held) :
    Aside (periodWork s).1 (periodOutputs s) := by
  have hmoved : Aside (periodWork s).1 (eachAxis moveLocally (periodWork s).1) := by
    rcases h with h | h
    · rw [moveLocally_idle_all h]
      exact .refl _
    · refine Aside.eachAxis (P := fun t => t.planner.state ≠ .held) h (fun t u ht hu => ?_)
        fun a t ht => .moveLocally ht a
      obtain ⟨⟨-, hp, -⟩, -⟩ := aside_iff.1 hu
      rwa [hp]
  refine hmoved.trans (Aside.eachAxis (P := fun _ => True) trivial (fun _ _ _ _ => trivial) fun a t _ => ?_)
  exact .compensateAxis _ a t

/-- An axis that takes its commanded position from the planner has it at the end of the output stage (R72). -/
theorem periodOutputs_axis {a : Axis} (h : ((periodWork s).1.axis a).motion = .idle) :
    ((periodOutputs s).axis a).motion = .idle
      ∧ ((periodOutputs s).axis a).mode = ((periodWork s).1.axis a).mode
      ∧ (positionsFollow (periodWork s).1 a = false →
          ((periodOutputs s).axis a).commanded = ((periodWork s).1.axis a).commanded) := by
  have hmoved : (eachAxis moveLocally (periodWork s).1).axis a = (periodWork s).1.axis a := by
    rw [moveLocally_all, movedUnit]
    split
    · rfl
    · simp [localStep, h]
  have hfollow := positionsFollow_congr (s := (periodWork s).1) (t := eachAxis moveLocally (periodWork s).1) (a := a)
    (by rw [hmoved]) (by simp [eachAxis])
  have hout : (periodOutputs s).axis a =
      (compensateAxis (fun c => (s.axis c).commanded) a (eachAxis moveLocally (periodWork s).1)).axis a :=
    (compensateAxis_all _ _ a).1
  rw [hout, ← hfollow]
  cases hf : positionsFollow (eachAxis moveLocally (periodWork s).1) a with
  | true =>
    rw [(compensateAxis_follow hf).1, hmoved]
    exact ⟨h, rfl, fun hne => absurd hne (by decide)⟩
  | false =>
    rw [(compensateAxis_step hf).1, hmoved]
    exact ⟨h, rfl, fun _ => rfl⟩

/-- An axis that takes its commanded position from the planner has it at the end of the period (R27, R72). -/
theorem afterPeriod_commanded (hwell : FollowsWell s) {a : Axis} (h : ((periodWork s).1.axis a).motion = .idle)
    (hmode : ((periodWork s).1.axis a).mode ≠ .parked) (hfollow : positionsFollow (periodWork s).1 a = false) :
    ((afterPeriod s).axis a).commanded = ((periodWork s).1.axis a).commanded := by
  obtain ⟨omotion, omode, ocommanded⟩ := periodOutputs_axis h
  have hstands : endedUnit a ((periodOutputs s).axis a) = (periodOutputs s).axis a := by
    unfold endedUnit
    cases ((periodOutputs s).axis a).params <;> simp [omotion]
  obtain ⟨k, hk⟩ := periodFinished_axis s a
  rw [hstands] at hk
  obtain ⟨v, hv⟩ := periodEnds_axis (s := periodFinished s) (a := a) (by rw [hk]; rwa [omode])
    (by rw [hk, omotion]; simp [LocalMotion.waits])
  rw [afterPeriod_axis, interpolate_eq hwell, hv, hk, ← ocommanded hfollow]

/-- The state of a period at the planner's end of it, where no axis is in local motion. -/
theorem periodFinished_idle (h : ∀ a, ((periodWork s).1.axis a).motion = .idle) :
    periodFinished s = plannerFinish (periodWork s).2 (periodOutputs s) := by
  rw [periodFinished, endLocal_idle_all fun a => (periodOutputs_axis (h a)).1]
  rfl

theorem finish_of_site {t : State} (h : SiteSettled t) :
    finish s t = { t with valve := (finish s t).valve, link := (finish s t).link } ∧ Owes t (finish s t) [] [] := by
  have howes : Owes t (finish s t) [] [] := by
    rw [finish, siteReturn_eq_self h]
    have hnote := (noteChange_owes s (hydraulicCheck t)).trans (transmit_owes _)
    exact hnote.of_link_eq (by simp)
  refine ⟨?_, howes⟩
  have hpendant : (finish s t).pendant = t.pendant := by rw [finish, siteReturn_eq_self h]; simp
  simp [State.eq_iff_blocks, hpendant]

/-- What a period makes of the state at the planner's end of it: axes, compensation, clamps, valve bank and condition
flags move by themselves, the claims and the commanded positions stand, and the host is owed nothing further. -/
theorem afterPeriod_aside (hs : Settled s) (halone : HeadAlone s) {f : State}
    (hf : interpolate s = periodEnds f) (hgear : f.gear.step = .idle) (hpendant : f.pendant = s.pendant) :
    afterPeriod s =
        { f with
          axes := (afterPeriod s).axes, comp := (afterPeriod s).comp, clamps := (afterPeriod s).clamps
          valve := (afterPeriod s).valve, stop := (afterPeriod s).stop, link := (afterPeriod s).link }
      ∧ Owes f (afterPeriod s) [] [] ∧ ∀ a, ((afterPeriod s).axis a).claim = (f.axis a).claim := by
  have haside : Aside f (interpolate s) := hf ▸ .periodEnds hgear
  obtain ⟨⟨hlink, hplanner, hspindle, hgears, hcoolant, hpend, hclocks, hpending⟩, hclaim⟩ := aside_iff.1 haside
  have hsite : SiteSettled (interpolate s) := fun hw => by
    obtain ⟨hsettled, -⟩ := hs
    obtain ⟨a, -, hmoves⟩ := hsettled (by rwa [hpend, hpendant] at hw)
    exact absurd (halone.motion a) hmoves
  obtain ⟨hform, howes⟩ := finish_of_site (s := s) hsite
  refine ⟨?_, howes.of_link_eq hlink, fun a => (congrArg AxisUnit.claim (afterPeriod_axis s a)).trans (hclaim a)⟩
  have hsame := congrArg State.pendant hform
  dsimp only at hsame
  simp only [State.eq_iff_blocks, afterPeriod, finish_frame, hsame, hplanner, hspindle, hgears, hcoolant, hpend,
    hclocks, hpending, and_self]

end

end Sys2Proof.Machine

namespace Sys2Proof.Machine

/-! ## The planner's end of a period -/

section
variable {s : State}

theorem plannerFinish_running (h : s.planner.state = .running) (b : Bool) :
    plannerFinish b s = if b then completeEntry s else s := by
  simp [plannerFinish, h]

/-- A head that leaves with its entry done (R37). -/
theorem headLeaves_cons {e : Entry} {rest : List Entry} (hq : s.planner.queue = e :: rest) (o : EntryOutcome) :
    (headLeaves o s).planner = headGone s.planner rest
      ∧ (∀ a, ((headLeaves o s).axis a).claim = false)
      ∧ (EventRoom s 1 → Owes s (headLeaves o s) [] [.entryDone e.tag e.body.kind o]) := by
  rw [headLeaves, hq]
  refine ⟨by simp [headGone, releaseClaims, idleHead], fun a => by simp [State.axis, releaseClaims], fun h => ?_⟩
  exact placeEvent_owes_since h rfl _

/-- An ACTIVE entry completes; an END leaves the planner in IDLE (R36, R37). -/
theorem completeEntry_cons {e : Entry} {rest : List Entry} (hq : s.planner.queue = e :: rest) :
    (completeEntry s).planner = (if e.body = .endProgram then idlePlanner rest else headGone s.planner rest)
      ∧ (∀ a, ((completeEntry s).axis a).claim = false)
      ∧ (EventRoom s 1 → Owes s (completeEntry s) [] [.entryDone e.tag e.body.kind .completed]) := by
  obtain ⟨hplanner, hclaim, howes⟩ := headLeaves_cons hq .completed
  have hend : headBody s == some .endProgram ↔ e.body = .endProgram := by simp [headBody, hq]
  unfold completeEntry
  split
  · next h =>
    rw [if_pos (hend.1 h)]
    refine ⟨?_, hclaim, fun hroom => howes hroom⟩
    simp [enterIdle, hplanner, headGone, idlePlanner]
  · next h =>
    rw [if_neg (mt hend.2 h)]
    exact ⟨hplanner, hclaim, howes⟩

/-! ## What a period comes to, from the planner's work -/

theorem onlyMotion_iff {t : State} :
    OnlyMotion s t ↔
      t.spindle = s.spindle ∧ t.gear = s.gear ∧ t.coolant = s.coolant ∧ t.pendant = s.pendant
        ∧ t.pending = s.pending := by
  simp [OnlyMotion, State.eq_iff_blocks]

/-- What the planner's work `w` of a period leaves for the rest of it, the head alone acting: no change and no local
motion begun, and nothing reported yet. -/
def Worked (s w : State) : Prop :=
  w.gear.step = .idle ∧ (∀ a, (w.axis a).motion = .idle) ∧ w.pendant = s.pendant ∧ w.link = s.link

theorem HeadAlone.worked (h : HeadAlone s) {w : State} (hgear : w.gear.step = s.gear.step)
    (hmotion : ∀ a, (w.axis a).motion = (s.axis a).motion) (hpendant : w.pendant = s.pendant)
    (hlink : w.link = s.link) : Worked s w := by
  obtain ⟨-, hidle, hstep, -⟩ := h
  exact ⟨hgear.trans hstep, fun a => (hmotion a).trans (hidle a), hpendant, hlink⟩

/-- A period with the head alone at work, by what the planner's work `w` and its end of the period come to. -/
theorem period_outcome (hs : Settled s) (halone : HeadAlone s) {w : State} {b : Bool} (hw : periodWork s = (w, b))
    (hworked : Worked s w) :
    ∃ u t, exec .interpolationPeriod s = .next t ∧ Aside w u ∧ OnlyMotion w t
      ∧ t.planner = (plannerFinish b u).planner
      ∧ (∀ e, Owes u (plannerFinish b u) [] e → Owes s t [] e)
      ∧ (∀ a, (t.axis a).claim = ((plannerFinish b u).axis a).claim)
      ∧ (∀ a, (w.axis a).mode ≠ .parked → positionsFollow w a = false →
          (t.axis a).commanded = (w.axis a).commanded) := by
  obtain ⟨hgear, hmotion, hpendant, hlink⟩ := hworked
  have hw1 : (periodWork s).1 = w := by rw [hw]
  have hidle : ∀ a, ((periodWork s).1.axis a).motion = .idle := by rwa [hw1]
  have haside : Aside w (periodOutputs s) := hw1 ▸ periodOutputs_aside (.inl hidle)
  have hfinished := periodFinished_idle hidle
  rw [hw] at hfinished
  obtain ⟨⟨ulink, uplanner, uspindle, ugear, ucoolant, upendant, -, upending⟩, -⟩ := aside_iff.1 haside
  have hinterpolate : interpolate s = periodEnds (plannerFinish b (periodOutputs s)) :=
    (interpolate_eq halone.followsWell).trans (congrArg periodEnds hfinished)
  obtain ⟨hform, howes, hclaim⟩ := afterPeriod_aside hs halone hinterpolate (by simp [ugear, hgear])
    (by simp [upendant, hpendant])
  refine ⟨periodOutputs s, afterPeriod s, exec_interpolationPeriod s, haside, ?_, by rw [hform], fun e he => ?_,
    hclaim, fun a hmode hfollow => ?_⟩
  · rw [onlyMotion_iff, hform]
    simp [uspindle, ugear, ucoolant, upendant, upending]
  · have hboth := he.trans howes
    rw [List.append_nil, List.append_nil] at hboth
    exact hboth.of_link_eq (ulink.trans hlink)
  · rw [← hw1] at hmode hfollow ⊢
    exact afterPeriod_commanded halone.followsWell (hidle a) hmode hfollow

/-- A period whose planner neither completes an entry nor changes state. -/
theorem period_stays (hs : Settled s) (halone : HeadAlone s) {w : State} (hw : periodWork s = (w, false))
    (hstate : w.planner.state = .running ∨ w.planner.state = .held ∨ w.planner.state = .idle)
    (hworked : Worked s w) :
    ∃ t, exec .interpolationPeriod s = .next t ∧ OnlyMotion w t ∧ Owes s t [] [] ∧ t.planner = w.planner
      ∧ (∀ a, (t.axis a).claim = (w.axis a).claim)
      ∧ (∀ a, (w.axis a).mode ≠ .parked → positionsFollow w a = false →
          (t.axis a).commanded = (w.axis a).commanded) := by
  obtain ⟨u, t, ht, haside, hform, hplanner, howes, hclaim, hcommanded⟩ :=
    period_outcome hs halone hw hworked
  obtain ⟨⟨-, uplanner, -⟩, uclaim⟩ := aside_iff.1 haside
  have hstays : plannerFinish false u = u := by
    rw [← uplanner] at hstate
    rcases hstate with h | h | h <;> simp [plannerFinish, h]
  rw [hstays] at hplanner howes hclaim
  exact ⟨t, ht, hform, howes [] (Owes.refl u), hplanner.trans uplanner, fun a => (hclaim a).trans (uclaim a),
    hcommanded⟩

/-- A period at which the head of a running program completes. -/
theorem period_completes (hs : Settled s) (halone : HeadAlone s) (hroom : EventRoom s 1) {w : State}
    (hw : periodWork s = (w, true)) (hstate : w.planner.state = .running) {e : Entry} {rest : List Entry}
    (hq : w.planner.queue = e :: rest) (hworked : Worked s w) :
    ∃ t, exec .interpolationPeriod s = .next t ∧ OnlyMotion w t
      ∧ Owes s t [] [.entryDone e.tag e.body.kind .completed] ∧ (∀ a, (t.axis a).claim = false)
      ∧ t.planner = (if e.body = .endProgram then idlePlanner rest else headGone w.planner rest)
      ∧ (∀ a, (w.axis a).mode ≠ .parked → positionsFollow w a = false →
          (t.axis a).commanded = (w.axis a).commanded) := by
  obtain ⟨u, t, ht, haside, hform, hplanner, howes, hclaim, hcommanded⟩ :=
    period_outcome hs halone hw hworked
  obtain ⟨⟨ulink, uplanner, -⟩, -⟩ := aside_iff.1 haside
  obtain ⟨-, -, -, hlink⟩ := hworked
  have hends : plannerFinish true u = completeEntry u := plannerFinish_running (uplanner ▸ hstate) true
  obtain ⟨eplanner, eclaim, eowes⟩ := completeEntry_cons (s := u) (uplanner ▸ hq)
  rw [hends] at hplanner howes hclaim
  refine ⟨t, ht, hform, howes _ (eowes ?_), fun a => (hclaim a).trans (eclaim a), ?_, hcommanded⟩
  · unfold EventRoom at *
    rwa [ulink, hlink]
  · rw [hplanner, eplanner, uplanner]

end

end Sys2Proof.Machine

namespace Sys2Proof.Machine

/-! ## The head of a running program at a period (R27) -/

/-- The state at the beginning of a period, with its clock started again. -/
def periodBegun (s : State) : State := { s with clocks := { s.clocks with interpolation := 2 } }

/-- Steps 2 and 3 of R27, the head having begun. -/
def headWork (s : State) : State × Bool :=
  if (promoteHead s).planner.state == .running && (promoteHead s).planner.head == some .active then
    activeWork (promoteHead s)
  else (promoteHead s, false)

/-- A head made STARTING (R27). -/
def started (s : State) : State := { s with planner := { s.planner with head := some .starting } }

/-- A STARTING head made ACTIVE (R27). -/
def promoted (s : State) : State := { s with planner := { s.planner with head := some .active, speedWait := false } }

section
variable {s : State} {e : Entry} {rest : List Entry}

theorem periodWork_running (h : s.planner.state = .running) : periodWork s = headWork (startHead (periodBegun s)) := by
  simp [periodWork, plannerWork, headWork, periodBegun, h]

theorem periodWork_resting (h : s.planner.state = .idle ∨ s.planner.state = .held) :
    periodWork s = (periodBegun s, false) := plannerWork_resting h

theorem headWork_held (h : s.planner.state ≠ .running) : headWork s = (s, false) := by
  simp [headWork, promoteHead, h]

theorem headWork_waits (hhead : s.planner.head ≠ some .active)
    (h : s.planner.head = some .starting → startConditions s = false) : headWork s = (s, false) := by
  have hpromote : promoteHead s = s := by
    unfold promoteHead
    rw [if_neg]
    intro hc
    simp only [Bool.and_eq_true, beq_iff_eq] at hc
    obtain ⟨⟨-, hstarting⟩, hcond⟩ := hc
    rw [h hstarting] at hcond
    cases hcond
  simp [headWork, hpromote, hhead]

theorem headWork_promotes (hrun : s.planner.state = .running) (hhead : s.planner.head = some .starting)
    (h : startConditions s = true) : headWork s = activeWork (promoted s) := by
  simp [headWork, promoteHead, promoted, hrun, hhead, h]

theorem headWork_active (hrun : s.planner.state = .running) (hhead : s.planner.head = some .active) :
    headWork s = activeWork s := by
  simp [headWork, promoteHead, hrun, hhead]

theorem startHead_progress (h : s.planner.head = some .starting ∨ s.planner.head = some .active) :
    startHead s = s := startHead_eq_self (.inl (by simpa [headInProgress] using h))

theorem startHead_begins (hq : s.planner.queue = e :: rest) (h1 : s.planner.head ≠ some .starting)
    (h2 : s.planner.head ≠ some .active) : startHead s = beginHead s := by
  simp [startHead, headInProgress, hq, h1, h2]

theorem startConditions_cons (hq : s.planner.queue = e :: rest) :
    startConditions s =
      ((!s.planner.coolantWait || s.coolant.tsc == .ready) && (!s.planner.speedWait || s.spindle.atSpeed)
        && entryReady s e) := by
  simp [startConditions, hq]

/-! ### The checks of R40 -/

theorem raiseIf_false (c : HoldCause) (s : State) : raiseIf false c s = s := rfl

/-- Of the checks of R40 only that of the coolant wait is met by an entry that is no MOVE. -/
theorem startChecks_nonMove (hq : s.planner.queue = e :: rest) (h : e.body.isMove = false) :
    startChecks s =
      raiseIf (s.planner.coolantWait && (s.coolant.tsc == .faulted || s.coolant.tsc == .blocked)) .coolant s := by
  have hmove : (headBody s).any EntryBody.isMove = false := by simpa [headBody, hq] using h
  have hrev : headIsPerRev s = false := by
    unfold headIsPerRev headBody
    rw [hq]
    cases hb : e.body <;> simp_all [EntryBody.isPerRev, EntryBody.isMove]
  have hclamp : clampFaulted s = false := by
    unfold clampFaulted
    split
    · rfl
    · rw [hmove]; rfl
  simp [startChecks, perRevMoves, hrev, hclamp, raiseIf_false]

/-- An entry that takes no start actions begins with nothing but its sub-state (R35). -/
theorem beginHead_quiet (hq : s.planner.queue = e :: rest)
    (h : e.body.kind = .dwell ∨ e.body.kind = .mark ∨ e.body.kind = .endProgram)
    (hwait : s.planner.coolantWait = false) :
    beginHead s = started s := by
  have hactions : startActions (started s) = started s := by
    unfold startActions started
    simp only [hq]
    cases hb : e.body <;> simp_all [EntryBody.kind]
  have hmove : e.body.isMove = false := by cases hb : e.body <;> simp_all [EntryBody.kind, EntryBody.isMove]
  have hbegin : beginHead s = startChecks (startActions (started s)) := rfl
  rw [hbegin, hactions, startChecks_nonMove (s := started s) hq hmove]
  simp [started, hwait, raiseIf_false]

/-! ### The work of an ACTIVE head -/

/-- A head that works by being ACTIVE alone completes at its first period (R35, R36). -/
theorem activeWork_done (hq : s.planner.queue = e :: rest)
    (h : e.body.kind = .spindle ∨ e.body.kind = .coolant ∨ e.body.kind = .mark ∨ e.body.kind = .endProgram) :
    activeWork s = (s, true) := by
  unfold activeWork headBody
  rw [hq]
  cases hb : e.body <;> simp_all [EntryBody.kind]

theorem activeWork_dwell (hq : s.planner.queue = e :: rest) {time : Nat} (h : e.body = .dwell time) :
    activeWork s = dwellWork time s := by
  unfold activeWork headBody
  rw [hq]
  simp [h]

theorem activeWork_move (hq : s.planner.queue = e :: rest) {targets : PerAxis (Option Int)} {m : FeedMode} {feed : Nat}
    (h : e.body = .move targets m feed) : activeWork s = moveWork m feed s := by
  unfold activeWork headBody
  rw [hq]
  simp [h]

/-- An entry without start actions or conditions works at the period that finds it at the head (R27, R35). -/
theorem periodWork_quiet (hrun : s.planner.state = .running) (hq : s.planner.queue = e :: rest)
    (h : e.body.kind = .dwell ∨ e.body.kind = .mark ∨ e.body.kind = .endProgram)
    (hwait : s.planner.coolantWait = false) (hspeed : s.planner.speedWait = false) :
    periodWork s = activeWork (promoted (periodBegun s)) := by
  have hready : entryReady (started (periodBegun s)) e = true := by
    unfold entryReady
    cases hb : e.body <;> simp_all [EntryBody.kind]
  have hcond : startConditions (started (periodBegun s)) = true := by
    rw [startConditions_cons (s := started (periodBegun s)) hq, hready]
    simp [started, periodBegun, hwait, hspeed]
  have hstarted : headWork (started (periodBegun s)) = activeWork (promoted (periodBegun s)) :=
    headWork_promotes hrun rfl hcond
  rw [periodWork_running hrun]
  by_cases hactive : s.planner.head = some .active
  · have hsame : promoted (periodBegun s) = periodBegun s := by
      simp [promoted, periodBegun, ← hactive, ← hspeed]
    rw [startHead_progress (s := periodBegun s) (.inr hactive), headWork_active (s := periodBegun s) hrun hactive,
      hsame]
  · by_cases hstarting : s.planner.head = some .starting
    · have hsame : started (periodBegun s) = periodBegun s := by
        simp [started, periodBegun, ← hstarting]
      rw [startHead_progress (s := periodBegun s) (.inl hstarting), ← hsame, hstarted, hsame]
    · rw [startHead_begins (s := periodBegun s) hq hstarting hactive, beginHead_quiet (s := periodBegun s) hq h hwait,
        hstarted]

end

end Sys2Proof.Machine

namespace Sys2Proof.Machine

/-! ## Entries that act at one period (O18) -/

section
variable {s : State} {e : Entry} {rest : List Entry}

theorem OnlyMotion.of_work {w t : State} (h : OnlyMotion w t) (hspindle : w.spindle = s.spindle)
    (hgear : w.gear = s.gear) (hcoolant : w.coolant = s.coolant) (hpendant : w.pendant = s.pendant)
    (hpending : w.pending = s.pending) : OnlyMotion s t := by
  rw [onlyMotion_iff] at *
  obtain ⟨h1, h2, h3, h4, h5⟩ := h
  exact ⟨h1.trans hspindle, h2.trans hgear, h3.trans hcoolant, h4.trans hpendant, h5.trans hpending⟩

/-- A period at which an entry that its being ACTIVE completes is ACTIVE or becomes so. -/
theorem period_done (hs : Settled s) (halone : HeadAlone s) (hroom : EventRoom s 1) (hrun : s.planner.state = .running)
    (hq : s.planner.queue = e :: rest) (hwait : s.planner.coolantWait = false) (hspeed : s.planner.speedWait = false)
    (h : e.body = .mark ∨ e.body = .endProgram
      ∨ (s.planner.head = some .active ∧ (e.body.kind = .spindle ∨ e.body.kind = .coolant))) :
    ∃ t, exec .interpolationPeriod s = .next t ∧ OnlyMotion s t
      ∧ Owes s t [] [.entryDone e.tag e.body.kind .completed] ∧ (∀ a, (t.axis a).claim = false)
      ∧ t.planner = (if e.body = .endProgram then idlePlanner rest else headGone s.planner rest) := by
  have hwork : ∃ w, periodWork s = (w, true) ∧ w.planner.state = .running ∧ w.planner.queue = e :: rest
      ∧ headGone w.planner rest = headGone s.planner rest
      ∧ w = { s with planner := w.planner, clocks := w.clocks } := by
    rcases h with h | h | ⟨hactive, h⟩
    · refine ⟨promoted (periodBegun s), ?_, hrun, hq, rfl, rfl⟩
      rw [periodWork_quiet hrun hq (by simp [h, EntryBody.kind]) hwait hspeed]
      exact activeWork_done hq (by simp [h, EntryBody.kind])
    · refine ⟨promoted (periodBegun s), ?_, hrun, hq, rfl, rfl⟩
      rw [periodWork_quiet hrun hq (by simp [h, EntryBody.kind]) hwait hspeed]
      exact activeWork_done hq (by simp [h, EntryBody.kind])
    · refine ⟨periodBegun s, ?_, hrun, hq, rfl, rfl⟩
      rw [periodWork_running hrun, startHead_progress (s := periodBegun s) (.inr hactive),
        headWork_active (s := periodBegun s) hrun hactive]
      exact activeWork_done hq (h.elim .inl fun k => .inr (.inl k))
  obtain ⟨w, hw, hstate, hqueue, hgone, hform⟩ := hwork
  obtain ⟨t, ht, honly, howes, hclaim, hplanner, -⟩ := period_completes hs halone hroom hw hstate hqueue
    (halone.worked (by rw [hform]) (fun a => by rw [hform]; rfl) (by rw [hform]) (by rw [hform]))
  refine ⟨t, ht, honly.of_work (by rw [hform]) (by rw [hform]) (by rw [hform]) (by rw [hform]) (by rw [hform]), howes,
    hclaim, ?_⟩
  rw [hplanner, hgone]

/-- A period of a DWELL (R36). -/
theorem period_dwell (hs : Settled s) (halone : HeadAlone s) (hroom : EventRoom s 1) (hrun : s.planner.state = .running)
    (hq : s.planner.queue = e :: rest) (hwait : s.planner.coolantWait = false) (hspeed : s.planner.speedWait = false)
    {time : Nat} {left : Int} (he : e.body = .dwell time) (hleft : left = s.planner.dwellLeft.getD time - 2) :
    ∃ t, exec .interpolationPeriod s = .next t ∧ OnlyMotion s t
      ∧ (0 < left →
          t.planner = { s.planner with head := some .active, dwellLeft := some left } ∧ Owes s t [] [])
      ∧ (left ≤ 0 →
          t.planner = headGone s.planner rest ∧ Owes s t [] [.entryDone e.tag .dwell .completed]) := by
  have hquiet := periodWork_quiet hrun hq (by simp [he, EntryBody.kind]) hwait hspeed
  rw [activeWork_dwell (s := promoted (periodBegun s)) hq he] at hquiet
  have hwork : periodWork s =
      ({ promoted (periodBegun s) with
          planner := { s.planner with head := some .active, speedWait := false, dwellLeft := some left } },
        decide (left ≤ 0)) := by
    rw [hquiet, hleft]
    rfl
  by_cases hpos : 0 < left
  · rw [decide_eq_false (by omega)] at hwork
    obtain ⟨t, ht, honly, howes, hplanner, -⟩ := period_stays hs halone hwork (.inl hrun)
      (halone.worked rfl (fun _ => rfl) rfl rfl)
    refine ⟨t, ht, honly.of_work rfl rfl rfl rfl rfl, fun _ => ⟨?_, howes⟩, fun h => absurd h (by omega)⟩
    rw [hplanner, ← hspeed]
  · rw [decide_eq_true (by omega)] at hwork
    obtain ⟨t, ht, honly, howes, -, hplanner, -⟩ := period_completes hs halone hroom hwork hrun hq
      (halone.worked rfl (fun _ => rfl) rfl rfl)
    rw [he] at howes hplanner
    exact ⟨t, ht, honly.of_work rfl rfl rfl rfl rfl, fun h => absurd h hpos, fun _ => ⟨hplanner, howes⟩⟩

/-- A period at which the head does nothing: none is in progress or begins, or HOLDING has nothing left to wait
for (R27, R42). -/
theorem period_rests (hs : Settled s) (halone : HeadAlone s)
    (h : s.planner.state = .idle ∨ s.planner.state = .held ∨ s.planner.queue = []
      ∨ (s.planner.state = .holding ∧ activeMove s = false)) (haborting : s.planner.state ≠ .aborting) :
    ∃ t, exec .interpolationPeriod s = .next t ∧ OnlyMotion s t ∧ Owes s t [] []
      ∧ t.planner = { s.planner with state := if s.planner.state = .holding then .held else s.planner.state } := by
  have hkept : periodWork s = (periodBegun s, false) → s.planner.state ≠ .holding →
      ∃ t, exec .interpolationPeriod s = .next t ∧ OnlyMotion s t ∧ Owes s t [] []
        ∧ t.planner = { s.planner with state := if s.planner.state = .holding then .held else s.planner.state } := by
    intro hw hholding
    have hstate : s.planner.state = .running ∨ s.planner.state = .held ∨ s.planner.state = .idle := by
      cases hst : s.planner.state
      case aborting => exact absurd hst haborting
      case holding => exact absurd hst hholding
      all_goals simp
    obtain ⟨t, ht, honly, howes, hsame, -⟩ := period_stays hs halone hw hstate
      (halone.worked rfl (fun _ => rfl) rfl rfl)
    refine ⟨t, ht, honly.of_work rfl rfl rfl rfl rfl, howes, ?_⟩
    rw [hsame, if_neg hholding]
    rfl
  cases hst : s.planner.state with
  | idle => simpa [hst] using hkept (periodWork_resting (.inl hst)) (by simp [hst])
  | held => simpa [hst] using hkept (periodWork_resting (.inr hst)) (by simp [hst])
  | aborting => exact absurd hst haborting
  | running =>
    have hempty : s.planner.queue = [] := by simpa [hst] using h
    have hwork : periodWork s = (periodBegun s, false) := by
      rw [periodWork_running hst, startHead_eq_self (s := periodBegun s) (.inr hempty)]
      by_cases hactive : s.planner.head = some .active
      · rw [headWork_active (s := periodBegun s) hst hactive]
        simp [activeWork, headBody, periodBegun, hempty]
      · exact headWork_waits hactive fun _ => by simp [startConditions, periodBegun, hempty]
    simpa [hst] using hkept hwork (by simp [hst])
  | holding =>
    have hmove : activeMove s = false := by
      rcases h with h | h | h | ⟨-, h⟩
      · simp [hst] at h
      · simp [hst] at h
      · simp [activeMove, headBody, h]
      · exact h
    have hwork : periodWork s = (periodBegun s, false) := by
      have hbegun : activeMove (periodBegun s) = false := hmove
      simp only [periodBegun] at hbegun
      simp [periodWork, plannerWork, periodBegun, hst, hbegun]
    obtain ⟨u, t, ht, haside, honly, hplanner, howes, -⟩ := period_outcome hs halone hwork
      (halone.worked rfl (fun _ => rfl) rfl rfl)
    obtain ⟨⟨-, uplanner, -⟩, -⟩ := aside_iff.1 haside
    have hheld : plannerFinish false u = becomeHeld u := by
      have hbegun : activeMove u = false := by rw [activeMove, headBody, uplanner]; exact hmove
      have hstate : u.planner.state = .holding := by rw [uplanner]; exact hst
      simp [plannerFinish, hstate, hbegun]
    rw [hheld] at hplanner howes
    refine ⟨t, ht, honly.of_work rfl rfl rfl rfl rfl, howes [] (Owes.refl u), ?_⟩
    rw [hplanner, becomeHeld, uplanner]
    rfl

end

end Sys2Proof.Machine

namespace Sys2Proof.Machine

/-! ## A SPINDLE or COOLANT at the head (R33, R34) -/

section
variable {s : State} {e : Entry} {rest : List Entry}

/-- A SPINDLE or COOLANT that is STARTING: it completes at the period that finds its conditions to hold, and waits at
any other (R27, R33, R34). -/
theorem period_starting (hs : Settled s) (halone : HeadAlone s) (hroom : EventRoom s 1) {w : State}
    (hw : periodWork s = headWork w) (hrun : w.planner.state = .running) (hhead : w.planner.head = some .starting)
    (hq : w.planner.queue = e :: rest) (hkind : e.body.kind = .spindle ∨ e.body.kind = .coolant)
    (hworked : Worked s w) :
    ∃ t, exec .interpolationPeriod s = .next t ∧ OnlyMotion w t
      ∧ (startConditions w = true → Owes s t [] [.entryDone e.tag e.body.kind .completed]
          ∧ (∀ a, (t.axis a).claim = false) ∧ t.planner = headGone w.planner rest)
      ∧ (startConditions w = false → Owes s t [] [] ∧ t.planner = w.planner) := by
  cases hcond : startConditions w with
  | true =>
    have hdone : periodWork s = (promoted w, true) := by
      rw [hw, headWork_promotes hrun hhead hcond]
      exact activeWork_done (s := promoted w) hq (hkind.elim .inl fun k => .inr (.inl k))
    obtain ⟨t, ht, honly, howes, hclaim, hplanner, -⟩ := period_completes hs halone hroom hdone hrun hq hworked
    have hend : e.body ≠ .endProgram := by intro h; simp [h, EntryBody.kind] at hkind
    rw [if_neg hend] at hplanner
    exact ⟨t, ht, honly.of_work rfl rfl rfl rfl rfl, fun _ => ⟨howes, hclaim, hplanner⟩, fun h => by cases h⟩
  | false =>
    have hwaits : periodWork s = (w, false) := by
      rw [hw]
      exact headWork_waits (by simp [hhead]) fun _ => hcond
    obtain ⟨t, ht, honly, howes, hplanner, -⟩ := period_stays hs halone hwaits (.inl hrun) hworked
    exact ⟨t, ht, honly, fun h => (by cases h), fun _ => ⟨howes, hplanner⟩⟩

/-- A QUEUED head begins and then works as a STARTING one does (R27). -/
theorem periodWork_begins (hrun : s.planner.state = .running) (hq : s.planner.queue = e :: rest)
    (hhead : s.planner.head = some .queued) :
    periodWork s = headWork (startChecks (startActions (started (periodBegun s)))) := by
  rw [periodWork_running hrun, startHead_begins (s := periodBegun s) hq (by simp [periodBegun, hhead])
    (by simp [periodBegun, hhead])]
  rfl

/-- A period leaves the E-stop state (R183). -/
theorem period_estop {t : State} (h : exec .interpolationPeriod s = .next t) : t.stop.estop = s.stop.estop := by
  rw [exec_interpolationPeriod] at h
  obtain ⟨-, -, -, -, -, -, -, -, -, -, -, -, -, -, -, -, -, hestop, -⟩ := afterPeriod_inputs s
  cases h
  exact hestop

/-- What speeds R106 gives: the stop chain counts by the E-stop state alone. -/
theorem commandedSpeed_of_estop {s t : State} (hspindle : t.spindle = s.spindle) (hgear : t.gear = s.gear)
    (hestop : t.stop.estop = s.stop.estop) (hcoolant : t.coolant = s.coolant) (hpendant : t.pendant = s.pendant) :
    commandedSpeed t t.spindle = commandedSpeed s s.spindle := by
  unfold commandedSpeed currentRow unionCeiling
  rw [hspindle, hgear, hestop, hcoolant, hpendant]

theorem formSpeed_commandedDir (s : State) : (formSpeed s).spindle.commandedDir = s.spindle.commandedDir := by
  have htarget : ∀ p, (withTarget s p).commandedDir = p.commandedDir := fun p => by
    unfold withTarget; split <;> rfl
  have hsettled : ∀ p, (settled s p).commandedDir = p.commandedDir := fun p => by
    unfold settled; (repeat' split) <;> simp [htarget]
  simp [formSpeed, withSpeed, hsettled, htarget]

/-- The current range's row is that of a gearbox in a range. -/
theorem inRange_of_currentRow {row : RangeRow} (h : currentRow s = some row) : s.gear.gearbox.inRange = true := by
  unfold currentRow at h
  split at h <;> simp_all [Gearbox.inRange]

/-- A speed of 0, and one that the current range holds, select no range (R128). -/
theorem selectRange_none {speed : Nat}
    (h : speed = 0 ∨ ∃ row, currentRow s = some row ∧ row.min ≤ speed ∧ speed ≤ row.max) :
    selectRange s speed none s.gear.gearbox.range? = none := by
  unfold selectRange
  cases htable : s.gear.table with
  | none => rfl
  | some t =>
    rcases h with h | ⟨row, hrow, hmin, hmax⟩
    · simp [h]
    · cases hbox : s.gear.gearbox <;> simp [currentRow, htable, hbox] at hrow
      subst hrow
      simp [Gearbox.range?, RangeRow.contains, hmin, hmax]

/-- The spindle command's own part of the record (R107). -/
def handed (speed : Nat) (d : Rotation) (s : State) : State :=
  { s with spindle := { s.spindle with sProg := speed, commandedDir := d, stoppedByOperator := false } }

/-- A spindle command that the Gear Sequencer has no change to begin for (R107, R128). -/
theorem spindleCommand_quiet {o : Owner} {speed : Nat} {d : Rotation} (hstep : s.gear.step = .idle)
    (hfault : speed = 0 ∨ hasSpindleFault s = false)
    (hrow : speed = 0 ∨ ∃ row, currentRow s = some row ∧ row.min ≤ speed ∧ speed ≤ row.max) :
    spindleCommand o speed d none s = formSpeed (handed speed d s) := by
  have hgear : ∀ t : State, t.gear = s.gear → gearCommand o speed none t = t := fun t ht => by
    have hselect : selectRange t speed none t.gear.gearbox.range? = none :=
      selectRange_none (hrow.imp id fun ⟨row, h⟩ => ⟨row, by rwa [currentRow_congr ht]⟩)
    rw [gearCommand, ht, hstep]
    simp only
    rw [commandAtIdle, hselect]
  have hspeed : ∀ t : State, t.gear = s.gear → handSpeed o speed none t = formSpeed t := fun t ht => by
    rw [handSpeed, hgear t ht]
  have hhanded := hspeed (handed speed d s) rfl
  rw [spindleCommand, if_neg (by rcases hfault with h | h <;> simp [h])]
  exact (withOpportunity_of_eq (s := handed speed d s) (by rw [hhanded]; simp [handed])).trans hhanded

/-- The command of a SPINDLE while the spindle is faulted is not taken, and holds the program (R33, R40, R107). -/
theorem period_spindle_faulted (hs : Settled s) (halone : HeadAlone s) (hrun : s.planner.state = .running)
    (hq : s.planner.queue = e :: rest) (hwait : s.planner.coolantWait = false) (hhead : s.planner.head = some .queued)
    (hcauses : s.planner.causes = .empty) {speed : Nat} {d : Rotation} {forced : Option GearRange} {wait : Bool}
    (he : e.body = .spindle speed d forced wait) (hspeed : speed ≠ 0) (hfault : hasSpindleFault s = true) :
    ∃ t, exec .interpolationPeriod s = .next t ∧ OnlyMotion s t ∧ Owes s t [] []
      ∧ t.planner.state = .held ∧ t.planner.head = some .starting
      ∧ t.planner.causes = { CauseSet.empty with spindle := true } ∧ t.planner.queue = s.planner.queue := by
  have hactions : startActions (started (periodBegun s)) = raiseCause .spindle (started (periodBegun s)) := by
    have hfaulted : hasSpindleFault (started (periodBegun s)) = true := hfault
    simp [startActions, started, periodBegun, hq, he, spindleCommand, hspeed] at hfaulted ⊢
    simp [hfaulted]
  have hraised := raiseCause_waiting (s := started (periodBegun s)) hrun (by simp [started]) .spindle
  have hsame : (raiseCause .spindle (started (periodBegun s))).planner.head = some .starting
      ∧ (raiseCause .spindle (started (periodBegun s))).planner.coolantWait = false := by
    simp [raiseCause, started, periodBegun, hrun, hwait]
  obtain ⟨hheld, hput⟩ := hraised
  obtain ⟨hstarting, hunarmed⟩ := hsame
  have hwork : periodWork s = (raiseCause .spindle (started (periodBegun s)), false) := by
    rw [periodWork_begins hrun hq hhead, hactions,
      startChecks_nonMove (e := e) (rest := rest) (by simp [started, periodBegun, hq]) (by simp [he, EntryBody.isMove]),
      hunarmed, Bool.false_and, raiseIf_false]
    exact headWork_held (by simp [hheld])
  obtain ⟨t, ht, honly, howes, hplanner, -⟩ := period_stays hs halone hwork (.inr (.inl hheld))
    (halone.worked (by simp [started, periodBegun]) (fun a => by simp [started, periodBegun, State.axis])
      (by simp [started, periodBegun]) (by simp [started, periodBegun]))
  refine ⟨t, ht, honly.of_work ?_ ?_ ?_ ?_ ?_, howes, ?_, ?_, ?_, ?_⟩
  any_goals simp [started, periodBegun]
  · rw [hplanner, hheld]
  · rw [hplanner, hstarting]
  · rw [hplanner, hput, started, periodBegun, hcauses]
    rfl
  · rw [hplanner]
    simp [started, periodBegun]

/-- A SPINDLE that begins with no range change to wait for (R33, R106, R107). -/
theorem period_spindle (hs : Settled s) (halone : HeadAlone s) (hroom : EventRoom s 1)
    (hrun : s.planner.state = .running) (hq : s.planner.queue = e :: rest) (hwait : s.planner.coolantWait = false)
    (hspeedWait : s.planner.speedWait = false) (hhead : s.planner.head = some .queued)
    (hdeferred : s.gear.deferred = none) {speed : Nat} {d : Rotation} {wait : Bool}
    (he : e.body = .spindle speed d none wait) (hfault : speed = 0 ∨ hasSpindleFault s = false)
    (hrow : speed = 0 ∨ ∃ row, currentRow s = some row ∧ row.min ≤ speed ∧ speed ≤ row.max) :
    ∃ t, exec .interpolationPeriod s = .next t ∧ OnlyMotion { s with spindle := t.spindle } t
      ∧ t.spindle.sProg = speed ∧ t.spindle.commandedDir = d ∧ t.spindle.stoppedByOperator = false
      ∧ t.spindle.sCmd = (commandedSpeed t t.spindle).1
      ∧ (if wait = false ∨ (if speed = 0 then t.spindle.stopped else t.spindle.atSpeed) = true then
          t.planner = headGone s.planner rest ∧ Owes s t [] [.entryDone e.tag .spindle .completed]
        else t.planner = { s.planner with head := some .starting } ∧ Owes s t [] []) := by
  have hnew : ∃ w, w = formSpeed (handed speed d (started (periodBegun s))) := ⟨_, rfl⟩
  obtain ⟨w, hw⟩ := hnew
  have hactions : startActions (started (periodBegun s)) = w := by
    have hcommand := spindleCommand_quiet (s := started (periodBegun s)) (o := .entry e.tag) (d := d) halone.step
      hfault hrow
    rw [hw]
    refine Eq.trans ?_ hcommand
    simp [startActions, started, periodBegun, hq, he]
  have hplanner : w.planner = { s.planner with head := some .starting } := by
    rw [hw]
    simp [handed, started, periodBegun]
  have hqueue : w.planner.queue = e :: rest := by rw [hplanner]; exact hq
  have hwork : periodWork s = headWork w := by
    rw [periodWork_begins hrun hq hhead, hactions, startChecks_nonMove hqueue (by simp [he, EntryBody.isMove]),
      hplanner, hwait]
    rfl
  have hgear : w.gear = s.gear := by rw [hw]; simp [handed, started, periodBegun]
  obtain ⟨t, ht, honly, hdone, hwaits⟩ := period_starting hs halone hroom hwork (by rw [hplanner]; exact hrun)
    (by rw [hplanner]) hqueue (by simp [he, EntryBody.kind])
    (halone.worked (by rw [hgear]) (fun a => by rw [hw]; simp [handed, started, periodBegun, State.axis])
      (by rw [hw]; simp [handed, started, periodBegun]) (by rw [hw]; simp [handed, started, periodBegun]))
  obtain ⟨hspindle, -⟩ := onlyMotion_iff.1 honly
  have hformed : t.spindle.sProg = speed ∧ t.spindle.commandedDir = d ∧ t.spindle.stoppedByOperator = false := by
    rw [hspindle, hw]
    simp [formSpeed_commandedDir, handed]
  obtain ⟨hprog, hdir, hstopped⟩ := hformed
  have hcmd : t.spindle.sCmd = (commandedSpeed t t.spindle).1 := by
    have hall := onlyMotion_iff.1 honly
    obtain ⟨-, tgear, tcoolant, tpendant, -⟩ := hall
    have hestop : t.stop.estop = w.stop.estop := by
      rw [period_estop ht, hw]
      simp [handed, started, periodBegun]
    rw [commandedSpeed_of_estop hspindle tgear hestop tcoolant tpendant, hspindle, hw]
    exact formSpeed_sCmd _
  have hcond : startConditions w = true
      ↔ wait = false ∨ (if speed = 0 then t.spindle.stopped else t.spindle.atSpeed) = true := by
    have hrange : (speed == 0 || w.gear.gearbox.inRange) = true := by
      rcases hrow with h | ⟨row, hrow, -⟩
      · simp [h]
      · simp [hgear, inRange_of_currentRow hrow]
    have hchange : changeFor w e.tag = false := by simp [changeFor, hgear, halone.step, hdeferred]
    rw [startConditions_cons hqueue, entryReady, he]
    simp [hchange, hrange, hplanner, hwait, hspeedWait, hspindle]
  refine ⟨t, ht, ?_, hprog, hdir, hstopped, hcmd, ?_⟩
  · rw [onlyMotion_iff] at honly ⊢
    obtain ⟨-, k2, k3, k4, k5⟩ := honly
    rw [k2, k3, k4, k5, hw]
    simp [handed, started, periodBegun]
  · by_cases h : wait = false ∨ (if speed = 0 then t.spindle.stopped else t.spindle.atSpeed) = true
    · obtain ⟨howes, -, hgone⟩ := hdone (hcond.2 h)
      rw [he] at howes
      rw [if_pos h]
      exact ⟨by rw [hgone, hplanner]; rfl, howes⟩
    · obtain ⟨howes, hkept⟩ := hwaits (Bool.eq_false_iff.2 (mt hcond.1 h))
      rw [if_neg h]
      exact ⟨hkept.trans hplanner, howes⟩

end

end Sys2Proof.Machine

namespace Sys2Proof.Machine

/-! ## A QUEUED COOLANT (R34, R145) -/

section
variable {s : State} {e : Entry} {rest : List Entry}

/-- With the coolant wait not armed the planner does not hear of TSC (R153). -/
theorem stopTsc_unarmed (h : s.planner.coolantWait = false) (new : TscState) : stopTsc new s = leaveTsc new s := by
  simp [stopTsc, h]

theorem placeTsc_unarmed (h : s.planner.coolantWait = false) : (placeTsc s).planner = s.planner := by
  unfold placeTsc startJudgement
  (repeat' split) <;> simp [stopTsc_unarmed h]

theorem moveTsc_unarmed (h : s.planner.coolantWait = false) : (moveTsc s).planner = s.planner := by
  have hpurging := placeTsc_unarmed (s := { s with coolant := { s.coolant with purgeTimer := none } }) h
  unfold moveTsc
  (repeat' split) <;> simp [placeTsc_unarmed h, hpurging]

/-- What TSC's states leave of the Coolant Unit and of the spindle command: the requests, the flood state and S_prog. -/
def RequestsKept (s t : State) : Prop :=
  t.coolant.floodRequested = s.coolant.floodRequested ∧ t.coolant.tscRequested = s.coolant.tscRequested
    ∧ t.coolant.flood = s.coolant.flood ∧ t.spindle.sProg = s.spindle.sProg

theorem leaveTsc_requests (new : TscState) (s : State) : RequestsKept s (leaveTsc new s) := by simp [RequestsKept]

theorem stopTsc_requests (new : TscState) (s : State) : RequestsKept s (stopTsc new s) := by simp [RequestsKept]

theorem startJudgement_requests (s : State) : RequestsKept s (startJudgement s) := by
  unfold startJudgement
  split
  · exact leaveTsc_requests ..
  · split
    · exact stopTsc_requests ..
    · simp [RequestsKept, enterBuilding]

theorem placeTsc_requests (s : State) : RequestsKept s (placeTsc s) := by
  unfold placeTsc
  split
  · exact stopTsc_requests ..
  · exact startJudgement_requests s

theorem startPurge_requests (s : State) : RequestsKept s (startPurge s) := by
  unfold startPurge
  split
  · exact leaveTsc_requests ..
  · simp [RequestsKept]

theorem moveTsc_requests (s : State) : RequestsKept s (moveTsc s) := by
  have hkept : RequestsKept s s := ⟨rfl, rfl, rfl, rfl⟩
  have hpurging : RequestsKept s (placeTsc { s with coolant := { s.coolant with purgeTimer := none } }) :=
    placeTsc_requests _
  unfold moveTsc
  (repeat' split) <;>
    simp only [hkept, hpurging, placeTsc_requests, startPurge_requests, leaveTsc_requests]

/-- A coolant request in ARMED (R145). -/
theorem coolantRequest_armed (h : s.stop.estop = .armed) (m : CoolantMode) :
    (coolantRequest m s).coolant.floodRequested = m.asksFlood ∧ (coolantRequest m s).coolant.tscRequested = m.asksTsc
      ∧ (coolantRequest m s).coolant.flood =
          (if m.asksFlood then (if levelInhibit s then .inhibited else .on) else .off)
      ∧ (coolantRequest m s).spindle.sProg = s.spindle.sProg
      ∧ (s.planner.coolantWait = false → (coolantRequest m s).planner = s.planner) := by
  have hasked : ∃ r : State, coolantRequest m s = moveTsc r ∧ r.planner = s.planner ∧ r.spindle = s.spindle
      ∧ r.coolant = { s.coolant with
          floodRequested := m.asksFlood, tscRequested := m.asksTsc
          flood := floodFor m.asksFlood (levelInhibit s) } := by
    refine ⟨{ s with coolant := { s.coolant with
      floodRequested := m.asksFlood, tscRequested := m.asksTsc, flood := floodFor m.asksFlood (levelInhibit s) } },
      ?_, rfl, rfl, rfl⟩
    simp [coolantRequest, setRequests, h]
  obtain ⟨r, hr, rplanner, rspindle, rcoolant⟩ := hasked
  obtain ⟨hflood, htsc, hstate, hprog⟩ := moveTsc_requests r
  rw [rcoolant] at hflood htsc hstate
  rw [hr]
  exact ⟨hflood, htsc, hstate, by rw [hprog, rspindle], fun hwait => by
    rw [moveTsc_unarmed (by rw [rplanner, hwait]), rplanner]⟩

/-- A COOLANT whose wait is armed: HELD where TSC is stopped already, and waiting anywhere else (R34, R40). -/
theorem period_coolantArmed (hs : Settled s) (halone : HeadAlone s) (hrun : s.planner.state = .running)
    (hq : s.planner.queue = e :: rest) (hcauses : s.planner.causes = .empty) (hmove : e.body.isMove = false) {w : State}
    (hwork : periodWork s = headWork (startChecks w))
    (hplanner : w.planner = { s.planner with head := some .starting, coolantWait := true })
    (hready : w.coolant.tsc ≠ .ready) (hworked : Worked s w) :
    ∃ t, exec .interpolationPeriod s = .next t ∧ OnlyMotion w t ∧ Owes s t [] []
      ∧ (w.coolant.tsc = .faulted ∨ w.coolant.tsc = .blocked →
          t.planner.state = .held ∧ t.planner.head = some .starting ∧ t.planner.coolantWait = true
            ∧ t.planner.causes = { CauseSet.empty with coolant := true })
      ∧ (¬(w.coolant.tsc = .faulted ∨ w.coolant.tsc = .blocked) → t.planner = w.planner) := by
  have hqueue : w.planner.queue = e :: rest := by rw [hplanner]; exact hq
  have hrunning : w.planner.state = .running := by rw [hplanner]; exact hrun
  rw [startChecks_nonMove hqueue hmove] at hwork
  by_cases hbad : w.coolant.tsc = .faulted ∨ w.coolant.tsc = .blocked
  · obtain ⟨hheld, hput⟩ := raiseCause_waiting hrunning (by simp [hplanner]) .coolant
    have hsame : (raiseCause .coolant w).planner.head = some .starting
        ∧ (raiseCause .coolant w).planner.coolantWait = true := by simp [raiseCause, hplanner, hrun]
    obtain ⟨hfirst, harmed⟩ := hsame
    have hraised : periodWork s = (raiseCause .coolant w, false) := by
      rw [hwork, raiseIf, if_pos (by simpa [hplanner] using hbad)]
      exact headWork_held (by simp [hheld])
    obtain ⟨t, ht, honly, howes, hkept, -⟩ := period_stays hs halone hraised (.inr (.inl hheld))
      (by simpa [Worked, State.axis] using hworked)
    rw [← hkept] at hheld hput hfirst harmed
    rw [hplanner, hcauses] at hput
    exact ⟨t, ht, honly.of_work (by simp) (by simp) (by simp) (by simp) (by simp), howes,
      fun _ => ⟨hheld, hfirst, harmed, hput⟩, fun h => absurd hbad h⟩
  · have hstays : periodWork s = (w, false) := by
      rw [hwork, raiseIf, if_neg (by simpa [hplanner] using hbad)]
      refine headWork_waits (by simp [hplanner]) fun _ => ?_
      rw [startConditions_cons hqueue]
      simp [hplanner, hready]
    obtain ⟨t, ht, honly, howes, hkept, -⟩ := period_stays hs halone hstays (.inl hrunning) hworked
    exact ⟨t, ht, honly, howes, fun h => absurd h hbad, fun _ => hkept⟩

/-- A COOLANT that begins passes its request, and waits where its flag takes effect (R34). -/
theorem period_coolant (hs : Settled s) (halone : HeadAlone s) (hroom : EventRoom s 1)
    (hrun : s.planner.state = .running) (hq : s.planner.queue = e :: rest) (hunarmed : s.planner.coolantWait = false)
    (hspeedWait : s.planner.speedWait = false) {m : CoolantMode} {wait : Bool} (he : e.body = .coolant m wait)
    (hhead : s.planner.head = some .queued) (hcauses : s.planner.causes = .empty) (harmed : s.stop.estop = .armed) :
    ∃ t, exec .interpolationPeriod s = .next t
      ∧ OnlyMotion { s with spindle := t.spindle, coolant := t.coolant } t
      ∧ t.coolant.floodRequested = m.asksFlood ∧ t.coolant.tscRequested = m.asksTsc
      ∧ t.coolant.flood = (if m.asksFlood then (if levelInhibit s then .inhibited else .on) else .off)
      ∧ t.spindle.sProg = s.spindle.sProg
      ∧ (wait = false ∨ m.asksTsc = false ∨ t.coolant.tsc = .ready →
          t.planner = headGone s.planner rest ∧ Owes s t [] [.entryDone e.tag .coolant .completed])
      ∧ (wait = true → m.asksTsc = true → t.coolant.tsc = .faulted ∨ t.coolant.tsc = .blocked →
          t.planner.state = .held ∧ t.planner.head = some .starting ∧ t.planner.coolantWait = true
            ∧ t.planner.causes = { CauseSet.empty with coolant := true } ∧ Owes s t [] [])
      ∧ (wait = true → m.asksTsc = true → t.coolant.tsc ≠ .ready → t.coolant.tsc ≠ .faulted →
          t.coolant.tsc ≠ .blocked →
          t.planner = { s.planner with head := some .starting, coolantWait := true } ∧ Owes s t [] []) := by
  obtain ⟨r, hr⟩ : ∃ r, r = coolantRequest m (started (periodBegun s)) := ⟨_, rfl⟩
  have hfields := coolantRequest_armed (s := started (periodBegun s)) harmed m
  rw [← hr] at hfields
  obtain ⟨hflood, htsc, hstate, hprog, hkept⟩ := hfields
  have hplanner : r.planner = { s.planner with head := some .starting } := hkept hunarmed
  have hwork : periodWork s = headWork (startChecks (armWait m wait r)) := by
    have hactions : startActions (started (periodBegun s)) = armWait m wait r := by
      rw [hr]
      simp [startActions, started, periodBegun, hq, he]
    rw [periodWork_begins hrun hq hhead, hactions]
  have hframe : r.link = s.link ∧ r.axes = s.axes ∧ r.gear = s.gear ∧ r.pendant = s.pendant
      ∧ r.pending = s.pending := by rw [hr]; simp [started, periodBegun]
  obtain ⟨rlink, raxes, rgear, rpendant, rpending⟩ := hframe
  have hworked : ∀ w : State, w.link = r.link → w.axes = r.axes → w.gear = r.gear → w.pendant = r.pendant →
      Worked s w := fun w h1 h2 h3 h4 =>
    halone.worked (by rw [h3, rgear]) (fun a => by rw [State.axis, h2, raxes]; rfl) (h4.trans rpendant)
      (h1.trans rlink)
  suffices h : ∃ t, exec .interpolationPeriod s = .next t ∧ OnlyMotion r t
      ∧ (wait = false ∨ m.asksTsc = false ∨ r.coolant.tsc = .ready →
          t.planner = headGone s.planner rest ∧ Owes s t [] [.entryDone e.tag .coolant .completed])
      ∧ (wait = true → m.asksTsc = true → r.coolant.tsc = .faulted ∨ r.coolant.tsc = .blocked →
          t.planner.state = .held ∧ t.planner.head = some .starting ∧ t.planner.coolantWait = true
            ∧ t.planner.causes = { CauseSet.empty with coolant := true } ∧ Owes s t [] [])
      ∧ (wait = true → m.asksTsc = true → r.coolant.tsc ≠ .ready → r.coolant.tsc ≠ .faulted →
          r.coolant.tsc ≠ .blocked →
          t.planner = { s.planner with head := some .starting, coolantWait := true } ∧ Owes s t [] []) by
    obtain ⟨t, ht, honly, hrest⟩ := h
    obtain ⟨tspindle, tgear, tcoolant, tpendant, tpending⟩ := onlyMotion_iff.1 honly
    refine ⟨t, ht, onlyMotion_iff.2
      ⟨rfl, tgear.trans rgear, rfl, tpendant.trans rpendant, tpending.trans rpending⟩, ?_⟩
    rw [tcoolant, tspindle]
    exact ⟨hflood, htsc, hstate, hprog, hrest⟩
  by_cases hwaits : wait = true ∧ m.asksTsc = true ∧ r.coolant.tsc ≠ .ready
  · obtain ⟨hwait, hasks, hready⟩ := hwaits
    obtain ⟨w, hw⟩ : ∃ w, w = { r with planner := { r.planner with coolantWait := true } } := ⟨_, rfl⟩
    have harm : armWait m wait r = w := by simp [armWait, hwait, hasks, hready, hw]
    have hstarting : w.planner = { s.planner with head := some .starting, coolantWait := true } := by
      rw [hw, hplanner]
    rw [harm] at hwork
    obtain ⟨t, ht, honly, howes, hstopped, hgoes⟩ := period_coolantArmed hs halone hrun hq hcauses
      (by simp [he, EntryBody.isMove]) hwork hstarting (by rwa [hw]) (hworked w (by rw [hw]) (by rw [hw]) (by rw [hw])
      (by rw [hw]))
    have hwtsc : w.coolant.tsc = r.coolant.tsc := by rw [hw]
    rw [hwtsc] at hstopped hgoes
    refine ⟨t, ht, honly.of_work (by rw [hw]) (by rw [hw]) (by rw [hw]) (by rw [hw]) (by rw [hw]), ?_,
      fun _ _ hbad => ?_,
      fun _ _ _ h1 h2 => ⟨(hgoes (not_or.2 ⟨h1, h2⟩)).trans hstarting, howes⟩⟩
    · simp [hwait, hasks, hready]
    · obtain ⟨hheld, hfirst, harmed, hput⟩ := hstopped hbad
      exact ⟨hheld, hfirst, harmed, hput, howes⟩
  · have hqueue : r.planner.queue = e :: rest := by rw [hplanner]; exact hq
    have harm : armWait m wait r = r := by
      rw [armWait, if_neg]
      simpa [and_assoc] using hwaits
    rw [harm, startChecks_nonMove hqueue (by simp [he, EntryBody.isMove]), hplanner, hunarmed, Bool.false_and,
      raiseIf_false] at hwork
    obtain ⟨t, ht, honly, hdone, -⟩ := period_starting hs halone hroom hwork (by rw [hplanner]; exact hrun)
      (by rw [hplanner]) hqueue (.inr (by simp [he, EntryBody.kind])) (hworked r rfl rfl rfl rfl)
    obtain ⟨howes, -, hgone⟩ := hdone (by
      rw [startConditions_cons hqueue]
      simp [hplanner, hunarmed, hspeedWait, entryReady, he])
    rw [he] at howes
    refine ⟨t, ht, honly, fun _ => ⟨?_, howes⟩, fun h1 h2 h3 => absurd ⟨h1, h2, ?_⟩ hwaits,
      fun h1 h2 h3 => absurd ⟨h1, h2, h3⟩ hwaits⟩
    · rw [hgone, hplanner]
      rfl
    · rcases h3 with h3 | h3 <;> simp [h3]

/-! ## A STARTING head (R27) -/

/-- A STARTING head whose conditions fail waits. -/
theorem period_waits (hs : Settled s) (halone : HeadAlone s) (hrun : s.planner.state = .running)
    (hq : s.planner.queue = e :: rest) (hhead : s.planner.head = some .starting)
    (h : (s.planner.coolantWait = true ∧ s.coolant.tsc ≠ .ready)
      ∨ (s.planner.speedWait = true ∧ s.spindle.atSpeed = false)
      ∨ (∃ speed d forced, e.body = .spindle speed d forced true
          ∧ (if speed = 0 then s.spindle.stopped else s.spindle.atSpeed) = false)
      ∨ (∃ targets m feed c, e.body = .move targets m feed ∧ s.planner.context = some c
          ∧ ((∃ a, (c.legs.get a).isSome = true ∧ clampReleased s a = false)
            ∨ (m = .perRev ∧ c.moves = true ∧ s.spindle.atSpeed = false)))) :
    ∃ t, exec .interpolationPeriod s = .next t ∧ OnlyMotion s t ∧ Owes s t [] [] ∧ t.planner = s.planner := by
  have hcond : startConditions s = false := by
    rw [startConditions_cons hq]
    rcases h with ⟨h1, h2⟩ | ⟨h1, h2⟩ | ⟨speed, _, _, hbody, h1⟩ | ⟨_, m, _, c, hbody, hc, h1⟩
    · simp [h1, h2]
    · simp [h1, h2]
    · simp [entryReady, hbody, h1]
    · have hready : entryReady s e = false := by
        rw [entryReady, hbody]
        simp only [hc]
        rcases h1 with ⟨a, hleg, hclamp⟩ | ⟨hm, hmoves, hspeed⟩
        · have hnot : clampsReady s c = false := by
            simp only [clampsReady, List.all_eq_false]
            exact ⟨a, by cases a <;> decide, by simp [hleg, hclamp]⟩
          simp [hnot]
        · simp [hm, hmoves, spindleReady, hspeed]
      simp [hready]
  have hwork : periodWork s = (periodBegun s, false) := by
    rw [periodWork_running hrun, startHead_progress (s := periodBegun s) (.inl hhead)]
    exact headWork_waits (by simp [periodBegun, hhead]) fun _ => hcond
  obtain ⟨t, ht, honly, howes, hsame, -⟩ := period_stays hs halone hwork (.inl hrun)
    (halone.worked rfl (fun _ => rfl) rfl rfl)
  exact ⟨t, ht, honly.of_work rfl rfl rfl rfl rfl, howes, hsame⟩

/-- A STARTING SPINDLE or COOLANT whose conditions hold completes (R33, R34). -/
theorem period_promotes (hs : Settled s) (halone : HeadAlone s) (hroom : EventRoom s 1)
    (hrun : s.planner.state = .running) (hq : s.planner.queue = e :: rest) (hhead : s.planner.head = some .starting)
    (hcoolant : s.planner.coolantWait = false ∨ s.coolant.tsc = .ready)
    (hspeed : s.planner.speedWait = false ∨ s.spindle.atSpeed = true)
    (h : (∃ speed d forced wait, e.body = .spindle speed d forced wait ∧ s.gear.deferred = none
        ∧ (speed = 0 ∨ s.gear.gearbox.inRange = true)
        ∧ (wait = false ∨ (if speed = 0 then s.spindle.stopped else s.spindle.atSpeed) = true))
      ∨ (∃ m wait, e.body = .coolant m wait)) :
    ∃ t, exec .interpolationPeriod s = .next t ∧ OnlyMotion s t
      ∧ Owes s t [] [.entryDone e.tag e.body.kind .completed] ∧ (∀ a, (t.axis a).claim = false)
      ∧ t.planner = headGone s.planner rest := by
  have hready : entryReady s e = true := by
    rcases h with ⟨speed, d, forced, wait, hbody, hdeferred, hrange, hwait⟩ | ⟨m, wait, hbody⟩
    · have hchange : changeFor s e.tag = false := by simp [changeFor, halone.step, hdeferred]
      rw [entryReady, hbody]
      simp only [hchange, Bool.not_false, Bool.true_and, Bool.and_eq_true, Bool.or_eq_true, beq_iff_eq,
        Bool.not_eq_true']
      exact ⟨hrange, hwait⟩
    · simp [entryReady, hbody]
  have hcond : startConditions (periodBegun s) = true := by
    refine (startConditions_cons (s := periodBegun s) hq).trans ?_
    have hbegun : entryReady (periodBegun s) e = true := hready
    rw [hbegun]
    simpa [periodBegun] using ⟨hcoolant, hspeed⟩
  have hwork : periodWork s = headWork (periodBegun s) := by
    rw [periodWork_running hrun, startHead_progress (s := periodBegun s) (.inl hhead)]
  have hkind : e.body.kind = .spindle ∨ e.body.kind = .coolant := by
    rcases h with ⟨speed, d, forced, wait, hbody, -⟩ | ⟨m, wait, hbody⟩ <;> simp [hbody, EntryBody.kind]
  obtain ⟨t, ht, honly, hdone, -⟩ := period_starting hs halone hroom hwork hrun hhead hq hkind
    (halone.worked rfl (fun _ => rfl) rfl rfl)
  obtain ⟨howes, hclaim, hgone⟩ := hdone hcond
  exact ⟨t, ht, honly.of_work rfl rfl rfl rfl rfl, howes, hclaim, hgone⟩

end

end Sys2Proof.Machine

namespace Sys2Proof.Machine

/-! ## A step of an ACTIVE MOVE (R62 to R64) -/

section
variable {s : State} {tag : Tag} {targets : PerAxis (Option Int)} {m : FeedMode} {feed : Nat} {rest : List Entry}
  {c : MoveContext}

/-- The context after a MOVE's period: toward the target velocity of R59 in RUNNING, braking in any other state (R42,
R45, R62). -/
def movedContext (m : FeedMode) (feed : Nat) (c : MoveContext) (s : State) : MoveContext :=
  if s.planner.state = .running then
    stepContext c (runningTarget m feed s.pendant.feedOverride s.spindle.sMeas c.vLim)
      (limiterFor c (uncappedVelocity m feed s.pendant.feedOverride s.spindle.sMeas))
  else stepContext c 0 .feed

theorem pathStep_eq (m : FeedMode) (feed : Nat) (c : MoveContext) (s : State) :
    pathStep m feed c s = distribute (movedContext m feed c s) s := by
  cases h : s.planner.state <;> simp [pathStep, movedContext, h]

theorem moveWork_path (hc : s.planner.context = some c) (hkind : c.kind ≠ .null) :
    moveWork m feed s =
      (distribute (movedContext m feed c s) s,
        decide ((movedContext m feed c s).lengthN ≤ (movedContext m feed c s).travelled)) := by
  unfold moveWork
  simp only [hc, pathStep_eq]
  cases h : c.kind <;> simp_all [distribute]

theorem moveWork_null (hc : s.planner.context = some c) (hkind : c.kind = .null) : moveWork m feed s = (s, true) := by
  simp [moveWork, hc, hkind]

@[simp] theorem stepContext_eq (c : MoveContext) (target : Nat) (l : Limiter) :
    stepContext c target l =
      { c with v := nextVelocity c target, travelled := c.travelled + nextVelocity c target, limiter := l } := rfl

theorem distribute_commanded {a : Axis} {l : Leg} (h : c.legs.get a = some l) :
    ((distribute c s).axis a).commanded = l.start + roundAway (l.d * (c.travelled : Nat)) c.lengthN := by
  simp [distribute_axis, distributed, h, legPosition]

/-- The work of a period with an ACTIVE MOVE at the head (R27). -/
theorem periodWork_move (hq : s.planner.queue = ⟨tag, .move targets m feed⟩ :: rest)
    (hhead : s.planner.head = some .active)
    (hstate : s.planner.state = .running ∨ s.planner.state = .holding ∨ s.planner.state = .aborting) :
    periodWork s = moveWork m feed (periodBegun s) := by
  have hmove : activeMove (periodBegun s) = true := by
    simp [activeMove, headBody, periodBegun, hq, hhead, EntryBody.isMove]
  have hwork : activeWork (periodBegun s) = moveWork m feed (periodBegun s) :=
    activeWork_move (s := periodBegun s) hq rfl
  rcases hstate with h | h | h
  · rw [periodWork_running h, startHead_progress (s := periodBegun s) (.inr hhead),
      headWork_active (s := periodBegun s) h hhead, hwork]
  · have hstate : (periodBegun s).planner.state = .holding := h
    have hplanner : plannerWork (periodBegun s) = activeWork (periodBegun s) := by
      simp [plannerWork, hstate, hmove]
    exact hplanner.trans hwork
  · have hstate : (periodBegun s).planner.state = .aborting := h
    have hplanner : plannerWork (periodBegun s) = activeWork (periodBegun s) := by
      simp [plannerWork, hstate, hmove]
    exact hplanner.trans hwork

/-! ## The planner's end of an abort (R45, R46) -/

/-- A completed entry's report takes one place (R37, R198). -/
theorem completeEntry_room {e : Entry} {n : Nat} (hq : s.planner.queue = e :: rest) (h : EventRoom s (n + 1)) :
    EventRoom (completeEntry s) n := by
  have hleaves : EventRoom (headLeaves .completed s) n := by
    rw [headLeaves, hq]
    exact EventRoom.placeEvent (n := n) h _
  unfold completeEntry
  split
  · exact hleaves
  · exact hleaves

/-- An abort that ends by its MOVE's completion: the rest of the queue in one FLUSHED (R46). -/
theorem completeAbort_headLeft (s : State) :
    (completeAbort true s).planner = idlePlanner [] ∧ (∀ a, (completeAbort true s).axis a = s.axis a)
      ∧ (EventRoom s 1 → Owes s (completeAbort true s) [] [.flushed (s.planner.queue.map Entry.tag)]) := by
  rw [completeAbort, if_pos rfl]
  refine ⟨by simp [enterIdle, flushQueue, idlePlanner], fun a => by simp [enterIdle, flushQueue, State.axis],
    fun h => ?_⟩
  exact placeEvent_owes_since h rfl _

/-- The planner's end of a braking period: the abort completes at the end of the path or at velocity 0 (R45, R46). -/
theorem plannerFinish_aborting (h : s.planner.state = .aborting) {e : Entry} (hq : s.planner.queue = e :: rest)
    (hend : e.body ≠ .endProgram) (hroom : EventRoom s 2) :
    (((plannerFinish true s).planner = idlePlanner [] ∧ (∀ a, ((plannerFinish true s).axis a).claim = false)
        ∧ Owes s (plannerFinish true s) []
            [.entryDone e.tag e.body.kind .completed, .flushed (rest.map Entry.tag)]))
      ∧ (pathVelocity s = 0 → (plannerFinish false s).planner = idlePlanner []
          ∧ (∀ a, ((plannerFinish false s).axis a).claim = false)
          ∧ Owes s (plannerFinish false s) []
              [.entryDone e.tag e.body.kind .aborted, .flushed (rest.map Entry.tag)])
      ∧ (pathVelocity s ≠ 0 → plannerFinish false s = s) := by
  have hcompletes : plannerFinish true s = completeAbort true (completeEntry s) := by simp [plannerFinish, h]
  obtain ⟨eplanner, eclaim, eowes⟩ := completeEntry_cons hq
  obtain ⟨aplanner, aaxis, aowes⟩ := completeAbort_headLeft (completeEntry s)
  refine ⟨⟨?_, fun a => ?_, ?_⟩, fun hv => ?_, fun hv => by simp [plannerFinish, h, hv]⟩
  · rw [hcompletes, aplanner]
  · rw [hcompletes, aaxis, eclaim]
  · rw [hcompletes]
    rw [eplanner, if_neg hend] at aowes
    exact (eowes (hroom.le (by omega))).trans (aowes (completeEntry_room hq hroom))
  · have hends : plannerFinish false s = completeAbort false s := by simp [plannerFinish, h, hv]
    have howes := completeAbort_owes (s := s) (by simpa [hq, abortReports] using hroom)
    rw [hq] at howes
    rw [hends]
    refine ⟨by rw [completeAbort_eq], fun a => ?_, howes⟩
    rw [State.axis, completeAbort_axes]
    simp [abortedAxes, hq]

/-- A braking period of an ABORTING planner (R45, R46). -/
theorem period_aborting {v : Nat} (hq : s.planner.queue = ⟨tag, .move targets m feed⟩ :: rest)
    (hhead : s.planner.head = some .active) (hc : s.planner.context = some c) (hkind : c.kind ≠ .null)
    (hs : Settled s) (halone : HeadAlone s) (hroom : EventRoom s 2) (hstate : s.planner.state = .aborting)
    (hv : v = nextVelocity c 0) :
    ∃ t, exec .interpolationPeriod s = .next t ∧ OnlyMotion s t
      ∧ (c.travelled + v < c.lengthN → v ≠ 0 →
          t.planner =
              { s.planner with context := some { c with v := v, travelled := c.travelled + v, limiter := .feed } }
            ∧ Owes s t [] [])
      ∧ (c.travelled + v < c.lengthN → v = 0 →
          t.planner = idlePlanner [] ∧ Owes s t [] [.entryDone tag .move .aborted, .flushed (rest.map Entry.tag)]
            ∧ ∀ a, (t.axis a).claim = false)
      ∧ (c.travelled + v = c.lengthN →
          t.planner = idlePlanner []
            ∧ Owes s t [] [.entryDone tag .move .completed, .flushed (rest.map Entry.tag)]
            ∧ ∀ a, (t.axis a).claim = false) := by
  have hcontext : movedContext m feed c (periodBegun s) =
      { c with v := v, travelled := c.travelled + v, limiter := .feed } := by
    simp [movedContext, periodBegun, hstate, hv]
  have hwork : periodWork s =
      (distribute { c with v := v, travelled := c.travelled + v, limiter := .feed } (periodBegun s),
        decide (c.lengthN ≤ c.travelled + v)) := by
    rw [periodWork_move hq hhead (.inr (.inr hstate)), moveWork_path (s := periodBegun s) hc hkind, hcontext]
  obtain ⟨u, t, ht, haside, honly, hplanner, howes, hclaim, -⟩ := period_outcome hs halone hwork
    (halone.worked rfl (fun a => by rw [distribute_axis]; rfl) rfl rfl)
  obtain ⟨⟨ulink, uplanner, -⟩, -⟩ := aside_iff.1 haside
  have hustate : u.planner.state = .aborting := by rw [uplanner]; exact hstate
  have huq : u.planner.queue = ⟨tag, .move targets m feed⟩ :: rest := by rw [uplanner]; exact hq
  have huroom : EventRoom u 2 := by
    unfold EventRoom at *
    rwa [ulink]
  have huv : pathVelocity u = v := by rw [pathVelocity, uplanner]; rfl
  obtain ⟨⟨dplanner, dclaim, dowes⟩, hzero, hmoving⟩ := plannerFinish_aborting hustate huq (by simp) huroom
  rw [huv] at hzero hmoving
  refine ⟨t, ht, honly.of_work rfl rfl rfl rfl rfl, fun hlt hne => ?_, fun hlt h0 => ?_, fun heq => ?_⟩
  · rw [decide_eq_false (by omega), hmoving hne] at hplanner howes
    exact ⟨hplanner.trans uplanner, howes [] (Owes.refl u)⟩
  · obtain ⟨zplanner, zclaim, zowes⟩ := hzero h0
    rw [decide_eq_false (by omega)] at hplanner howes hclaim
    exact ⟨hplanner.trans zplanner, howes _ zowes, fun a => (hclaim a).trans (zclaim a)⟩
  · rw [decide_eq_true (by omega)] at hplanner howes hclaim
    exact ⟨hplanner.trans dplanner, howes _ dowes, fun a => (hclaim a).trans (dclaim a)⟩

end

end Sys2Proof.Machine

namespace Sys2Proof.Machine

/-! ## A period of an ACTIVE MOVE in RUNNING and HOLDING (R27, R42, R56) -/

section
variable {s : State} {tag : Tag} {targets : PerAxis (Option Int)} {m : FeedMode} {feed : Nat} {rest : List Entry}
  {c : MoveContext}

/-- A path's end is its legs' targets (R64). -/
theorem roundAway_path {n : Nat} (hn : n ≠ 0) (d : Int) : roundAway (d * (n : Nat)) n = d := by
  have hround : ∀ k : Nat, roundUp (k * n) n = k := fun k => by
    have hsplit : 2 * (k * n) + n = n + 2 * n * k := by ring
    rw [roundUp, hsplit, Nat.add_mul_div_left _ _ (by omega), Nat.div_eq_of_lt (by omega), Nat.zero_add]
  have hpos : (0 : Int) < n := by omega
  have hsign : 0 ≤ d * (n : Nat) ↔ 0 ≤ d := mul_nonneg_iff_of_pos_right hpos
  rw [roundAway, Int.natAbs_mul, Int.natAbs_natCast, hround]
  by_cases h : 0 ≤ d
  · rw [if_pos (hsign.2 h)]
    omega
  · rw [if_neg (mt hsign.1 h)]
    omega

theorem positionsFollow_referenced {a : Axis} (hconf : (s.axis a).configured = true)
    (href : (s.axis a).referenced = true) (hmode : (s.axis a).mode ≠ .parked) : positionsFollow s a = false := by
  simp [positionsFollow, hconf, href, hmode]

/-- The step leaves an axis that takes its position from the planner one that does (R72). -/
theorem distribute_follows {a : Axis} (d : MoveContext) (hconf : (s.axis a).configured = true)
    (href : (s.axis a).referenced = true) (hmode : (s.axis a).mode ≠ .parked) :
    ((distribute d s).axis a).mode ≠ .parked ∧ positionsFollow (distribute d s) a = false := by
  have hsame : ((distribute d s).axis a).configured = true ∧ ((distribute d s).axis a).referenced = true
      ∧ ((distribute d s).axis a).mode ≠ .parked := by
    rw [distribute_axis]
    exact ⟨hconf, href, hmode⟩
  obtain ⟨dconf, dref, dmode⟩ := hsame
  exact ⟨dmode, positionsFollow_referenced dconf dref dmode⟩

/-- The planner's part of a period in which other axes may move by themselves: its end, then nothing that touches it. -/
theorem periodPlanner (hwell : FollowsWell s) {w : State} {b : Bool} (hw : periodWork s = (w, b))
    (hgear : w.gear.step = .idle) (hstate : w.planner.state ≠ .held) :
    ∃ u t, exec .interpolationPeriod s = .next t ∧ u.planner = w.planner
      ∧ t.planner = (plannerFinish b u).planner ∧ (∀ a, (t.axis a).claim = ((plannerFinish b u).axis a).claim)
      ∧ (∀ a, (w.axis a).motion = .idle → (w.axis a).mode ≠ .parked → positionsFollow w a = false →
          (t.axis a).commanded = (w.axis a).commanded) := by
  have hw1 : (periodWork s).1 = w := by rw [hw]
  have haside : Aside w (periodOutputs s) := hw1 ▸ periodOutputs_aside (.inr (by rwa [hw1]))
  obtain ⟨⟨-, oplanner, -, ogear, -⟩, -⟩ := aside_iff.1 haside
  have hfinished : periodFinished s = plannerFinish b (eachAxis endLocal (periodOutputs s)) := by
    have hsecond : (periodWork s).2 = b := by rw [hw]
    rw [← hsecond]
    rfl
  have hgears : (periodFinished s).gear.step = .idle := by
    rw [hfinished]
    simp [eachAxis, ogear, hgear]
  obtain ⟨⟨-, eplanner, -⟩, eclaim⟩ := aside_iff.1 (Aside.periodEnds hgears)
  rw [← interpolate_eq hwell, hfinished] at eplanner eclaim
  refine ⟨eachAxis endLocal (periodOutputs s), afterPeriod s, exec_interpolationPeriod s, ?_, ?_, fun a => ?_,
    fun a h1 h2 h3 => ?_⟩
  · rw [← oplanner]
    simp [eachAxis]
  · simpa using eplanner
  · rw [afterPeriod_axis, eclaim]
  · rw [← hw1] at h1 h2 h3 ⊢
    exact afterPeriod_commanded hwell h1 h2 h3

/-- A period of an ACTIVE MOVE with a path, up to the planner's end of it (R27, R56, R64). -/
theorem period_moves (hq : s.planner.queue = ⟨tag, .move targets m feed⟩ :: rest)
    (hhead : s.planner.head = some .active) (hc : s.planner.context = some c) (hkind : c.kind ≠ .null)
    (hgear : s.gear.step = .idle) (hwell : FollowsWell s)
    (hlegs : ∀ a l, c.legs.get a = some l → (s.axis a).configured = true ∧ (s.axis a).referenced = true
      ∧ (s.axis a).mode ≠ .parked ∧ (s.axis a).motion = .idle)
    (hstate : s.planner.state = .running ∨ s.planner.state = .holding) {d : MoveContext}
    (hd : movedContext m feed c (periodBegun s) = d) (hsame : d.legs = c.legs) :
    ∃ u t, exec .interpolationPeriod s = .next t ∧ u.planner = { s.planner with context := some d }
      ∧ t.planner = (plannerFinish (decide (d.lengthN ≤ d.travelled)) u).planner
      ∧ (∀ a, (t.axis a).claim = ((plannerFinish (decide (d.lengthN ≤ d.travelled)) u).axis a).claim)
      ∧ (∀ a l, c.legs.get a = some l →
          (t.axis a).commanded = l.start + roundAway (l.d * (d.travelled : Nat)) d.lengthN) := by
  have hwork : periodWork s = (distribute d (periodBegun s), decide (d.lengthN ≤ d.travelled)) := by
    rw [periodWork_move hq hhead (hstate.imp id .inl), moveWork_path (s := periodBegun s) hc hkind, hd]
  have hheld : (distribute d (periodBegun s)).planner.state ≠ .held := by
    have hkept : (distribute d (periodBegun s)).planner.state = s.planner.state := rfl
    rcases hstate with h | h <;> simp [hkept, h]
  obtain ⟨u, t, ht, hu, hplanner, hclaim, hcommanded⟩ := periodPlanner hwell hwork hgear hheld
  refine ⟨u, t, ht, hu, hplanner, hclaim, fun a l hl => ?_⟩
  obtain ⟨hconf, href, hmode, hmotion⟩ := hlegs a l hl
  obtain ⟨wmode, wfollow⟩ := distribute_follows (s := periodBegun s) d hconf href hmode
  rw [hcommanded a (by rw [distribute_axis]; exact hmotion) wmode wfollow]
  exact distribute_commanded (by rw [hsame]; exact hl)

/-- A RUNNING planner steps its MOVE toward the target velocity, and goes on to the next entry at its end (R37, R62,
R63). -/
theorem period_running (hq : s.planner.queue = ⟨tag, .move targets m feed⟩ :: rest)
    (hhead : s.planner.head = some .active) (hc : s.planner.context = some c) (hkind : c.kind ≠ .null)
    (hgear : s.gear.step = .idle) (hwell : FollowsWell s)
    (hlegs : ∀ a l, c.legs.get a = some l → (s.axis a).configured = true ∧ (s.axis a).referenced = true
      ∧ (s.axis a).mode ≠ .parked ∧ (s.axis a).motion = .idle) (hrun : s.planner.state = .running) :
    ∃ t v, exec .interpolationPeriod s = .next t
      ∧ v = nextVelocity c (runningTarget m feed s.pendant.feedOverride s.spindle.sMeas c.vLim)
      ∧ (∀ a l, c.legs.get a = some l →
          (t.axis a).commanded = l.start + roundAway (l.d * (c.travelled + v : Nat)) c.lengthN)
      ∧ (c.travelled + v < c.lengthN →
          t.planner =
            { s.planner with
              context :=
                some { c with
                  v := v, travelled := c.travelled + v
                  limiter := limiterFor c (uncappedVelocity m feed s.pendant.feedOverride s.spindle.sMeas) } })
      ∧ (c.travelled + v = c.lengthN →
          t.planner.queue = rest ∧ t.planner.state = .running ∧ t.planner.context = none
            ∧ (∀ a, (t.axis a).claim = false)
            ∧ ∀ a l, c.legs.get a = some l → c.lengthN ≠ 0 → (t.axis a).commanded = l.target) := by
  obtain ⟨v, hv⟩ :
      ∃ v, v = nextVelocity c (runningTarget m feed s.pendant.feedOverride s.spindle.sMeas c.vLim) := ⟨_, rfl⟩
  have hd : movedContext m feed c (periodBegun s) =
      { c with
        v := v, travelled := c.travelled + v
        limiter := limiterFor c (uncappedVelocity m feed s.pendant.feedOverride s.spindle.sMeas) } := by
    simp [movedContext, periodBegun, hrun, hv]
  obtain ⟨u, t, ht, hu, hplanner, hclaim, hcommanded⟩ :=
    period_moves hq hhead hc hkind hgear hwell hlegs (.inl hrun) hd rfl
  have hurun : u.planner.state = .running := by rw [hu]; exact hrun
  rw [plannerFinish_running hurun] at hplanner hclaim
  refine ⟨t, v, ht, hv, hcommanded, fun hlt => ?_, fun heq => ?_⟩
  · rw [decide_eq_false (by dsimp only; omega)] at hplanner
    exact hplanner.trans hu
  · rw [decide_eq_true (by dsimp only; omega)] at hplanner hclaim
    obtain ⟨eplanner, eclaim, -⟩ := completeEntry_cons (s := u) (by rw [hu]; exact hq)
    rw [if_pos rfl, eplanner, if_neg (by simp)] at hplanner
    rw [hplanner]
    refine ⟨rfl, hurun, rfl, fun a => (hclaim a).trans (eclaim a), fun a l hl hn => ?_⟩
    rw [hcommanded a l hl, heq, roundAway_path hn]
    simp [Leg.d]

/-- A HOLDING planner brakes its MOVE, and is HELD at velocity 0 or at its end (R42, R63). -/
theorem period_holding (hq : s.planner.queue = ⟨tag, .move targets m feed⟩ :: rest)
    (hhead : s.planner.head = some .active) (hc : s.planner.context = some c) (hkind : c.kind ≠ .null)
    (hgear : s.gear.step = .idle) (hwell : FollowsWell s)
    (hlegs : ∀ a l, c.legs.get a = some l → (s.axis a).configured = true ∧ (s.axis a).referenced = true
      ∧ (s.axis a).mode ≠ .parked ∧ (s.axis a).motion = .idle) (hholding : s.planner.state = .holding) :
    ∃ t v, exec .interpolationPeriod s = .next t ∧ v = nextVelocity c 0
      ∧ (∀ a l, c.legs.get a = some l →
          (t.axis a).commanded = l.start + roundAway (l.d * (c.travelled + v : Nat)) c.lengthN)
      ∧ (c.travelled + v < c.lengthN →
          t.planner.queue = s.planner.queue ∧ t.planner.state = (if v = 0 then .held else .holding)
            ∧ t.planner.context = some { c with v := v, travelled := c.travelled + v, limiter := .feed })
      ∧ (c.travelled + v = c.lengthN → t.planner.queue = rest ∧ t.planner.state = .held) := by
  obtain ⟨v, hv⟩ : ∃ v, v = nextVelocity c 0 := ⟨_, rfl⟩
  have hd : movedContext m feed c (periodBegun s) =
      { c with v := v, travelled := c.travelled + v, limiter := .feed } := by
    simp [movedContext, periodBegun, hholding, hv]
  obtain ⟨u, t, ht, hu, hplanner, -, hcommanded⟩ :=
    period_moves hq hhead hc hkind hgear hwell hlegs (.inr hholding) hd rfl
  have hstate : u.planner.state = .holding := by rw [hu]; exact hholding
  have huq : u.planner.queue = ⟨tag, .move targets m feed⟩ :: rest := by rw [hu]; exact hq
  refine ⟨t, v, ht, hv, hcommanded, fun hlt => ?_, fun heq => ?_⟩
  · rw [decide_eq_false (by dsimp only; omega)] at hplanner
    have hmove : activeMove u = true := by
      have hactive : u.planner.head = some .active := by rw [hu]; exact hhead
      simp [activeMove, headBody, huq, hactive, EntryBody.isMove]
    have huv : pathVelocity u = v := by rw [pathVelocity, hu]
    have hends : plannerFinish false u = if v = 0 then becomeHeld u else u := by
      simp [plannerFinish, hstate, hmove, huv]
    rw [hplanner, hends]
    split <;> simp [becomeHeld, hu, hholding]
  · rw [decide_eq_true (by dsimp only; omega)] at hplanner
    have hends : plannerFinish true u = becomeHeld (completeEntry u) := by simp [plannerFinish, hstate]
    obtain ⟨eplanner, -⟩ := completeEntry_cons huq
    rw [if_neg (by simp)] at eplanner
    rw [hplanner, hends, becomeHeld, eplanner]
    exact ⟨rfl, rfl⟩

end

end Sys2Proof.Machine

namespace Sys2Proof.Machine

/-! ## Whose clamp a stroke moves (R88, R90, R95) -/

/-- The strokes on the valve request list. -/
def strokesOf (s : State) : List Stroke := s.valve.requests.map Request.stroke

/-- What the clamp of `c` may do as it is asked, granted a stroke or has one end: no other clamp differs, no request of
another function joins the list, and the clamp falls into no fault. -/
def ClampTurn (c : Axis) (s t : State) : Prop :=
  (∀ a, a ≠ c → t.clamp a = s.clamp a)
    ∧ (∀ k, k.function ≠ .clamp c → k ∈ strokesOf t → k ∈ strokesOf s)
    ∧ ((t.clamp c).state = .fault → (s.clamp c).state = .fault)

section
variable {s t : State} {a c : Axis}

theorem ClampTurn.of_eq (hc : t.clamps = s.clamps) (hv : t.valve = s.valve) : ClampTurn c s t := by
  have hclamp : ∀ a, t.clamp a = s.clamp a := fun a => by rw [State.clamp, hc]; rfl
  refine ⟨fun a _ => hclamp a, fun k _ hk => ?_, by rw [hclamp]; exact id⟩
  rwa [strokesOf, ← hv]

theorem ClampTurn.trans {u : State} (h : ClampTurn c s t) (k : ClampTurn c t u) : ClampTurn c s u := by
  obtain ⟨h1, h2, h3⟩ := h
  obtain ⟨k1, k2, k3⟩ := k
  exact ⟨fun a ha => (k1 a ha).trans (h1 a ha), fun j hj hm => h2 j hj (k2 j hj hm), fun hf => h3 (k3 hf)⟩

theorem ClampTurn.setClamp {u : Clamp} (h : u.state = .fault → (s.clamp c).state = .fault) :
    ClampTurn c s (s.setClamp c u) := by
  refine ⟨fun a ha => ?_, fun k _ hk => hk, ?_⟩
  · simp [State.clamp, State.setClamp, PerAxis.get_set_ne _ _ ha]
  · simpa [State.clamp, State.setClamp, PerAxis.get_set] using h

theorem ClampTurn.setClampState {σ : ClampState} (h : σ ≠ .fault) (s : State) :
    ClampTurn c s (setClampState c σ s) := .setClamp fun hf => absurd hf h

theorem ClampTurn.joinRequest {k : Stroke} (h : k.function = .clamp c) (s : State) :
    ClampTurn c s (joinRequest k s) := by
  refine ⟨fun _ _ => rfl, fun j hj hm => ?_, id⟩
  have hmem : j ∈ strokesOf s ∨ j = k := by simpa [strokesOf, Machine.joinRequest] using hm
  exact hmem.resolve_right fun e => hj (e ▸ h)

theorem ClampTurn.removeRequest (f : ValveFunction) (s : State) : ClampTurn c s (removeRequest f s) := by
  refine ⟨fun _ _ => rfl, fun j _ hm => ?_, id⟩
  obtain ⟨r, hr, hj⟩ := List.mem_map.1 hm
  exact List.mem_map.2 ⟨r, List.mem_of_mem_filter hr, hj⟩

theorem ClampTurn.lingerExpires (s : State) : ClampTurn c s (lingerExpires c s) := by
  have hlinger : ClampTurn c s (setLinger c none s) := .setClamp id
  exact (hlinger.trans (.setClampState (by decide) _)).trans (.joinRequest rfl _)

theorem ClampTurn.startLinger (s : State) : ClampTurn c s (startLinger c s) := by
  unfold Machine.startLinger
  split
  · exact .of_eq rfl rfl
  · split
    · exact .lingerExpires s
    · exact .setClamp id

theorem ClampTurn.releaseSucceeded (s : State) : ClampTurn c s (releaseSucceeded c s) := by
  have hmoves : ClampTurn c s (startMoving c (Machine.setClampState c .released s)) :=
    (ClampTurn.setClampState (σ := .released) (by decide) s).trans (.of_eq (by simp) (by simp))
  unfold Machine.releaseSucceeded
  dsimp only
  split
  · exact hmoves.trans (.startLinger _)
  · exact hmoves

theorem ClampTurn.engageSucceeded (s : State) : ClampTurn c s (engageSucceeded c s) := by
  have hpending : ClampTurn c s (setReleasePending c false s) := .setClamp id
  unfold Machine.engageSucceeded
  split
  · split
    · exact (hpending.trans (.setClampState (by decide) _)).trans (.joinRequest rfl _)
    · exact hpending.trans (.setClampState (by decide) _)
  · exact .setClampState (by decide) s

theorem ClampTurn.askClamp (h : (s.axis c).motion = .idle) : ClampTurn c s (askClamp c s) := by
  unfold Machine.askClamp
  split
  · exact (ClampTurn.setClampState (by decide) s).trans (.joinRequest rfl _)
  · exact .of_eq rfl rfl
  · exact .of_eq rfl rfl
  · exact .setClamp id
  · split
    · exact (ClampTurn.setClampState (by decide) s).trans (.removeRequest _ _)
    · exact .setClamp id
  · exact .setClamp id
  · have hpending : ClampTurn c (Machine.setClampState c .engageWait s)
        (setReleasePending c true (Machine.setClampState c .engageWait s)) := .setClamp id
    exact ((ClampTurn.setClampState (by decide) s).trans hpending).trans (.joinRequest rfl _)
  · have hstays : endClampWait c s = s := by simp [endClampWait, h]
    rw [hstays]
    exact .of_eq rfl rfl

/-! ### Strokes granted and ended, with no range change in progress -/

/-- What is granted or ends of another function leaves a clamp and its requests alone. -/
def ClampSpared (a : Axis) (s t : State) : Prop :=
  t.clamp a = s.clamp a ∧ ∀ k, k.function = .clamp a → k ∈ strokesOf t → k ∈ strokesOf s

/-- No clamp falls into a fault. -/
def Unfaulted (s t : State) : Prop := ∀ a, (t.clamp a).state = .fault → (s.clamp a).state = .fault

theorem ClampTurn.spared (h : ClampTurn c s t) (hne : a ≠ c) : ClampSpared a s t := by
  obtain ⟨hclamp, hmem, -⟩ := h
  refine ⟨hclamp a hne, fun k hk => hmem k fun e => hne ?_⟩
  rw [hk] at e
  exact ValveFunction.clamp.inj e

theorem ClampTurn.unfaulted (h : ClampTurn c s t) : Unfaulted s t := by
  obtain ⟨hclamp, -, hfault⟩ := h
  intro a ha
  by_cases e : a = c
  · exact e ▸ hfault (e ▸ ha)
  · rwa [← hclamp a e]

theorem Unfaulted.trans {u : State} (h : Unfaulted s t) (k : Unfaulted t u) : Unfaulted s u :=
  fun a ha => h a (k a ha)

/-- A stroke that is granted or succeeds is the turn of its clamp, or that of no clamp. -/
theorem stroke_turn (h : s.gear.step = .idle) (k : Stroke) :
    (∃ c, k.function = .clamp c ∧ ClampTurn c s (strokeGranted k s) ∧ ClampTurn c s (strokeEnds k true s))
      ∨ ∀ c, ClampTurn c s (strokeGranted k s) ∧ ClampTurn c s (strokeEnds k true s) := by
  cases k with
  | release c =>
    exact .inl ⟨c, rfl, .setClampState (by decide) s, (ClampTurn.removeRequest _ s).trans (.releaseSucceeded _)⟩
  | engage c =>
    exact .inl ⟨c, rfl, .setClampState (by decide) s, (ClampTurn.removeRequest _ s).trans (.engageSucceeded _)⟩
  | fork f =>
    have hgranted : strokeGranted (.fork f) s = s := by simp [strokeGranted, forkGranted, h]
    have hends : strokeEnds (.fork f) true s = removeRequest (Stroke.fork f).function s := by
      simp [strokeEnds, forkOutcome, h]
    rw [hgranted, hends]
    exact .inr fun c => ⟨.of_eq rfl rfl, .removeRequest ..⟩

theorem stroke_spares (h : s.gear.step = .idle) {k : Stroke} (hk : k.function ≠ .clamp a) :
    ClampSpared a s (strokeGranted k s) ∧ ClampSpared a s (strokeEnds k true s) := by
  have hother : ∃ c, c ≠ a := by
    cases a with
    | x => exact ⟨.y, by decide⟩
    | _ => exact ⟨.x, by decide⟩
  rcases stroke_turn h k with ⟨c, hb, h1, h2⟩ | hany
  · have hne : a ≠ c := fun e => hk (e ▸ hb)
    exact ⟨h1.spared hne, h2.spared hne⟩
  · obtain ⟨c, hb⟩ := hother
    obtain ⟨h1, h2⟩ := hany c
    exact ⟨h1.spared hb.symm, h2.spared hb.symm⟩

theorem stroke_unfaulted (h : s.gear.step = .idle) (k : Stroke) :
    Unfaulted s (strokeGranted k s) ∧ Unfaulted s (strokeEnds k true s) := by
  rcases stroke_turn h k with ⟨c, -, h1, h2⟩ | hany
  · exact ⟨h1.unfaulted, h2.unfaulted⟩
  · obtain ⟨h1, h2⟩ := hany .x
    exact ⟨h1.unfaulted, h2.unfaulted⟩

theorem grantOpportunity_unfaulted (h : s.gear.step = .idle) : Unfaulted s (grantOpportunity s) := by
  have hboth : Stroked s (grantOpportunity s) ∧ Unfaulted s (grantOpportunity s) := by
    refine grantOpportunity_induct (P := fun t => Stroked s t ∧ Unfaulted s t) ⟨.refl s, fun _ => id⟩ ?_ ?_ ?_
    · exact fun t l ⟨ht, hu⟩ _ => ⟨ht.trans (.of_claims rfl fun _ => rfl), hu⟩
    · intro t k ⟨ht, hu⟩ _
      have hidle : t.gear.step = .idle := by rw [ht.gear, h]
      obtain ⟨hgrant, -⟩ := stroke_unfaulted hidle k
      exact ⟨ht.trans (.strokeGranted hidle k), hu.trans hgrant⟩
    · intro t r ⟨ht, hu⟩ _ _
      have hidle : t.gear.step = .idle := by rw [ht.gear, h]
      obtain ⟨-, hends⟩ := stroke_unfaulted hidle r.stroke
      exact ⟨ht.trans (.strokeEnds hidle r.stroke), hu.trans hends⟩
  exact hboth.2

/-- The clamp stands in a state, and no request of it is on the list. -/
def ClampStands (a : Axis) (σ : ClampState) (s : State) : Prop :=
  (s.clamp a).state = σ ∧ (∀ k ∈ strokesOf s, k.function ≠ .clamp a)

/-- The clamp's release is asked or under way, with its released switch open. -/
def BeingReleased (a : Axis) (s : State) : Prop :=
  ((s.clamp a).state = .releaseWait ∨ (s.clamp a).state = .releasing) ∧ (s.clamp a).switchClosed = false
    ∧ (∀ k ∈ strokesOf s, k.function = .clamp a → k = .release a)

theorem ClampStands.spared {σ : ClampState} (hs : ClampStands a σ s) (h : ClampSpared a s t) :
    ClampStands a σ t := by
  obtain ⟨hstate, hnone⟩ := hs
  obtain ⟨hclamp, hmem⟩ := h
  exact ⟨by rw [hclamp, hstate], fun k hk e => hnone k (hmem k e hk) e⟩

theorem BeingReleased.spared (hs : BeingReleased a s) (h : ClampSpared a s t) : BeingReleased a t := by
  obtain ⟨hstate, hopen, honly⟩ := hs
  obtain ⟨hclamp, hmem⟩ := h
  exact ⟨by rwa [hclamp], by rwa [hclamp], fun k hk e => honly k (hmem k e hk) e⟩

theorem ClampStands.grantOpportunity {σ : ClampState} (hs : ClampStands a σ s) (h : s.gear.step = .idle) :
    ClampStands a σ (grantOpportunity s) := by
  have hboth : Stroked s (Machine.grantOpportunity s) ∧ ClampStands a σ (Machine.grantOpportunity s) := by
    refine grantOpportunity_induct (P := fun t => Stroked s t ∧ ClampStands a σ t) ⟨.refl s, hs⟩ ?_ ?_ ?_
    · intro t l ⟨ht, hu⟩ hl
      refine ⟨ht.trans (.of_claims rfl fun _ => rfl), ?_⟩
      rwa [ClampStands, strokesOf, hl]
    · intro t k ⟨ht, hstate, hnone⟩ hk
      have hidle : t.gear.step = .idle := by rw [ht.gear, h]
      obtain ⟨hgrant, -⟩ := stroke_spares hidle (hnone k hk)
      exact ⟨ht.trans (.strokeGranted hidle k), ClampStands.spared ⟨hstate, hnone⟩ hgrant⟩
    · intro t r ⟨ht, hstate, hnone⟩ hr _
      have hidle : t.gear.step = .idle := by rw [ht.gear, h]
      obtain ⟨-, hends⟩ := stroke_spares hidle (hnone r.stroke (List.mem_map_of_mem hr))
      exact ⟨ht.trans (.strokeEnds hidle r.stroke), ClampStands.spared ⟨hstate, hnone⟩ hends⟩
  exact hboth.2

theorem BeingReleased.grantOpportunity (hs : BeingReleased a s) (h : s.gear.step = .idle) :
    BeingReleased a (grantOpportunity s) := by
  have hboth : Stroked s (Machine.grantOpportunity s) ∧ BeingReleased a (Machine.grantOpportunity s) := by
    refine grantOpportunity_induct (P := fun t => Stroked s t ∧ BeingReleased a t) ⟨.refl s, hs⟩ ?_ ?_ ?_
    · intro t l ⟨ht, hu⟩ hl
      refine ⟨ht.trans (.of_claims rfl fun _ => rfl), ?_⟩
      rwa [BeingReleased, strokesOf, hl]
    · intro t k ⟨ht, hu⟩ hk
      have hidle : t.gear.step = .idle := by rw [ht.gear, h]
      refine ⟨ht.trans (.strokeGranted hidle k), ?_⟩
      by_cases hown : k.function = .clamp a
      · obtain ⟨-, hopen, honly⟩ := hu
        rw [honly k hk hown]
        have hgranted : (strokeGranted (.release a) t).clamp a = { t.clamp a with state := .releasing } := by
          simp [strokeGranted, setClampState, State.clamp, State.setClamp]
        exact ⟨.inr (by rw [hgranted]), by rw [hgranted]; exact hopen, honly⟩
      · obtain ⟨hgrant, -⟩ := stroke_spares hidle hown
        exact hu.spared hgrant
    · intro t r ⟨ht, hu⟩ hr hconfirmed
      have hidle : t.gear.step = .idle := by rw [ht.gear, h]
      refine ⟨ht.trans (.strokeEnds hidle r.stroke), ?_⟩
      by_cases hown : r.stroke.function = .clamp a
      · obtain ⟨-, hopen, honly⟩ := hu
        rw [honly _ (List.mem_map_of_mem hr) hown, confirmed, hopen] at hconfirmed
        cases hconfirmed
      · obtain ⟨-, hends⟩ := stroke_spares hidle hown
        exact hu.spared hends
  exact hboth.2

end

end Sys2Proof.Machine

namespace Sys2Proof.Machine

/-! ## The claims of a MOVE, no axis in local motion and no range change in progress (R31, R95) -/

/-- No axis is in local motion and no range change in progress. -/
def OthersRest (s : State) : Prop := (∀ a, (s.axis a).motion = .idle) ∧ s.gear.step = .idle

section
variable {s t : State} {a c : Axis} {legs : PerAxis (Option Leg)}

theorem startMoving_idle (h : (s.axis a).motion = .idle) : startMoving a s = s := by simp [startMoving, h]

theorem endClampWait_idle (h : (s.axis a).motion = .idle) : endClampWait a s = s := by simp [endClampWait, h]

theorem askClamp_stroked (h : (s.axis a).motion = .idle) :
    Stroked s (askClamp a s) ∧ (askClamp a s).axes = s.axes := by
  have hclamps : ∀ t : State, t = { s with clamps := t.clamps, valve := t.valve } →
      Stroked s t ∧ t.axes = s.axes := fun t ht => by
    refine ⟨.of_claims ?_ fun c => ?_, ?_⟩ <;> rw [ht]
    rfl
  unfold askClamp
  split
  · exact hclamps _ rfl
  · exact hclamps _ rfl
  · exact hclamps _ rfl
  · exact hclamps _ rfl
  · split
    · exact hclamps _ rfl
    · exact hclamps _ rfl
  · exact hclamps _ rfl
  · exact hclamps _ rfl
  · rw [endClampWait_idle h]
    exact hclamps _ rfl

/-- An axis that rests is asked for its release with no motion to begin: nothing is asked of a clamp that counts as
RELEASED by R94, and any other is asked with or without a grant opportunity. -/
theorem askRelease_cases (h : OthersRest s) (a : Axis) :
    (clampNeeded s a = false ∧ askRelease a s = s)
      ∨ (clampNeeded s a = true
          ∧ (askRelease a s = askClamp a s ∨ askRelease a s = grantOpportunity (askClamp a s))) := by
  obtain ⟨hmotion, hgear⟩ := h
  obtain ⟨-, haxes⟩ := askClamp_stroked (hmotion a)
  have hidle : ∀ t : State, (t.axis a).motion = .idle →
      (if clampReleased t a then startMoving a t else t) = t := fun t ht => by
    rw [startMoving_idle ht, ite_self]
  unfold askRelease
  dsimp only
  cases hn : clampNeeded s a with
  | false => exact .inl ⟨rfl, hidle s (hmotion a)⟩
  | true =>
    rw [if_pos rfl]
    refine .inr ⟨rfl, ?_⟩
    have hasked : ((askClamp a s).axis a).motion = .idle := by rw [State.axis, haxes]; exact hmotion a
    rcases withOpportunity_cases (askClamp a) s with ⟨-, e⟩ | ⟨-, e⟩ <;> rw [e]
    · exact .inl (hidle _ hasked)
    · refine .inr (hidle _ ?_)
      rw [(grantOpportunity_keeps _).axis a (by simp [hasked, LocalMotion.waits]), hasked]

/-- What the ask leaves of the state, and of every axis. -/
theorem askRelease_rests (h : OthersRest s) (a : Axis) :
    Stroked s (askRelease a s) ∧ ∀ c, (askRelease a s).axis c = s.axis c := by
  have hboth := h
  obtain ⟨hmotion, hgear⟩ := hboth
  obtain ⟨hstroked, haxes⟩ := askClamp_stroked (hmotion a)
  have hasked : ∀ c, (askClamp a s).axis c = s.axis c := fun c => by rw [State.axis, haxes]; rfl
  rcases askRelease_cases h a with ⟨-, e⟩ | ⟨-, e | e⟩ <;> rw [e]
  · exact ⟨.refl s, fun _ => rfl⟩
  · exact ⟨hstroked, hasked⟩
  · refine ⟨hstroked.trans (.grantOpportunity (by rw [hstroked.gear, hgear])), fun c => ?_⟩
    rw [(grantOpportunity_keeps _).axis c (by simp [hasked, hmotion, LocalMotion.waits]), hasked]

/-- An Axis Unit once the MOVE has claimed its moving axes (R31). -/
def claimedUnit (legs : PerAxis (Option Leg)) (a : Axis) (u : AxisUnit) : AxisUnit :=
  if (legs.get a).isSome then { u with claim := true } else u

theorem claimedUnit_form (legs : PerAxis (Option Leg)) (a : Axis) (u : AxisUnit) :
    ∃ k, claimedUnit legs a u = { u with claim := k } := by
  unfold claimedUnit
  split
  · exact ⟨true, rfl⟩
  · exact ⟨u.claim, rfl⟩

theorem clampNeeded_congr (hparams : (t.axis a).params = (s.axis a).params)
    (hmode : (t.axis a).mode = (s.axis a).mode) : clampNeeded t a = clampNeeded s a := by
  unfold clampNeeded clampTakesPart
  rw [hparams, hmode]

/-- The axis with its claim set and its linger timer cancelled (R31, R97). -/
def claimed (a : Axis) (s : State) : State := cancelLinger a (s.setAxis a { s.axis a with claim := true })

theorem claimed_form (a : Axis) (s : State) :
    claimed a s = { s with axes := s.axes.set a { s.axis a with claim := true }, clamps := (claimed a s).clamps } := by
  unfold claimed cancelLinger
  split <;> rfl

theorem claimed_axis (a c : Axis) (s : State) :
    (claimed a s).axis c = if c = a then { s.axis c with claim := true } else s.axis c := by
  rw [claimed_form]
  by_cases e : c = a
  · simp [State.axis, e, PerAxis.get_set]
  · simp [State.axis, e, PerAxis.get_set_ne]

theorem claimed_rests (h : OthersRest s) (a : Axis) : OthersRest (claimed a s) := by
  obtain ⟨hmotion, hgear⟩ := h
  refine ⟨fun c => ?_, by rw [claimed_form]; exact hgear⟩
  rw [claimed_axis]
  split <;> exact hmotion c

/-- Only the linger timer of the clamp differs, and no request. -/
theorem claimed_turn (a : Axis) (s : State) :
    ClampTurn a s (claimed a s) ∧ ((claimed a s).clamp a).state = (s.clamp a).state
      ∧ ((claimed a s).clamp a).switchClosed = (s.clamp a).switchClosed
      ∧ strokesOf (claimed a s) = strokesOf s := by
  have haxis : ∀ u : AxisUnit, ClampTurn a s (s.setAxis a u) := fun u => .of_eq rfl rfl
  unfold claimed cancelLinger
  split
  · exact ⟨haxis _, rfl, rfl, rfl⟩
  · refine ⟨(haxis _).trans (.setClamp id), ?_, ?_, rfl⟩ <;>
      simp [setLinger, State.clamp, State.setClamp, PerAxis.get_set]

theorem claimAxis_of_leg (h : (legs.get a).isSome = true) (s : State) :
    claimAxis legs a s = askRelease a (claimed a s) := by simp [claimAxis, h, claimed]

theorem claimAxis_of_none (h : (legs.get a).isSome = false) (s : State) : claimAxis legs a s = s := by
  simp [claimAxis, h]

theorem claimAxis_axis (h : OthersRest s) (a c : Axis) :
    (claimAxis legs a s).axis c = if c = a then claimedUnit legs a (s.axis c) else s.axis c := by
  cases hl : (legs.get a).isSome with
  | true =>
    obtain ⟨-, hsame⟩ := askRelease_rests (claimed_rests h a) a
    rw [claimAxis_of_leg hl, hsame, claimed_axis, claimedUnit, if_pos hl]
  | false => simp [claimAxis_of_none hl, claimedUnit, hl]

theorem claimAxis_rests (h : OthersRest s) (a : Axis) : OthersRest (claimAxis legs a s) := by
  have hboth := h
  obtain ⟨hmotion, hgear⟩ := hboth
  refine ⟨fun c => ?_, ?_⟩
  · rw [claimAxis_axis h, claimedUnit]
    (repeat' split) <;> exact hmotion c
  · cases hl : (legs.get a).isSome with
    | true =>
      obtain ⟨hstroked, -⟩ := askRelease_rests (claimed_rests h a) a
      rw [claimAxis_of_leg hl, hstroked.gear, claimed_form]
      exact hgear
    | false => rwa [claimAxis_of_none hl]

/-- The ask and the claim move the clamp of their own axis, and the strokes that then have room. -/
theorem claimAxis_unfaulted (h : OthersRest s) (a : Axis) : Unfaulted s (claimAxis legs a s) := by
  cases hl : (legs.get a).isSome with
  | true =>
    rw [claimAxis_of_leg hl]
    have hrests := claimed_rests h a
    obtain ⟨hmotion, hgear⟩ := claimed_rests h a
    obtain ⟨hclaim, -⟩ := claimed_turn a s
    obtain ⟨hstroked, -⟩ := askClamp_stroked (hmotion a)
    have hasked : Unfaulted s (askClamp a (claimed a s)) :=
      hclaim.unfaulted.trans (ClampTurn.askClamp (hmotion a)).unfaulted
    rcases askRelease_cases hrests a with ⟨-, e⟩ | ⟨-, e | e⟩ <;> rw [e]
    · exact hclaim.unfaulted
    · exact hasked
    · exact hasked.trans (grantOpportunity_unfaulted (by rw [hstroked.gear, hgear]))
  | false =>
    rw [claimAxis_of_none hl]
    exact fun _ => id

/-- What a grant opportunity and the turn of its clamp keep, the claim of an axis keeps. -/
theorem claimAxis_other {P : State → Prop} (h : OthersRest s) (hs : P s)
    (hturn : ∀ t u, P t → ClampTurn c t u → P u)
    (hgrant : ∀ t, P t → t.gear.step = .idle → P (grantOpportunity t)) :
    P (claimAxis legs c s) := by
  cases hl : (legs.get c).isSome with
  | true =>
    rw [claimAxis_of_leg hl]
    have hrests := claimed_rests h c
    obtain ⟨hmotion, hgear⟩ := claimed_rests h c
    obtain ⟨hclaim, -⟩ := claimed_turn c s
    obtain ⟨hstroked, -⟩ := askClamp_stroked (hmotion c)
    have hclaimed := hturn _ _ hs hclaim
    have hasked := hturn _ _ hclaimed (ClampTurn.askClamp (hmotion c))
    rcases askRelease_cases hrests c with ⟨-, e⟩ | ⟨-, e | e⟩ <;> rw [e]
    · exact hclaimed
    · exact hasked
    · exact hgrant _ hasked (by rw [hstroked.gear, hgear])
  | false => rwa [claimAxis_of_none hl]

/-- What a grant opportunity keeps, the claim of the axis itself comes to by the ask of its clamp alone. -/
theorem claimAxis_own {P : State → Prop} (h : OthersRest s) (hclaimed : P (claimed a s))
    (hask : P (askClamp a (claimed a s))) (hs : P s)
    (hgrant : ∀ t, P t → t.gear.step = .idle → P (grantOpportunity t)) : P (claimAxis legs a s) := by
  cases hl : (legs.get a).isSome with
  | true =>
    rw [claimAxis_of_leg hl]
    obtain ⟨hmotion, hgear⟩ := claimed_rests h a
    obtain ⟨hstroked, -⟩ := askClamp_stroked (hmotion a)
    rcases askRelease_cases (claimed_rests h a) a with ⟨-, e⟩ | ⟨-, e | e⟩ <;> rw [e]
    · exact hclaimed
    · exact hask
    · exact hgrant _ hask (by rw [hstroked.gear, hgear])
  | false => rwa [claimAxis_of_none hl]

/-- A clamp in FAULT and a RELEASED one stand as they are, with no request of theirs on the list. -/
theorem ClampStands.claimAxis {σ : ClampState} (hs : ClampStands a σ s) (hσ : σ = .fault ∨ σ = .released)
    (h : OthersRest s) (c : Axis) : ClampStands a σ (claimAxis legs c s) := by
  by_cases e : c = a
  · subst e
    obtain ⟨hmotion, -⟩ := claimed_rests h c
    obtain ⟨-, hkept, -, hlist⟩ := claimed_turn c s
    have hclaimed : ClampStands c σ (claimed c s) := by
      obtain ⟨hstate, hnone⟩ := hs
      exact ⟨hkept.trans hstate, by rwa [hlist]⟩
    have hask : ClampStands c σ (askClamp c (claimed c s)) := by
      have hboth := hclaimed
      obtain ⟨hstate, hnone⟩ := hboth
      rcases hσ with hσ | hσ <;> subst hσ
      · have hstays : askClamp c (claimed c s) = claimed c s := by
          simp [askClamp, hstate, endClampWait_idle (hmotion c)]
        rwa [hstays]
      · have hlinger : askClamp c (claimed c s) = setLinger c none (claimed c s) := by simp [askClamp, hstate]
        rw [hlinger]
        refine ⟨?_, hnone⟩
        rw [← hstate]
        simp [setLinger, State.clamp, State.setClamp]
    exact claimAxis_own h hclaimed hask hs fun t ht hg => ht.grantOpportunity hg
  · exact claimAxis_other h hs (fun t u ht hturn => ht.spared (hturn.spared (Ne.symm e)))
      fun t ht hg => ht.grantOpportunity hg

/-- A clamp whose release is asked stays so. -/
theorem BeingReleased.claimAxis (hs : BeingReleased a s) (h : OthersRest s) (c : Axis) :
    BeingReleased a (claimAxis legs c s) := by
  by_cases e : c = a
  · subst e
    obtain ⟨-, hkept, hswitch, hlist⟩ := claimed_turn c s
    have hclaimed : BeingReleased c (claimed c s) := by
      obtain ⟨hstate, hopen, honly⟩ := hs
      exact ⟨by rwa [hkept], by rwa [hswitch], by rwa [hlist]⟩
    have hstays : askClamp c (claimed c s) = claimed c s := by
      have hboth := hclaimed
      obtain ⟨hstate, -⟩ := hboth
      rcases hstate with h | h <;> simp [askClamp, h]
    exact claimAxis_own h hclaimed (by rwa [hstays]) hs fun t ht hg => ht.grantOpportunity hg
  · exact claimAxis_other h hs (fun t u ht hturn => ht.spared (hturn.spared (Ne.symm e)))
      fun t ht hg => ht.grantOpportunity hg

/-- An ENGAGED clamp with its switch open that motion must release. -/
def Engaged (a : Axis) (s : State) : Prop :=
  ClampStands a .engaged s ∧ (s.clamp a).switchClosed = false ∧ clampNeeded s a = true

/-- Its own axis's claim has the release of an ENGAGED clamp asked (R31, R95). -/
theorem Engaged.claimAxis_own (hs : Engaged a s) (h : OthersRest s) (hl : (legs.get a).isSome = true) :
    BeingReleased a (claimAxis legs a s) := by
  obtain ⟨⟨hstate, hnone⟩, hopen, hneeded⟩ := hs
  obtain ⟨hmotion, hgear⟩ := claimed_rests h a
  obtain ⟨-, hkept, hswitch, hlist⟩ := claimed_turn a s
  have hasks : askClamp a (claimed a s) = joinRequest (.release a) (setClampState a .releaseWait (claimed a s)) := by
    simp [askClamp, hkept, hstate]
  have hjoined : BeingReleased a (askClamp a (claimed a s)) := by
    rw [hasks]
    refine ⟨.inl ?_, ?_, fun k hk hf => ?_⟩
    · simp [joinRequest, setClampState, State.clamp, State.setClamp]
    · have hclosed : ((claimed a s).clamp a).switchClosed = false := hswitch.trans hopen
      simpa [joinRequest, setClampState, State.clamp, State.setClamp] using hclosed
    · have hmem : k ∈ strokesOf (claimed a s) ∨ k = .release a := by
        simpa [strokesOf, joinRequest, setClampState, State.setClamp] using hk
      exact hmem.resolve_left fun hold => hnone k (hlist ▸ hold) hf
  have hstill : clampNeeded (claimed a s) a = true := by
    rw [← hneeded]
    simp [clampNeeded, clampTakesPart, claimed_axis]
  rw [claimAxis_of_leg hl]
  obtain ⟨hstroked, -⟩ := askClamp_stroked (hmotion a)
  rcases askRelease_cases (claimed_rests h a) a with ⟨hno, -⟩ | ⟨-, e | e⟩
  · rw [hstill] at hno
    cases hno
  · rwa [e]
  · rw [e]
    exact hjoined.grantOpportunity (by rw [hstroked.gear, hgear])

theorem claimAxis_needed (h : OthersRest s) (a c : Axis) :
    clampNeeded (claimAxis legs c s) a = clampNeeded s a := by
  obtain ⟨k, hk⟩ := claimedUnit_form legs c (s.axis a)
  refine clampNeeded_congr ?_ ?_ <;> rw [claimAxis_axis h, hk] <;> split <;> rfl

theorem Engaged.claimAxis_other (hs : Engaged a s) (h : OthersRest s) (hne : c ≠ a) :
    Engaged a (claimAxis legs c s) := by
  obtain ⟨hstands, hopen, hneeded⟩ := hs
  have hboth : ClampStands a .engaged (claimAxis legs c s)
      ∧ ((claimAxis legs c s).clamp a).switchClosed = false :=
    Machine.claimAxis_other (P := fun t => ClampStands a .engaged t ∧ (t.clamp a).switchClosed = false) h
      ⟨hstands, hopen⟩
      (fun t u ⟨ht, hsw⟩ hturn => by
        have hspared := hturn.spared (Ne.symm hne)
        obtain ⟨hclamp, -⟩ := hturn.spared (Ne.symm hne)
        exact ⟨ht.spared hspared, by rwa [hclamp]⟩)
      fun t ⟨ht, hsw⟩ hg => ⟨ht.grantOpportunity hg, by rwa [inputs_clamp (grantOpportunity_inputs t) a]⟩
  obtain ⟨hstill, hswitch⟩ := hboth
  exact ⟨hstill, hswitch, by rwa [claimAxis_needed h]⟩

/-! ### All the claims -/

theorem claims_axis (h : OthersRest s) (a : Axis) :
    (eachAxis (claimAxis legs) s).axis a = claimedUnit legs a (s.axis a) :=
  eachAxis_at (P := OthersRest) (view := fun a t => t.axis a) (out := fun a t => claimedUnit legs a (t.axis a))
    (fun _ _ ht => claimAxis_rests ht _) (fun _ _ _ ht hne => by rw [claimAxis_axis ht, if_neg hne])
    (fun _ _ _ ht hne => by rw [claimAxis_axis ht, if_neg hne])
    (fun _ _ ht => by rw [claimAxis_axis ht, if_pos rfl]) h a

theorem claimAxis_form (h : OthersRest s) (a : Axis) :
    claimAxis legs a s =
      { s with
        axes := (claimAxis legs a s).axes, clamps := (claimAxis legs a s).clamps
        valve := (claimAxis legs a s).valve } := by
  cases hl : (legs.get a).isSome with
  | true =>
    obtain ⟨hstroked, -⟩ := askRelease_rests (claimed_rests h a) a
    rw [claimAxis_of_leg hl]
    refine hstroked.form.trans ?_
    rw [claimed_form a s]
  | false => rw [claimAxis_of_none hl]

theorem claims_form (h : OthersRest s) :
    eachAxis (claimAxis legs) s =
      { s with
        axes := (eachAxis (claimAxis legs) s).axes, clamps := (eachAxis (claimAxis legs) s).clamps
        valve := (eachAxis (claimAxis legs) s).valve } := by
  have hboth := eachAxis_keeps (f := claimAxis legs)
    (P := fun t => OthersRest t ∧ t = { s with axes := t.axes, clamps := t.clamps, valve := t.valve })
    (fun a t ⟨ht, hform⟩ => ⟨claimAxis_rests ht a, by
      refine (claimAxis_form ht a).trans ?_
      rw [hform]⟩) ⟨h, rfl⟩
  exact hboth.2

theorem claims_unfaulted (h : OthersRest s) : Unfaulted s (eachAxis (claimAxis legs) s) := by
  have hboth := eachAxis_keeps (f := claimAxis legs) (P := fun t => OthersRest t ∧ Unfaulted s t)
    (fun a t ⟨ht, hu⟩ => ⟨claimAxis_rests ht a, hu.trans (claimAxis_unfaulted ht a)⟩) ⟨h, fun _ => id⟩
  exact hboth.2

theorem ClampStands.claims {σ : ClampState} (hs : ClampStands a σ s) (hσ : σ = .fault ∨ σ = .released)
    (h : OthersRest s) : ClampStands a σ (eachAxis (Machine.claimAxis legs) s) := by
  have hboth := eachAxis_keeps (f := Machine.claimAxis legs) (P := fun t => OthersRest t ∧ ClampStands a σ t)
    (fun c t ⟨ht, hu⟩ => ⟨claimAxis_rests ht c, hu.claimAxis hσ ht c⟩) ⟨h, hs⟩
  exact hboth.2

theorem Engaged.claims (hs : Engaged a s) (h : OthersRest s) (hl : (legs.get a).isSome = true) :
    BeingReleased a (eachAxis (Machine.claimAxis legs) s) := by
  have hboth := eachAxis_establishes (f := Machine.claimAxis legs) (a := a)
    (Pre := fun t => OthersRest t ∧ Engaged a t) (Post := fun t => OthersRest t ∧ BeingReleased a t)
    (fun c t hne ⟨ht, hu⟩ => ⟨claimAxis_rests ht c, hu.claimAxis_other ht hne⟩)
    (fun t ⟨ht, hu⟩ => ⟨claimAxis_rests ht a, hu.claimAxis_own ht hl⟩)
    (fun c t ⟨ht, hu⟩ => ⟨claimAxis_rests ht c, hu.claimAxis ht c⟩) ⟨h, hs⟩
  exact hboth.2

end

end Sys2Proof.Machine

namespace Sys2Proof.Machine

/-! ## The checks of R40, one cause after the other -/

section
variable {s t : State} {e : Entry} {rest : List Entry}

/-- Of a STARTING head of a running program: what the checks so far have found is all that differs (R39, R40). -/
def CheckedTo (s : State) (found : CauseSet) (t : State) : Prop :=
  t = { s with planner := checkedPlanner s s.planner found }

theorem checkedTo_empty (hcauses : s.planner.causes = .empty) : CheckedTo s .empty s := by
  have hplanner : checkedPlanner s s.planner .empty = { s.planner with causes := .empty } := by
    simp [checkedPlanner, CauseSet.empty, CauseSet.hasCondition]
  rw [CheckedTo, hplanner, ← hcauses]

/-- A cause raised over a STARTING head is in the set, and a start-time cause without a tied entry (R39, R40). -/
theorem raiseCause_checked {found : CauseSet} (hrun : s.planner.state = .running)
    (hhead : s.planner.head = some .starting) {x : HoldCause} (hx : x.isCondition = true) (hlost : x ≠ .pendantLost)
    (hnew : found.has x = false) :
    CheckedTo s (found.put x true) (raiseCause x { s with planner := checkedPlanner s s.planner found }) := by
  have htied : ∀ p x, hasTied { s with planner := p } x = hasTied s x := fun _ _ => rfl
  have hactive : ∀ p : Planner, p.state = .running ∨ p.state = .held → p.head = some .starting →
      raiseCause x { s with planner := p } =
        { s with planner := { p with
          state := .held, causes := p.causes.put x true
          startTime := if x.isCondition && !p.causes.has x && !hasTied s x then p.startTime.put x true
            else p.startTime } } := fun p hp hph => by
    rcases hp with hp | hp <;> simp [raiseCause, hp, hph, htied]
  have hstate : (checkedPlanner s s.planner found).state = .running
      ∨ (checkedPlanner s s.planner found).state = .held := by
    simp only [checkedPlanner, hrun]
    split <;> simp
  refine (hactive (checkedPlanner s s.planner found) hstate hhead).trans ?_
  simp only [checkedPlanner, hnew, hx]
  cases x with
  | operator => cases hx
  | host => cases hx
  | pendantLost => exact absurd rfl hlost
  | coolant => cases hasTied s .coolant <;> simp_all [CauseSet.put, CauseSet.has, CauseSet.hasCondition]
  | clamp => cases hasTied s .clamp <;> simp_all [CauseSet.put, CauseSet.has, CauseSet.hasCondition]
  | gear => cases hasTied s .gear <;> simp_all [CauseSet.put, CauseSet.has, CauseSet.hasCondition]
  | spindle => cases hasTied s .spindle <;> simp_all [CauseSet.put, CauseSet.has, CauseSet.hasCondition]

theorem put_false {found : CauseSet} {x : HoldCause} (h : found.has x = false) : found.put x false = found := by
  obtain ⟨o1, o2, o3, o4, o5, o6, o7⟩ := found
  cases x <;> simpa [CauseSet.put, CauseSet.has] using h.symm

/-- A check that finds its condition raises its cause, and one that does not raises nothing (R40). -/
theorem CheckedTo.raiseIf {found : CauseSet} (h : CheckedTo s found t) (hrun : s.planner.state = .running)
    (hhead : s.planner.head = some .starting) {x : HoldCause} (hx : x.isCondition = true) (hlost : x ≠ .pendantLost)
    (hnew : found.has x = false) (b : Bool) : CheckedTo s (found.put x b) (raiseIf b x t) := by
  cases b with
  | false => rwa [put_false hnew]
  | true =>
    rw [h]
    exact raiseCause_checked hrun hhead hx hlost hnew

/-- The planner after the checks of R40. -/
theorem startChecks_checked (hq : s.planner.queue = e :: rest) (hrun : s.planner.state = .running)
    (hhead : s.planner.head = some .starting) (hcauses : s.planner.causes = .empty) :
    startChecks s =
      { s with
        planner :=
          checkedPlanner s s.planner (startCauses s e.body s.planner.context s.planner.coolantWait) } := by
  have hbody : headBody s = some e.body := by simp [headBody, hq]
  have hclamp : clampFaulted s = (startCauses s e.body s.planner.context s.planner.coolantWait).clamp := by
    unfold clampFaulted startCauses
    cases s.planner.context <;> simp [hbody]
  have hmoves : perRevMoves s = (e.body.isPerRev && s.planner.context.any MoveContext.moves) := by
    simp [perRevMoves, headIsPerRev, headMoves, hbody]
  have h1 := (checkedTo_empty hcauses).raiseIf hrun hhead (x := .clamp) rfl (by decide) rfl (clampFaulted s)
  have h2 := h1.raiseIf hrun hhead (x := .spindle) rfl (by decide) rfl
    (perRevMoves s && (s.spindle.sProg == 0 || hasSpindleFault s))
  have h3 := h2.raiseIf hrun hhead (x := .gear) rfl (by decide) rfl
    (perRevMoves s && (s.gear.gearbox == .neutral || s.gear.gearbox == .unknown))
  have h4 := h3.raiseIf hrun hhead (x := .coolant) rfl (by decide) rfl
    (s.planner.coolantWait && (s.coolant.tsc == .faulted || s.coolant.tsc == .blocked))
  refine h4.trans ?_
  rw [hclamp, hmoves]
  rfl

end

end Sys2Proof.Machine

namespace Sys2Proof.Machine

/-! ## A MOVE at the head that begins (R31, R32) -/

section
variable {s : State} {tag : Tag} {targets : PerAxis (Option Int)} {m : FeedMode} {feed : Nat} {rest : List Entry}
  {c : MoveContext}

/-- The state of a period whose head has its context and has made no claim yet. -/
def contextFixed (c : MoveContext) (s : State) : State :=
  { periodBegun s with planner := { s.planner with head := some .starting, context := some c } }

/-- A QUEUED MOVE with its context fixed and its axes claimed (R31). -/
def claimsMade (c : MoveContext) (s : State) : State := eachAxis (claimAxis c.legs) (contextFixed c s)

theorem startActions_move (hq : s.planner.queue = ⟨tag, .move targets m feed⟩ :: rest)
    (hnone : s.planner.context = none) :
    startActions (started (periodBegun s)) = claimsMade (newContext s targets) s := by
  have hfixed : fixContext targets (started (periodBegun s)) = contextFixed (newContext s targets) s := by
    have hbegun : (started (periodBegun s)).planner.context = none := hnone
    unfold fixContext
    rw [hbegun]
    rfl
  have hmove : startActions (started (periodBegun s)) = claimAxes (fixContext targets (started (periodBegun s))) := by
    have hbegun : (started (periodBegun s)).planner.queue = ⟨tag, .move targets m feed⟩ :: rest := hq
    unfold startActions
    rw [hbegun]
  rw [hmove, hfixed]
  rfl

theorem contextFixed_rests (h : HeadAlone s) : OthersRest (contextFixed c s) := by
  obtain ⟨-, hmotion, hgear, -⟩ := h
  exact ⟨hmotion, hgear⟩

theorem claimsMade_form (h : HeadAlone s) :
    claimsMade c s =
      { contextFixed c s with
        axes := (claimsMade c s).axes, clamps := (claimsMade c s).clamps, valve := (claimsMade c s).valve } :=
  claims_form (contextFixed_rests h)

theorem claimsMade_axis (h : HeadAlone s) (a : Axis) : (claimsMade c s).axis a = claimedUnit c.legs a (s.axis a) :=
  claims_axis (contextFixed_rests h) a

theorem claimsMade_needed (h : HeadAlone s) (a : Axis) : clampNeeded (claimsMade c s) a = clampNeeded s a := by
  obtain ⟨k, hk⟩ := claimedUnit_form c.legs a (s.axis a)
  exact clampNeeded_congr (by rw [claimsMade_axis h, hk]) (by rw [claimsMade_axis h, hk])

/-- A clamp in FAULT and a RELEASED one stand through the claims, the list being empty before them. -/
theorem claimsMade_stands (h : HeadAlone s) {a : Axis} {σ : ClampState} (hstate : (s.clamp a).state = σ)
    (hσ : σ = .fault ∨ σ = .released) : ((claimsMade c s).clamp a).state = σ := by
  have hrests : OthersRest (contextFixed c s) := contextFixed_rests h
  obtain ⟨-, -, -, hempty⟩ := h
  have hstands : ClampStands a σ (contextFixed c s) :=
    ⟨hstate, fun k hk => by
      rw [strokesOf, show (contextFixed c s).valve.requests = [] from hempty] at hk
      cases hk⟩
  obtain ⟨hsame, -⟩ := hstands.claims (legs := c.legs) hσ hrests
  exact hsame

theorem claimsMade_fault (h : HeadAlone s) (a : Axis) :
    ((claimsMade c s).clamp a).state = .fault ↔ (s.clamp a).state = .fault :=
  ⟨claims_unfaulted (contextFixed_rests h) a, fun hf => claimsMade_stands h hf (.inl rfl)⟩

/-- A needed clamp that counts as RELEASED counts so through the claims (R94). -/
theorem claimsMade_released (h : HeadAlone s) {a : Axis} (hr : clampReleased s a = true) :
    clampReleased (claimsMade c s) a = true := by
  rw [clampReleased, claimsMade_needed h]
  cases hn : clampNeeded s a with
  | false => rfl
  | true =>
    have hstate : (s.clamp a).state = .released := by simpa [clampReleased, hn] using hr
    simp [claimsMade_stands h hstate (.inr rfl)]

/-- The release of an ENGAGED clamp of a moving axis is asked (R31, R95). -/
theorem claimsMade_releasing (h : HeadAlone s) {a : Axis} {l : Leg} (hl : c.legs.get a = some l)
    (hr : clampReleased s a = false) (hstate : (s.clamp a).state = .engaged)
    (hopen : (s.clamp a).switchClosed = false) :
    BeingReleased a (claimsMade c s) := by
  have hrests : OthersRest (contextFixed c s) := contextFixed_rests h
  obtain ⟨-, -, -, hempty⟩ := h
  have hneeded : clampNeeded s a = true := by
    cases hn : clampNeeded s a with
    | true => rfl
    | false => simp [clampReleased, hn] at hr
  have hengaged : Engaged a (contextFixed c s) := by
    refine ⟨⟨hstate, fun k hk => ?_⟩, hopen, hneeded⟩
    rw [strokesOf, show (contextFixed c s).valve.requests = [] from hempty] at hk
    cases hk
  exact hengaged.claims hrests (by simp [hl])

/-- The checks of R40 find after the claims what they find before. -/
theorem claimsMade_causes (h : HeadAlone s) (e : EntryBody) :
    startCauses (claimsMade c s) e (some c) false = startCauses s e (some c) false := by
  have hform := claimsMade_form (c := c) h
  have hblocks : (claimsMade c s).gear = s.gear ∧ (claimsMade c s).spindle = s.spindle
      ∧ (claimsMade c s).stop = s.stop := by
    rw [hform]
    exact ⟨rfl, rfl, rfl⟩
  obtain ⟨hgear, hspindle, hstop⟩ := hblocks
  have hfault : ∀ a, (((claimsMade c s).clamp a).state == .fault) = ((s.clamp a).state == .fault) := fun a => by
    rw [Bool.eq_iff_iff]
    simpa using claimsMade_fault h a
  have hspindleFault : hasSpindleFault (claimsMade c s) = hasSpindleFault s := by
    unfold hasSpindleFault hasCode
    rw [hstop]
  simp only [startCauses, Bool.false_and, hgear, hspindle, hfault, claimsMade_needed h, hspindleFault]

end

end Sys2Proof.Machine

namespace Sys2Proof.Machine

/-! ## A MOVE that begins, and one that takes its first step (R27, R31, R32) -/

section
variable {s : State} {tag : Tag} {targets : PerAxis (Option Int)} {m : FeedMode} {feed : Nat} {rest : List Entry}
  {c : MoveContext}

/-- A QUEUED MOVE that has made its claims and taken its checks (R31, R40). -/
def moveChecked (c : MoveContext) (found : CauseSet) (s : State) : State :=
  { claimsMade c s with
    planner := checkedPlanner s { s.planner with head := some .starting, context := some c } found }

theorem periodWork_moveBegins (halone : HeadAlone s) (hrun : s.planner.state = .running)
    (hq : s.planner.queue = ⟨tag, .move targets m feed⟩ :: rest) (hhead : s.planner.head = some .queued)
    (hnone : s.planner.context = none) (hwait : s.planner.coolantWait = false) (hcauses : s.planner.causes = .empty)
    (hc : c = newContext s targets) :
    periodWork s = headWork (moveChecked c (startCauses s (.move targets m feed) (some c) false) s) := by
  subst hc
  have hform := claimsMade_form (c := newContext s targets) halone
  have hplanner : (claimsMade (newContext s targets) s).planner =
      { s.planner with head := some .starting, context := some (newContext s targets) } := by
    rw [hform]
    rfl
  have hstop : (claimsMade (newContext s targets) s).stop = s.stop := by
    rw [hform]
    rfl
  have hsame : ∀ p found,
      checkedPlanner (claimsMade (newContext s targets) s) p found = checkedPlanner s p found := by
    intro p found
    unfold checkedPlanner hasTied hasCode
    rw [hstop]
  rw [periodWork_begins hrun hq hhead, startActions_move hq hnone,
    startChecks_checked (e := ⟨tag, .move targets m feed⟩) (rest := rest) (by rw [hplanner]; exact hq)
      (by rw [hplanner]; exact hrun) (by rw [hplanner]) (by rw [hplanner]; exact hcauses)]
  have hcontext : (claimsMade (newContext s targets) s).planner.context = some (newContext s targets) := by
    rw [hplanner]
  have hunarmed : (claimsMade (newContext s targets) s).planner.coolantWait = false := by rw [hplanner, ← hwait]
  rw [hcontext, hunarmed, hsame, claimsMade_causes halone, hplanner]
  rfl

/-- The state `w` of a period of `s` whose head is a STARTING MOVE with the context `c`. -/
def MoveStarting (c : MoveContext) (s w : State) : Prop :=
  w = { s with planner := w.planner, axes := w.axes, clamps := w.clamps, valve := w.valve, clocks := w.clocks }
    ∧ w.planner = { s.planner with head := some .starting, context := some c }
    ∧ (∀ a, ∃ k, w.axis a = { s.axis a with claim := k })
    ∧ ∀ a, clampReleased s a = true → clampReleased w a = true

/-- Checks that find no cause leave the planner's record as it was (R40). -/
theorem checkedPlanner_none {p : Planner} {found : CauseSet} (hfound : found.hasCondition = false)
    (hoperator : found.operator = false) (hhost : found.host = false) (hp : p.causes = .empty) :
    checkedPlanner s p found = p := by
  obtain ⟨o1, o2, o3, o4, o5, o6, o7⟩ := found
  simp only [CauseSet.hasCondition, Bool.or_eq_false_iff] at hfound hoperator hhost
  obtain ⟨⟨⟨⟨rfl, rfl⟩, rfl⟩, rfl⟩, rfl⟩ := hfound
  subst hoperator hhost
  have hempty : p.causes = ⟨false, false, false, false, false, false, false⟩ := hp
  simp [checkedPlanner, CauseSet.hasCondition, ← hempty]

theorem moveStarting_begun (halone : HeadAlone s) {found : CauseSet} (hfound : found.hasCondition = false)
    (hoperator : found.operator = false) (hhost : found.host = false) (hcauses : s.planner.causes = .empty) :
    MoveStarting c s (moveChecked c found s) := by
  refine ⟨?_, checkedPlanner_none hfound hoperator hhost hcauses, fun a => ?_, fun a ha => ?_⟩
  · rw [moveChecked, claimsMade_form halone]
    rfl
  · obtain ⟨k, hk⟩ := claimedUnit_form c.legs a (s.axis a)
    exact ⟨k, (claimsMade_axis halone a).trans hk⟩
  · exact claimsMade_released halone ha

theorem moveStarting_kept (hhead : s.planner.head = some .starting) (hc : s.planner.context = some c) :
    MoveStarting c s (periodBegun s) := by
  refine ⟨rfl, ?_, fun a => ⟨_, rfl⟩, fun a ha => ha⟩
  rw [← hhead, ← hc]
  rfl

/-- The start conditions of a MOVE: its clamps RELEASED and, in PER_REV, the spindle ready (R31, R32). -/
theorem MoveStarting.conditions {w : State} (hstarting : MoveStarting c s w)
    (hq : s.planner.queue = ⟨tag, .move targets m feed⟩ :: rest) (hwait : s.planner.coolantWait = false)
    (hspeed : s.planner.speedWait = false) (hclamps : ∀ a l, c.legs.get a = some l → clampReleased s a = true)
    (hready : m = .perRev → c.moves = true →
      s.gear.gearbox.inRange = true ∧ s.spindle.sCmd ≠ 0 ∧ s.spindle.atSpeed = true) :
    startConditions w = true := by
  obtain ⟨hform, hplanner, -, hreleased⟩ := hstarting
  have hqueue : w.planner.queue = ⟨tag, .move targets m feed⟩ :: rest := by rw [hplanner]; exact hq
  have hblocks : w.gear = s.gear ∧ w.spindle = s.spindle := by
    rw [hform]
    simp
  obtain ⟨wgear, wspindle⟩ := hblocks
  have hclampsReady : clampsReady w c = true := by
    rw [clampsReady, List.all_eq_true]
    intro a _
    cases hl : c.legs.get a with
    | none => rfl
    | some l => simp [hreleased a (hclamps a l hl)]
  have hspindleReady : (m != .perRev || !c.moves || spindleReady w) = true := by
    cases hmoves : c.moves with
    | false => simp
    | true =>
      cases m
      case perRev =>
        obtain ⟨h1, h2, h3⟩ := hready rfl hmoves
        simp [spindleReady, wgear, wspindle, h1, h2, h3]
      all_goals rfl
  have hentry : entryReady w ⟨tag, .move targets m feed⟩ = true := by
    rw [entryReady, hplanner]
    simp [hclampsReady, hspindleReady]
  rw [startConditions_cons hqueue, hentry, hplanner, hwait, hspeed]
  rfl

/-- A STARTING MOVE whose conditions hold takes its first step, or completes where it has no path (R31, R32, R53). -/
theorem period_moveStarts (hs : Settled s) (halone : HeadAlone s) (hroom : EventRoom s 1)
    (hrun : s.planner.state = .running) (hq : s.planner.queue = ⟨tag, .move targets m feed⟩ :: rest)
    (hwait : s.planner.coolantWait = false) (hspeed : s.planner.speedWait = false) {w : State}
    (hw : periodWork s = headWork w) (hstarting : MoveStarting c s w)
    (hlegs : ∀ a l, c.legs.get a = some l →
      (s.axis a).configured = true ∧ (s.axis a).referenced = true ∧ (s.axis a).mode ≠ .parked)
    (hclamps : ∀ a l, c.legs.get a = some l → clampReleased s a = true)
    (hready : m = .perRev → c.moves = true →
      s.gear.gearbox.inRange = true ∧ s.spindle.sCmd ≠ 0 ∧ s.spindle.atSpeed = true) :
    ∃ t v, exec .interpolationPeriod s = .next t ∧ OnlyMotion s t
      ∧ v = nextVelocity c (runningTarget m feed s.pendant.feedOverride s.spindle.sMeas c.vLim)
      ∧ (c.kind ≠ .null → ∀ a l, c.legs.get a = some l →
          (t.axis a).commanded = l.start + roundAway (l.d * (c.travelled + v : Nat)) c.lengthN)
      ∧ (c.kind ≠ .null → c.travelled + v < c.lengthN → Owes s t [] []
          ∧ (∀ a, (t.axis a).claim = (w.axis a).claim)
          ∧ t.planner =
            { s.planner with
              head := some .active
              context :=
                some { c with
                  v := v, travelled := c.travelled + v
                  limiter := limiterFor c (uncappedVelocity m feed s.pendant.feedOverride s.spindle.sMeas) } })
      ∧ (c.kind = .null ∨ c.travelled + v = c.lengthN →
          Owes s t [] [.entryDone tag .move .completed] ∧ t.planner = headGone s.planner rest
            ∧ ∀ a, (t.axis a).claim = false) := by
  have hparts := hstarting
  obtain ⟨hform, hplanner, haxes, -⟩ := hparts
  have hqueue : w.planner.queue = ⟨tag, .move targets m feed⟩ :: rest := by rw [hplanner]; exact hq
  have hblocks : w.gear = s.gear ∧ w.spindle = s.spindle ∧ w.pendant = s.pendant ∧ w.link = s.link
      ∧ w.coolant = s.coolant ∧ w.pending = s.pending := by
    rw [hform]
    simp
  obtain ⟨wgear, wspindle, wpendant, wlink, wcoolant, wpending⟩ := hblocks
  have hcond := hstarting.conditions hq hwait hspeed hclamps hready
  have hwork : periodWork s = moveWork m feed (promoted w) := by
    rw [hw, headWork_promotes (by rw [hplanner]; exact hrun) (by rw [hplanner]) hcond]
    exact activeWork_move (s := promoted w) hqueue rfl
  have hcontext : (promoted w).planner.context = some c := by rw [promoted, hplanner]
  obtain ⟨v, hv⟩ :
      ∃ v, v = nextVelocity c (runningTarget m feed s.pendant.feedOverride s.spindle.sMeas c.vLim) := ⟨_, rfl⟩
  have hmotion : ∀ a, (w.axis a).motion = (s.axis a).motion := fun a => by
    obtain ⟨k, hk⟩ := haxes a
    rw [hk]
  have hgone : ∀ p : Planner, p.state = s.planner.state → p.causes = s.planner.causes →
      p.startTime = s.planner.startTime → p.displaced = s.planner.displaced →
      p.coolantWait = s.planner.coolantWait → headGone p rest = headGone s.planner rest := by
    intro p h1 h2 h3 h4 h5
    simp [headGone, h1, h2, h3, h4, h5]
  by_cases hkind : c.kind = .null
  · rw [moveWork_null hcontext hkind] at hwork
    obtain ⟨t, ht, honly, howes, hclaim, hends, -⟩ := period_completes hs halone hroom hwork
      (by rw [promoted, hplanner]; exact hrun) hqueue
      (halone.worked (by rw [promoted, wgear]) hmotion wpendant wlink)
    refine ⟨t, v, ht, honly.of_work wspindle wgear wcoolant wpendant wpending, hv, fun h => absurd hkind h,
      fun h => absurd hkind h, fun _ => ⟨howes, ?_, hclaim⟩⟩
    rw [hends, if_neg (by simp)]
    apply hgone <;> rw [promoted, hplanner]
  · have hmoved : movedContext m feed c (promoted w) =
        { c with
          v := v, travelled := c.travelled + v
          limiter := limiterFor c (uncappedVelocity m feed s.pendant.feedOverride s.spindle.sMeas) } := by
      have hstate : (promoted w).planner.state = .running := by rw [promoted, hplanner]; exact hrun
      rw [movedContext, if_pos hstate, hv, promoted, wpendant, wspindle]
      rfl
    obtain ⟨d, hd⟩ : ∃ d : MoveContext, d =
        { c with
          v := v, travelled := c.travelled + v
          limiter := limiterFor c (uncappedVelocity m feed s.pendant.feedOverride s.spindle.sMeas) } := ⟨_, rfl⟩
    rw [moveWork_path hcontext hkind, hmoved, ← hd] at hwork
    have hdone : decide (d.lengthN ≤ d.travelled) = decide (c.lengthN ≤ c.travelled + v) := by rw [hd]
    have hworked : Worked s (distribute d (promoted w)) :=
      halone.worked (by rw [← wgear]; rfl) (fun a => by rw [distribute_axis]; exact hmotion a) wpendant wlink
    have hplace : ∀ t : State,
        (∀ a, ((distribute d (promoted w)).axis a).mode ≠ .parked →
          positionsFollow (distribute d (promoted w)) a = false →
          (t.axis a).commanded = ((distribute d (promoted w)).axis a).commanded) →
        ∀ a l, c.legs.get a = some l →
          (t.axis a).commanded = l.start + roundAway (l.d * (c.travelled + v : Nat)) c.lengthN := by
      intro t ht a l hl
      obtain ⟨hconf, href, hmode⟩ := hlegs a l hl
      obtain ⟨k, hk⟩ := haxes a
      have hsame : (promoted w).axis a = { s.axis a with claim := k } := hk
      obtain ⟨dmode, dfollow⟩ := distribute_follows (s := promoted w) d (by rw [hsame]; exact hconf)
        (by rw [hsame]; exact href) (by rw [hsame]; exact hmode)
      rw [ht a dmode dfollow, distribute_commanded (show d.legs.get a = some l by rw [hd]; exact hl), hd]
    rw [hdone] at hwork
    by_cases hend : c.lengthN ≤ c.travelled + v
    · rw [decide_eq_true hend] at hwork
      obtain ⟨t, ht, honly, howes, hclaim, hends, hcommanded⟩ := period_completes hs halone hroom hwork
        (by rw [distribute, promoted, hplanner]; exact hrun) hqueue hworked
      refine ⟨t, v, ht, honly.of_work wspindle wgear wcoolant wpendant wpending, hv, fun _ => hplace t hcommanded,
        fun _ hlt => absurd hend (by omega), fun _ => ⟨howes, ?_, hclaim⟩⟩
      rw [hends, if_neg (by simp)]
      apply hgone <;> rw [distribute, promoted, hplanner]
    · rw [decide_eq_false hend] at hwork
      obtain ⟨t, ht, honly, howes, hends, hclaim, hcommanded⟩ := period_stays hs halone hwork
        (.inl (by rw [distribute, promoted, hplanner]; exact hrun)) hworked
      refine ⟨t, v, ht, honly.of_work wspindle wgear wcoolant wpendant wpending, hv, fun _ => hplace t hcommanded,
        fun _ _ => ⟨howes, fun a => ?_, ?_⟩, fun h => absurd h (by simp [hkind]; omega)⟩
      · rw [hclaim, distribute_axis]
        rfl
      · rw [hends, distribute, promoted, hplanner, ← hspeed, hd]

end

end Sys2Proof.Machine

namespace Sys2Proof.Machine

/-! ## A clamp being released through a period (R88, R97) -/

section
variable {s t : State} {a : Axis}

theorem BeingReleased.of_eq (h : BeingReleased a s) (hc : t.clamps = s.clamps) (hv : t.valve = s.valve) :
    BeingReleased a t := by
  unfold BeingReleased State.clamp strokesOf at *
  rwa [hc, hv]

/-- The linger check of a period passes over a clamp that is not RELEASED (R97). -/
theorem BeingReleased.periodLinger (hs : BeingReleased a s) (h : s.gear.step = .idle) (c : Axis) :
    BeingReleased a (periodLinger c s) := by
  unfold Machine.periodLinger
  split
  · next hreleased =>
    have hne : a ≠ c := by
      rintro rfl
      obtain ⟨hstate, -⟩ := hs
      simp only [Bool.and_eq_true, beq_iff_eq] at hreleased
      rcases hstate with h | h <;> simp [h] at hreleased
    have hlinger : ClampTurn c s (setLinger c none s) := .setClamp id
    have hstarts : BeingReleased a (startLinger c s) := hs.spared ((ClampTurn.startLinger s).spared hne)
    split
    · split
      · rcases withOpportunity_cases (startLinger c) s with ⟨-, e⟩ | ⟨-, e⟩ <;> rw [e]
        · exact hstarts
        · exact hstarts.grantOpportunity (by simpa using h)
      · exact hs
    · exact hs.spared (hlinger.spared hne)
  · exact hs

theorem BeingReleased.periodEnds (hs : BeingReleased a s) (h : s.gear.step = .idle) :
    BeingReleased a (periodEnds s) := by
  have hchecked : BeingReleased a (eachAxis renewErrorCondition (eachAxis checkParked s))
      ∧ (eachAxis renewErrorCondition (eachAxis checkParked s)).gear.step = .idle :=
    ⟨hs.of_eq (by simp [eachAxis]) (by simp [eachAxis]), by simpa [eachAxis] using h⟩
  have hlinger := eachAxis_keeps (f := Machine.periodLinger)
    (P := fun t => BeingReleased a t ∧ t.gear.step = .idle)
    (fun c t ⟨ht, hg⟩ => ⟨ht.periodLinger hg c, by rw [(Aside.periodLinger hg c).gear, hg]⟩) hchecked
  obtain ⟨hlingered, -⟩ := hlinger
  unfold Machine.periodEnds
  exact hlingered.of_eq (by simp [eachAxis]) (by simp [eachAxis])

/-- A clamp whose release the planner's work has asked is still being released at the end of the period. -/
theorem BeingReleased.afterPeriod_state {w : State} (hw : periodWork s = (w, false)) (hs : BeingReleased a w)
    (hwell : FollowsWell s) (hmotion : ∀ a, (w.axis a).motion = .idle) (hgear : w.gear.step = .idle) :
    ((afterPeriod s).clamp a).state = .releaseWait ∨ ((afterPeriod s).clamp a).state = .releasing := by
  have hw1 : (periodWork s).1 = w := by rw [hw]
  have hfinished := periodFinished_idle (s := s) (by rwa [hw1])
  have houtputs : (periodOutputs s).clamps = w.clamps ∧ (periodOutputs s).valve = w.valve
      ∧ (periodOutputs s).gear = w.gear := by
    rw [← hw1]
    simp [periodOutputs, periodWork, eachAxis]
  obtain ⟨oclamps, ovalve, ogear⟩ := houtputs
  have hends : BeingReleased a (interpolate s) := by
    rw [interpolate_eq hwell, hfinished]
    refine BeingReleased.periodEnds (hs.of_eq ?_ ?_) ?_ <;> simp [oclamps, ovalve, ogear, hgear]
  obtain ⟨hstate, -⟩ := hends
  have hclamp : (afterPeriod s).clamp a = (interpolate s).clamp a := by simp [State.clamp]
  rwa [hclamp]

end

/-! ## A MOVE whose start conditions fail (R31, R40) -/

section
variable {s : State} {tag : Tag} {targets : PerAxis (Option Int)} {m : FeedMode} {feed : Nat} {rest : List Entry}
  {c : MoveContext}

/-- A MOVE that begins and finds a cause, or an ENGAGED clamp to release, does not become ACTIVE (R27, R31, R40). -/
theorem period_moveHeldUp (hs : Settled s) (halone : HeadAlone s) (hrun : s.planner.state = .running)
    (hq : s.planner.queue = ⟨tag, .move targets m feed⟩ :: rest) (hhead : s.planner.head = some .queued)
    (hnone : s.planner.context = none) (hwait : s.planner.coolantWait = false) (hcauses : s.planner.causes = .empty)
    (hc : c = newContext s targets) {found : CauseSet}
    (hfound : found = startCauses s (.move targets m feed) (some c) false)
    (hlegs : ∀ a l, c.legs.get a = some l →
      (s.axis a).configured = true ∧ (s.axis a).referenced = true ∧ (s.axis a).mode ≠ .parked)
    (h : found.hasCondition = true ∨ ∃ a l, c.legs.get a = some l ∧ clampReleased s a = false
      ∧ (s.clamp a).state = .engaged ∧ (s.clamp a).switchClosed = false) :
    ∃ t, exec .interpolationPeriod s = .next t ∧ OnlyMotion s t ∧ Owes s t [] []
      ∧ t.planner = checkedPlanner s { s.planner with head := some .starting, context := some c } found
      ∧ (∀ a l, c.legs.get a = some l → (t.axis a).claim = true
          ∧ (t.axis a).commanded = (s.axis a).commanded
          ∧ (clampReleased s a = false → (s.clamp a).state = .engaged → (s.clamp a).switchClosed = false →
              (t.clamp a).state = .releaseWait ∨ (t.clamp a).state = .releasing)) := by
  have hbegins := periodWork_moveBegins (m := m) (feed := feed) halone hrun hq hhead hnone hwait hcauses hc
  rw [← hfound] at hbegins
  obtain ⟨w, hw⟩ : ∃ w, w = moveChecked c found s := ⟨_, rfl⟩
  rw [← hw] at hbegins
  have hform : w = { s with planner := w.planner, axes := w.axes, clamps := w.clamps, valve := w.valve,
                            clocks := w.clocks } := by
    rw [hw, moveChecked, claimsMade_form halone]
    rfl
  have hplanner : w.planner = checkedPlanner s { s.planner with head := some .starting, context := some c } found := by
    rw [hw]
    rfl
  have haxis : ∀ a, w.axis a = claimedUnit c.legs a (s.axis a) := fun a => by
    rw [hw]
    exact claimsMade_axis halone a
  have hreleasing : ∀ a l, c.legs.get a = some l → clampReleased s a = false → (s.clamp a).state = .engaged →
      (s.clamp a).switchClosed = false → BeingReleased a w := fun a l hl h1 h2 h3 => by
    rw [hw]
    exact (claimsMade_releasing halone hl h1 h2 h3).of_eq rfl rfl
  have hblocks : w.gear = s.gear ∧ w.spindle = s.spindle ∧ w.pendant = s.pendant ∧ w.link = s.link
      ∧ w.coolant = s.coolant ∧ w.pending = s.pending := by
    rw [hform]
    simp
  obtain ⟨wgear, wspindle, wpendant, wlink, wcoolant, wpending⟩ := hblocks
  have hmotion : ∀ a, (w.axis a).motion = (s.axis a).motion := fun a => by
    obtain ⟨k, hk⟩ := claimedUnit_form c.legs a (s.axis a)
    rw [haxis, hk]
  have hworked : Worked s w := halone.worked (by rw [wgear]) hmotion wpendant wlink
  have hqueue : w.planner.queue = ⟨tag, .move targets m feed⟩ :: rest := by rw [hplanner]; exact hq
  have hstate : w.planner.state = if found.hasCondition then .held else .running := by
    rw [hplanner, ← hrun]
    rfl
  have hwork : periodWork s = (w, false) := by
    rw [hbegins]
    cases hcond : found.hasCondition with
    | true => exact headWork_held (by simp [hstate, hcond])
    | false =>
      obtain ⟨a, l, hl, h1, h2, h3⟩ := h.resolve_left (by simp [hcond])
      refine headWork_waits (by rw [hplanner]; simp [checkedPlanner]) fun _ => ?_
      have hneeded : clampNeeded w a = true := by
        obtain ⟨k, hk⟩ := claimedUnit_form c.legs a (s.axis a)
        have hsame : clampNeeded w a = clampNeeded s a :=
          clampNeeded_congr (by rw [haxis, hk]) (by rw [haxis, hk])
        cases hn : clampNeeded s a with
        | true => rw [hsame, hn]
        | false => simp [clampReleased, hn] at h1
      have hnot : clampReleased w a = false := by
        obtain ⟨hclamp, -⟩ := hreleasing a l hl h1 h2 h3
        rcases hclamp with h | h <;> simp [clampReleased, hneeded, h]
      have hready : clampsReady w c = false := by
        rw [clampsReady, List.all_eq_false]
        exact ⟨a, by cases a <;> decide, by simp [hl, hnot]⟩
      have hcontext : w.planner.context = some c := by rw [hplanner]; rfl
      rw [startConditions_cons hqueue, entryReady]
      simp [hcontext, hready]
  obtain ⟨t, ht, honly, howes, hsame, hclaim, hcommanded⟩ := period_stays hs halone hwork
    (by rw [hstate]; split <;> simp) hworked
  refine ⟨t, ht, honly.of_work wspindle wgear wcoolant wpendant wpending, howes, hsame.trans hplanner,
    fun a l hl => ⟨?_, ?_, fun h1 h2 h3 => ?_⟩⟩
  · rw [hclaim, haxis, claimedUnit, if_pos (by simp [hl])]
  · obtain ⟨hconf, href, hmode⟩ := hlegs a l hl
    obtain ⟨k, hk⟩ := claimedUnit_form c.legs a (s.axis a)
    have hunit : w.axis a = { s.axis a with claim := k } := (haxis a).trans hk
    have hfollow : positionsFollow w a = false :=
      positionsFollow_referenced (by rw [hunit]; exact hconf) (by rw [hunit]; exact href) (by rw [hunit]; exact hmode)
    rw [hcommanded a (by rw [hunit]; exact hmode) hfollow, hunit]
  · rw [exec_interpolationPeriod] at ht
    cases ht
    obtain ⟨wgearIdle, wmotion, -⟩ := hworked
    exact (hreleasing a l hl h1 h2 h3).afterPeriod_state hwork halone.followsWell wmotion wgearIdle

end

end Sys2Proof.Machine

namespace Sys2Proof.Machine

/-! ## The moves and the head entries of a period, put together (O18) -/

/-- The head MOVE of a period that finds no cause: begun with its claims made, or STARTING already (R27, R31). -/
theorem exists_moveStarting {s : State} {tag : Tag} {targets : PerAxis (Option Int)} {m : FeedMode} {feed : Nat}
    {rest : List Entry} {c : MoveContext} {found : CauseSet} (halone : HeadAlone s)
    (hrun : s.planner.state = .running) (hq : s.planner.queue = ⟨tag, .move targets m feed⟩ :: rest)
    (hwait : s.planner.coolantWait = false) (hcauses : s.planner.causes = .empty)
    (hhead : (s.planner.head = some .queued ∧ s.planner.context = none ∧ c = newContext s targets)
      ∨ (s.planner.head = some .starting ∧ s.planner.context = some c))
    (hfound : found =
      if s.planner.head = some .queued then startCauses s (.move targets m feed) (some c) false else .empty)
    (hnone : found.hasCondition = false) :
    ∃ w, periodWork s = headWork w ∧ MoveStarting c s w
      ∧ (s.planner.head = some .queued → ∀ a l, c.legs.get a = some l → (w.axis a).claim = true) := by
  rcases hhead with ⟨hqueued, hcontext, hc⟩ | ⟨hstarting, hcontext⟩
  · rw [if_pos hqueued] at hfound
    have hbegins := periodWork_moveBegins (m := m) (feed := feed) halone hrun hq hqueued hcontext hwait hcauses hc
    rw [← hfound] at hbegins
    refine ⟨moveChecked c found s, hbegins, ?_, fun _ a l hl => ?_⟩
    · exact moveStarting_begun halone hnone (by rw [hfound]; rfl) (by rw [hfound]; rfl) hcauses
    · have hclaimed : (moveChecked c found s).axis a = claimedUnit c.legs a (s.axis a) := claimsMade_axis halone a
      rw [hclaimed, claimedUnit, if_pos (by simp [hl])]
  · refine ⟨periodBegun s, ?_, moveStarting_kept hstarting hcontext, fun h => ?_⟩
    · rw [periodWork_running hrun, startHead_progress (s := periodBegun s) (.inl hstarting)]
    · rw [hstarting] at h
      cases h

/-- Settles O18: the ACTIVE MOVE by its step and the planner's end of the period, the other head entries by what begins,
waits, becomes ACTIVE and works at one period. -/
theorem moveAdvances : Obligations.MoveAdvances := by
  refine ⟨?_, ?_, fun s => period_rests, ?_, ?_⟩
  · intro s tag targets m feed rest c hq hhead hc hkind _ hgear hwell hlegs
    exact ⟨period_running hq hhead hc hkind hgear hwell hlegs, period_holding hq hhead hc hkind hgear hwell hlegs⟩
  · intro s tag targets m feed rest c v hq hhead hc hkind _ hs halone hroom hstate hv
    exact period_aborting hq hhead hc hkind hs halone hroom hstate hv
  · intro s e rest hs halone hroom hrun hq
    refine ⟨fun hwait hspeed => ⟨period_done hs halone hroom hrun hq hwait hspeed,
      fun time left => period_dwell hs halone hroom hrun hq hwait hspeed, ?_, ?_⟩, period_waits hs halone hrun hq,
      period_promotes hs halone hroom hrun hq⟩
    · intro speed d forced wait he hhead hcauses hdeferred
      refine ⟨period_spindle_faulted hs halone hrun hq hwait hhead hcauses he, fun hfault hforced hrow => ?_⟩
      subst hforced
      exact period_spindle hs halone hroom hrun hq hwait hspeed hhead hdeferred he hfault hrow
    · intro m wait he hhead hcauses harmed
      exact period_coolant hs halone hroom hrun hq hwait hspeed he hhead hcauses harmed
  · intro s tag targets m feed rest c found hs halone hroom hrun hq hwait hspeed hcauses hhead hfound _ hlegs
    refine ⟨fun hnone hclamps hready => ?_, fun hqueued hheld => ?_⟩
    · obtain ⟨w, hw, hstarting, hclaims⟩ :=
        exists_moveStarting halone hrun hq hwait hcauses hhead hfound hnone
      obtain ⟨t, v, ht, honly, hv, hplace, hgoes, hends⟩ :=
        period_moveStarts hs halone hroom hrun hq hwait hspeed hw hstarting hlegs hclamps hready
      refine ⟨t, v, ht, honly, hv, hplace, fun hkind hlt => ?_, hends⟩
      obtain ⟨howes, hsame, hplanner⟩ := hgoes hkind hlt
      exact ⟨howes, fun hqueued a l hl => (hsame a).trans (hclaims hqueued a l hl), hplanner⟩
    · obtain ⟨hnone, hc⟩ : s.planner.context = none ∧ c = newContext s targets := by
        rcases hhead with ⟨-, h⟩ | ⟨h, -⟩
        · exact h
        · rw [hqueued] at h
          cases h
      rw [if_pos hqueued] at hfound
      exact period_moveHeldUp hs halone hrun hq hqueued hnone hwait hcauses hc hfound hlegs hheld

end Sys2Proof.Machine

namespace Sys2Proof.Machine

/-! ## Path and feed arithmetic (R51, R57) -/

/-- Choosing digits from the highest down ends at the floor square root. -/
theorem isqrtDigits_bounds (n bits r : Nat) (hlow : r * r ≤ n) (hhigh : n < (r + 2 ^ bits) * (r + 2 ^ bits)) :
    isqrtDigits n bits r * isqrtDigits n bits r ≤ n
      ∧ n < (isqrtDigits n bits r + 1) * (isqrtDigits n bits r + 1) := by
  induction bits generalizing r with
  | zero => exact ⟨hlow, hhigh⟩
  | succ bits ih =>
    have hdouble : r + 2 ^ (bits + 1) = r + 2 ^ bits + 2 ^ bits := by rw [pow_succ]; omega
    rw [hdouble] at hhigh
    rw [isqrtDigits]
    split
    · next htaken => exact ih _ htaken hhigh
    · next hleft => exact ih _ hlow (not_le.1 hleft)

/-- isqrt is the floor square root (00 "Arithmetic"). -/
theorem isqrt_bounds (n : Nat) : isqrt n * isqrt n ≤ n ∧ n < (isqrt n + 1) * (isqrt n + 1) := by
  refine isqrtDigits_bounds n _ 0 (Nat.zero_le n) ?_
  rw [Nat.zero_add, ← pow_add]
  exact Nat.lt_log2_self.trans_le (Nat.pow_le_pow_right (by decide) (by omega))

/-- The two bounds fix the floor square root. -/
theorem isqrt_unique {n r : Nat} (hlow : r * r ≤ n) (hhigh : n < (r + 1) * (r + 1)) : isqrt n = r := by
  obtain ⟨blow, bhigh⟩ := isqrt_bounds n
  have hle : isqrt n < r + 1 := Nat.mul_self_lt_mul_self_iff.1 (blow.trans_lt hhigh)
  have hge : r < isqrt n + 1 := Nat.mul_self_lt_mul_self_iff.1 (hlow.trans_lt bhigh)
  omega

theorem roundedRoot_of_floor {q r : Nat} (hlow : r * r ≤ q) (hhigh : q < (r + 1) * (r + 1)) :
    roundedRoot q = if r < q - r * r then r + 1 else r := by
  rw [roundedRoot, isqrt_unique hlow hhigh]

theorem roundedRoot_sq (n : Nat) : roundedRoot (n ^ 2) = n := by
  rw [roundedRoot_of_floor (r := n) (by nlinarith) (by nlinarith), if_neg]
  rw [pow_two, Nat.sub_self]
  exact Nat.not_lt_zero n

/-- Where the rounded root lies: at the floor root, or one above it. -/
theorem roundedRoot_cases (q : Nat) :
    ∃ r, r * r ≤ q ∧ ((roundedRoot q = r ∧ q ≤ r * r + r)
      ∨ (roundedRoot q = r + 1 ∧ r * r + r < q ∧ q < (r + 1) * (r + 1))) := by
  obtain ⟨hlow, hhigh⟩ := isqrt_bounds q
  refine ⟨isqrt q, hlow, ?_⟩
  rw [roundedRoot]
  split
  · exact .inr ⟨rfl, by omega, hhigh⟩
  · exact .inl ⟨rfl, by omega⟩

/-- The rounded root is within a half of √q, so there is no tie. -/
theorem roundedRoot_nearest {q : Nat} (h : 0 < q) :
    (2 * roundedRoot q - 1) ^ 2 < 4 * q ∧ 4 * q < (2 * roundedRoot q + 1) ^ 2 := by
  obtain ⟨r, hlow, ⟨e, hnear⟩ | ⟨e, hfar, hhigh⟩⟩ := roundedRoot_cases q <;> rw [e]
  · obtain ⟨k, rfl⟩ : ∃ k, r = k + 1 := ⟨r - 1, by have := Nat.pos_of_ne_zero (n := r) (by rintro rfl; omega); omega⟩
    have hdown : 2 * (k + 1) - 1 = 2 * k + 1 := by omega
    rw [hdown]
    constructor <;> nlinarith
  · have hdown : 2 * (r + 1) - 1 = 2 * r + 1 := by omega
    rw [hdown]
    constructor <;> nlinarith

theorem le_roundedRoot {d q : Nat} (h : d * d ≤ q) : d ≤ roundedRoot q := by
  obtain ⟨hlow, hhigh⟩ := isqrt_bounds q
  have hfloor : d < isqrt q + 1 := Nat.mul_self_lt_mul_self_iff.1 (h.trans_lt hhigh)
  rw [roundedRoot]
  split <;> omega

theorem roundedRoot_le {m q : Nat} (h : q ≤ m * m) : roundedRoot q ≤ m := by
  obtain ⟨r, hlow, ⟨e, -⟩ | ⟨e, hfar, -⟩⟩ := roundedRoot_cases q <;> rw [e]
  · exact Nat.mul_self_le_mul_self_iff.1 (hlow.trans h)
  · exact Nat.mul_self_lt_mul_self_iff.1 (by omega)

/-- A moving axis has a displacement (R31). -/
theorem legSize_pos {s : State} {targets : PerAxis (Option Int)} {a : Axis}
    (h : ((legsOf s targets).get a).isSome = true) : 0 < legSize (legsOf s targets) a := by
  have hleg : (legsOf s targets).get a = legOf (s.axis a).commanded (targets.get a) := by cases a <;> rfl
  unfold legSize
  rw [hleg] at h ⊢
  cases ht : targets.get a with
  | none => simp [legOf, ht] at h
  | some x =>
    by_cases e : x = (s.axis a).commanded
    · simp [legOf, ht, e] at h
    · simp only [legOf, beq_iff_eq, if_neg e, Leg.d]
      omega

/-- A LINEAR move has a displacement (R49, R51). -/
theorem squareSum_pos {s : State} {targets : PerAxis (Option Int)}
    (h : pathKind (legsOf s targets) = .linear) : 0 < squareSum (legsOf s targets) := by
  have hmoves : ((legsOf s targets).get .x).isSome = true ∨ ((legsOf s targets).get .y).isSome = true
      ∨ ((legsOf s targets).get .z).isSome = true ∨ ((legsOf s targets).get .w).isSome = true := by
    unfold pathKind at h
    split at h
    · next hany => simpa [PerAxis.get, or_assoc] using hany
    · split at h <;> cases h
  unfold squareSum
  rcases hmoves with h | h | h | h <;> have := pow_pos (legSize_pos h) 2 <;> omega

/-- The length of a LINEAR move (R51). -/
theorem newContext_linear {s : State} {targets : PerAxis (Option Int)}
    (h : pathKind (legsOf s targets) = .linear) :
    (newContext s targets).length = roundedRoot (squareSum (legsOf s targets)) := by
  simp [newContext, pathLength, h]

/-- Settles O58: the length is the rounded root of the sum of squares, which is positive. -/
theorem pathLengthRounds : Obligations.PathLengthRounds := by
  unfold Obligations.PathLengthRounds
  rintro s targets _ dX dY dZ dW L Q rfl hL hQ hX hY hZ hW hmoves
  have hkind : pathKind (legsOf s targets) = .linear := by
    rw [pathKind, if_pos]
    simpa [newContext, or_assoc] using hmoves
  have hsum : squareSum (legsOf s targets) = Q := by
    rw [hQ, hX, hY, hZ, hW]
    rfl
  have hpos : 0 < Q := hsum ▸ squareSum_pos hkind
  obtain rfl : L = roundedRoot Q := by rw [hL, newContext_linear hkind, hsum]
  obtain ⟨hbelow, habove⟩ := roundedRoot_nearest hpos
  refine ⟨hkind, fun root => roundedRoot_of_floor, hbelow, habove, le_roundedRoot ?_, le_roundedRoot ?_,
    le_roundedRoot ?_, le_roundedRoot ?_, roundedRoot_le ?_, ?_, ?_, ?_, ?_, ?_⟩
  · rw [hQ]; nlinarith
  · rw [hQ]; nlinarith
  · rw [hQ]; nlinarith
  · rw [hQ]; nlinarith
  · generalize hm : max (max dX dY) (max dZ dW) = m
    have hle : dX ≤ m ∧ dY ≤ m ∧ dZ ≤ m ∧ dW ≤ m := by omega
    obtain ⟨h1, h2, h3, h4⟩ := hle
    rw [hQ]
    have := Nat.pow_le_pow_left h1 2
    have := Nat.pow_le_pow_left h2 2
    have := Nat.pow_le_pow_left h3 2
    have := Nat.pow_le_pow_left h4 2
    nlinarith
  · rintro rfl rfl rfl
    simpa [hQ] using roundedRoot_sq dX
  · rintro rfl rfl rfl
    simpa [hQ] using roundedRoot_sq dY
  · rintro rfl rfl rfl
    simpa [hQ] using roundedRoot_sq dZ
  · rintro rfl rfl rfl
    simpa [hQ] using roundedRoot_sq dW
  · rw [hL]
    rfl

/-- Settles O59: rounding by 3 meets no halfway case, and F × ovr is at most 3,000,000. -/
theorem perMinuteTarget : Obligations.PerMinuteTarget := by
  unfold Obligations.PerMinuteTarget
  rintro feed ovr sMeas vLim _ - hfeed hovr rfl
  have hmost : feed * ovr ≤ 20000 * 150 := Nat.mul_le_mul hfeed hovr
  obtain ⟨hlow, hhigh⟩ := roundUp_three (feed * ovr)
  simp only [runningTarget, uncappedVelocity]
  refine ⟨by omega, by omega, by omega, ?_, rfl⟩
  rintro rfl rfl
  rfl

end Sys2Proof.Machine

namespace Sys2Proof.Machine

/-! ## The strokes of some axes' clamps, whatever else is in progress (R88, R90, R95) -/

/-- Every stroke on the list moves the clamp of one of these axes. -/
def StrokesAmong (A : Axis → Prop) (s : State) : Prop := ∀ k ∈ strokesOf s, ∃ a, A a ∧ k.function = .clamp a

/-- What the clamps of these axes may do as they are asked, granted strokes and have them end. -/
structure ClampTurns (A : Axis → Prop) (s t : State) : Prop where
  form : t = { s with clamps := t.clamps, valve := t.valve }
  others : ∀ a, ¬A a → t.clamp a = s.clamp a
  strokes : StrokesAmong A t
  faults : Unfaulted s t

section
variable {A : Axis → Prop} {s t : State} {a c : Axis}

theorem ClampTurns.refl (h : StrokesAmong A s) : ClampTurns A s s := ⟨rfl, fun _ _ => rfl, h, fun _ => id⟩

theorem ClampTurns.trans {u : State} (h : ClampTurns A s t) (k : ClampTurns A t u) : ClampTurns A s u := by
  refine ⟨?_, fun a ha => (k.others a ha).trans (h.others a ha), k.strokes, h.faults.trans k.faults⟩
  rw [k.form, h.form]

theorem ClampTurns.axis (h : ClampTurns A s t) (a : Axis) : t.axis a = s.axis a := by
  rw [h.form]
  rfl

/-- The turn of one of the clamps. -/
theorem ClampTurns.of_turn (hc : A c) (h : ClampTurn c s t) (hs : StrokesAmong A s)
    (hform : t = { s with clamps := t.clamps, valve := t.valve }) : ClampTurns A s t := by
  have hturn := h
  obtain ⟨hclamp, hmem, -⟩ := hturn
  refine ⟨hform, fun a ha => hclamp a fun e => ha (e ▸ hc), fun k hk => ?_, h.unfaulted⟩
  by_cases hown : k.function = .clamp c
  · exact ⟨c, hc, hown⟩
  · exact hs k (hmem k hown hk)

theorem startLinger_form (a : Axis) (s : State) :
    startLinger a s = { s with clamps := (startLinger a s).clamps, valve := (startLinger a s).valve } := by
  unfold startLinger
  split
  · rfl
  · split <;> rfl

/-- The success of a release begins no motion of an axis that rests. -/
theorem releaseSucceeded_form (h : (s.axis a).motion = .idle) :
    releaseSucceeded a s =
      { s with clamps := (releaseSucceeded a s).clamps, valve := (releaseSucceeded a s).valve } := by
  have hstays : startMoving a (setClampState a .released s) = setClampState a .released s := startMoving_idle h
  unfold releaseSucceeded
  dsimp only
  rw [hstays]
  split
  · exact startLinger_form ..
  · rfl

theorem engageSucceeded_form (a : Axis) (s : State) :
    engageSucceeded a s =
      { s with clamps := (engageSucceeded a s).clamps, valve := (engageSucceeded a s).valve } := by
  unfold engageSucceeded
  split
  · split <;> rfl
  · rfl

/-- A stroke of one of the clamps, granted and ended. -/
theorem ClampTurns.stroke (hs : StrokesAmong A s) (hrest : ∀ a, A a → (s.axis a).motion = .idle) {k : Stroke}
    (hk : k ∈ strokesOf s) : ClampTurns A s (strokeGranted k s) ∧ ClampTurns A s (strokeEnds k true s) := by
  obtain ⟨c, hc, hown⟩ := hs k hk
  cases k with
  | release d =>
    cases hown
    have hremoved : ClampTurns A s (removeRequest (.clamp c) s) := .of_turn hc (.removeRequest ..) hs rfl
    exact ⟨.of_turn hc (.setClampState (by decide) s) hs rfl,
      hremoved.trans (.of_turn hc (.releaseSucceeded _) hremoved.strokes (releaseSucceeded_form (hrest c hc)))⟩
  | engage d =>
    cases hown
    have hremoved : ClampTurns A s (removeRequest (.clamp c) s) := .of_turn hc (.removeRequest ..) hs rfl
    exact ⟨.of_turn hc (.setClampState (by decide) s) hs rfl,
      hremoved.trans (.of_turn hc (.engageSucceeded _) hremoved.strokes (engageSucceeded_form c _))⟩
  | fork f =>
    cases f <;> cases hown

theorem ClampTurns.grantOpportunity (hs : StrokesAmong A s) (hrest : ∀ a, A a → (s.axis a).motion = .idle) :
    ClampTurns A s (grantOpportunity s) := by
  have hstill : ∀ t, ClampTurns A s t → ∀ a, A a → (t.axis a).motion = .idle := fun t ht a ha => by
    rw [ht.axis, hrest a ha]
  refine grantOpportunity_induct (P := ClampTurns A s) (.refl hs) (fun t l ht hl => ?_) (fun t k ht hk => ?_)
    fun t r ht hr _ => ?_
  · refine ht.trans ⟨rfl, fun _ _ => rfl, ?_, fun _ => id⟩
    unfold StrokesAmong strokesOf
    rw [hl]
    exact ht.strokes
  · exact ht.trans (ClampTurns.stroke ht.strokes (hstill t ht) hk).1
  · exact ht.trans (ClampTurns.stroke ht.strokes (hstill t ht) (List.mem_map_of_mem hr)).2

/-! ### The ask of an axis that rests, the others in whatever motion -/

theorem ClampTurns.askClamp (hc : A c) (hs : StrokesAmong A s) (h : (s.axis c).motion = .idle) :
    ClampTurns A s (askClamp c s) := by
  obtain ⟨hstroked, haxes⟩ := askClamp_stroked h
  refine .of_turn hc (.askClamp h) hs (hstroked.form.trans ?_)
  rw [haxes]

/-- The ask of an axis that rests has no motion to begin. -/
theorem askRelease_resting (h : (s.axis a).motion = .idle) :
    askRelease a s = if clampNeeded s a then withOpportunity (askClamp a) s else s := by
  have hasked : ((askClamp a s).axis a).motion = .idle := by
    obtain ⟨-, haxes⟩ := askClamp_stroked h
    rw [State.axis, haxes]
    exact h
  have hidle : ((if clampNeeded s a then withOpportunity (askClamp a) s else s).axis a).motion = .idle := by
    split
    · rcases withOpportunity_cases (askClamp a) s with ⟨-, e⟩ | ⟨-, e⟩ <;> rw [e]
      · exact hasked
      · rw [(grantOpportunity_keeps _).axis a (by simp [hasked, LocalMotion.waits]), hasked]
    · exact h
  unfold askRelease
  dsimp only
  rw [startMoving_idle hidle, ite_self]

theorem ClampTurns.askRelease (hc : A c) (hs : StrokesAmong A s) (hrest : ∀ a, A a → (s.axis a).motion = .idle) :
    ClampTurns A s (askRelease c s) := by
  have hasked : ClampTurns A s (Machine.askClamp c s) := .askClamp hc hs (hrest c hc)
  rw [askRelease_resting (hrest c hc)]
  split
  · rcases withOpportunity_cases (Machine.askClamp c) s with ⟨-, e⟩ | ⟨-, e⟩ <;> rw [e]
    · exact hasked
    · exact hasked.trans (.grantOpportunity hasked.strokes fun a ha => by rw [hasked.axis, hrest a ha])
  · exact .refl hs

/-- The clamp of a claimed axis: its linger timer is cancelled, except in LOOP (R97). -/
def lingerCut (a : Axis) (s : State) : Clamp :=
  { s.clamp a with linger := if (s.axis a).mode = .loop then (s.clamp a).linger else none }

theorem claimed_clamp (a : Axis) (s : State) : (claimed a s).clamp a = lingerCut a s := by
  unfold claimed cancelLinger lingerCut
  cases hmode : (s.axis a).mode <;> simp [hmode, setLinger]

theorem claimed_clamp_ne (h : c ≠ a) (s : State) : (claimed a s).clamp c = s.clamp c := by
  obtain ⟨⟨hothers, -⟩, -⟩ := claimed_turn a s
  exact hothers c h

theorem claimed_valve (a : Axis) (s : State) : (claimed a s).valve = s.valve := by rw [claimed_form]

theorem claimed_needed (a c : Axis) (s : State) : clampNeeded (claimed a s) c = clampNeeded s c := by
  refine clampNeeded_congr ?_ ?_ <;> rw [claimed_axis] <;> split <;> rfl

theorem claimed_motion (a c : Axis) (s : State) : ((claimed a s).axis c).motion = (s.axis c).motion := by
  rw [claimed_axis]
  split <;> rfl

/-- Nothing is asked of a clamp that is not needed, that is RELEASED or that is in FAULT (R94, R95). -/
theorem askRelease_claimed_stands (h : (s.axis a).motion = .idle)
    (hstands : clampNeeded s a = false ∨ (s.clamp a).state = .released ∨ (s.clamp a).state = .fault) :
    askRelease a (claimed a s) = claimed a s := by
  have hidle : ((claimed a s).axis a).motion = .idle := (claimed_motion ..).trans h
  rw [askRelease_resting hidle, claimed_needed]
  cases hneeded : clampNeeded s a with
  | false => rfl
  | true =>
    have hmode : (s.axis a).mode ≠ .loop := by
      simp only [clampNeeded, Bool.and_eq_true, bne_iff_ne] at hneeded
      exact hneeded.2
    have hlinger : ((claimed a s).clamp a).linger = none := by simp [claimed_clamp, lingerCut, hmode]
    have hstate : ((claimed a s).clamp a).state = (s.clamp a).state := by rw [claimed_clamp, lingerCut]
    have hself : askClamp a (claimed a s) = claimed a s := by
      rcases hstands.resolve_left (by simp [hneeded]) with h | h
      · simp [askClamp, hstate, h, setLinger_none_eq_self hlinger]
      · simp [askClamp, hstate, h, endClampWait_idle hidle]
    rw [if_pos rfl, withOpportunity_of_eq (by rw [hself]), hself]

end

end Sys2Proof.Machine

namespace Sys2Proof.Machine

/-! ## The claims of a MOVE whose axes rest, whatever the others do (R31, R95) -/

section
variable {s t : State} {legs : PerAxis (Option Leg)} {a c : Axis}

/-- A moving axis whose clamp is asked something: motion needs it, and it is neither RELEASED nor in FAULT (R95). -/
def AskedOf (legs : PerAxis (Option Leg)) (s : State) (a : Axis) : Prop :=
  (legs.get a).isSome = true ∧ clampNeeded s a = true ∧ (s.clamp a).state ≠ .released ∧ (s.clamp a).state ≠ .fault

theorem askedOf_or_stands (hl : (legs.get a).isSome = true) :
    AskedOf legs s a
      ∨ clampNeeded s a = false ∨ (s.clamp a).state = .released ∨ (s.clamp a).state = .fault := by
  by_cases h : clampNeeded s a = false ∨ (s.clamp a).state = .released ∨ (s.clamp a).state = .fault
  · exact .inr h
  · simp only [not_or, Bool.not_eq_false] at h
    exact .inl ⟨hl, h⟩

/-- What the claims made so far have changed of the state `s`. -/
structure Claiming (legs : PerAxis (Option Leg)) (s t : State) : Prop where
  form : t = { s with axes := t.axes, clamps := t.clamps, valve := t.valve }
  axis : ∀ a, ∃ k, t.axis a = { s.axis a with claim := k }
  strokes : StrokesAmong (AskedOf legs s) t
  stands : ∀ a, ¬AskedOf legs s a → (t.clamp a).state = (s.clamp a).state
  faults : Unfaulted s t

theorem Claiming.refl (h : s.valve.requests = []) : Claiming legs s s :=
  ⟨rfl, fun a => ⟨_, rfl⟩, fun k hk => (by rw [strokesOf, h] at hk; cases hk), fun _ _ => rfl, fun _ => id⟩

theorem Claiming.motion (h : Claiming legs s t) (a : Axis) : (t.axis a).motion = (s.axis a).motion := by
  obtain ⟨k, hk⟩ := h.axis a
  rw [hk]

theorem Claiming.mode (h : Claiming legs s t) (a : Axis) : (t.axis a).mode = (s.axis a).mode := by
  obtain ⟨k, hk⟩ := h.axis a
  rw [hk]

theorem Claiming.needed (h : Claiming legs s t) (a : Axis) : clampNeeded t a = clampNeeded s a := by
  obtain ⟨k, hk⟩ := h.axis a
  exact clampNeeded_congr (by rw [hk]) (by rw [hk])

/-- A clamp is in FAULT after the claims exactly where it was before. -/
theorem Claiming.fault_iff (h : Claiming legs s t) (a : Axis) :
    (t.clamp a).state = .fault ↔ (s.clamp a).state = .fault :=
  ⟨h.faults a, fun hf => (h.stands a fun ⟨_, _, _, hnot⟩ => hnot hf).trans hf⟩

theorem Claiming.claimed (h : Claiming legs s t) (c : Axis) : Claiming legs s (claimed c t) := by
  obtain ⟨hturn, hstate, -, hlist⟩ := claimed_turn c t
  refine ⟨?_, fun a => ?_, ?_, fun a ha => ?_, h.faults.trans hturn.unfaulted⟩
  · rw [claimed_form, h.form]
  · obtain ⟨k, hk⟩ := h.axis a
    rw [claimed_axis, hk]
    split
    · exact ⟨true, rfl⟩
    · exact ⟨k, rfl⟩
  · unfold StrokesAmong
    rw [hlist]
    exact h.strokes
  · rw [← h.stands a ha]
    by_cases e : a = c
    · rw [e, hstate]
    · rw [claimed_clamp_ne e]

theorem Claiming.turns {u : State} (h : Claiming legs s t) (k : ClampTurns (AskedOf legs s) t u) :
    Claiming legs s u := by
  refine ⟨?_, fun a => by rw [k.axis]; exact h.axis a, k.strokes, fun a ha => by rw [k.others a ha, h.stands a ha],
    h.faults.trans k.faults⟩
  rw [k.form, h.form]

variable (hrest : ∀ a, (legs.get a).isSome = true → (s.axis a).motion = .idle)
include hrest

/-- The claim of an axis of which nothing is asked. -/
theorem Claiming.claimAxis_stands (h : Claiming legs s t) (hc : ¬AskedOf legs s c) :
    claimAxis legs c t = if (legs.get c).isSome then Machine.claimed c t else t := by
  cases hl : (legs.get c).isSome with
  | false => simp [claimAxis_of_none hl]
  | true =>
    rw [claimAxis_of_leg hl]
    refine askRelease_claimed_stands ((h.motion c).trans (hrest c hl)) ?_
    rw [h.needed, h.stands c hc]
    exact (askedOf_or_stands hl).resolve_left hc

/-- The claim of an axis of whose clamp something is asked. -/
theorem Claiming.claimAxis_asks (h : Claiming legs s t) (hc : AskedOf legs s c) :
    claimAxis legs c t = askRelease c (Machine.claimed c t)
      ∧ ClampTurns (AskedOf legs s) (Machine.claimed c t) (claimAxis legs c t) := by
  have hasked := hc
  obtain ⟨hl, -⟩ := hasked
  rw [claimAxis_of_leg hl]
  exact ⟨rfl, .askRelease hc (h.claimed c).strokes fun a ⟨ha, _⟩ => ((h.claimed c).motion a).trans (hrest a ha)⟩

theorem Claiming.claimAxis (h : Claiming legs s t) (c : Axis) : Claiming legs s (claimAxis legs c t) := by
  by_cases hc : AskedOf legs s c
  · exact (h.claimed c).turns (h.claimAxis_asks hrest hc).2
  · rw [h.claimAxis_stands hrest hc]
    split
    · exact h.claimed c
    · exact h

theorem Claiming.claimAxis_axis (h : Claiming legs s t) (c a : Axis) :
    (Machine.claimAxis legs c t).axis a = if a = c then claimedUnit legs c (t.axis a) else t.axis a := by
  unfold claimedUnit
  by_cases hc : AskedOf legs s c
  · have hasked := hc
    obtain ⟨hl, -⟩ := hasked
    rw [(h.claimAxis_asks hrest hc).2.axis, claimed_axis, if_pos hl]
  · rw [h.claimAxis_stands hrest hc]
    cases hl : (legs.get c).isSome with
    | true => simp [claimed_axis]
    | false => simp

/-- The claim of another axis leaves a clamp of which nothing is asked. -/
theorem Claiming.claimAxis_clamp_ne (h : Claiming legs s t) (ha : ¬AskedOf legs s a) (hne : a ≠ c) :
    (Machine.claimAxis legs c t).clamp a = t.clamp a := by
  by_cases hc : AskedOf legs s c
  · rw [(h.claimAxis_asks hrest hc).2.others a ha, claimed_clamp_ne hne]
  · rw [h.claimAxis_stands hrest hc]
    split
    · exact claimed_clamp_ne hne t
    · rfl

/-! ### All the claims -/

theorem Claiming.claims (h : Claiming legs s t) : Claiming legs s (eachAxis (Machine.claimAxis legs) t) :=
  eachAxis_keeps (P := Claiming legs s) (fun a _ ht => ht.claimAxis hrest a) h

theorem Claiming.claims_axis (h : Claiming legs s t) (a : Axis) :
    (eachAxis (Machine.claimAxis legs) t).axis a = claimedUnit legs a (t.axis a) :=
  eachAxis_at (P := Claiming legs s) (view := fun a t => t.axis a) (out := fun a t => claimedUnit legs a (t.axis a))
    (fun a _ ht => ht.claimAxis hrest a) (fun _ _ _ ht hne => by rw [ht.claimAxis_axis hrest, if_neg hne])
    (fun _ _ _ ht hne => by rw [ht.claimAxis_axis hrest, if_neg hne])
    (fun _ _ ht => by rw [ht.claimAxis_axis hrest, if_pos rfl]) h a

/-- The clamp of an axis that does not move stays as it is. -/
theorem Claiming.claims_clamp_none (h : Claiming legs s t) (ha : (legs.get a).isSome = false) :
    (eachAxis (Machine.claimAxis legs) t).clamp a = t.clamp a := by
  have hnot : ¬AskedOf legs s a := fun ⟨hl, _⟩ => by rw [ha] at hl; cases hl
  have hboth := eachAxis_keeps (P := fun u => Claiming legs s u ∧ u.clamp a = t.clamp a)
    (fun c u ⟨hu, hclamp⟩ => ⟨hu.claimAxis hrest c, by
      by_cases e : a = c
      · rw [← e, claimAxis_of_none ha, hclamp]
      · rw [hu.claimAxis_clamp_ne hrest hnot e, hclamp]⟩) ⟨h, rfl⟩
  exact hboth.2

/-- Of a clamp that is asked nothing the linger timer ends, except in LOOP (R95, R97). -/
theorem Claiming.claims_clamp_stands (h : Claiming legs s s) (hl : (legs.get a).isSome = true)
    (ha : ¬AskedOf legs s a) : (eachAxis (Machine.claimAxis legs) s).clamp a = lingerCut a s := by
  have hown : ∀ u, Claiming legs s u → u.clamp a = s.clamp a ∨ u.clamp a = lingerCut a s →
      (Machine.claimAxis legs a u).clamp a = lingerCut a s := fun u hu hclamp => by
    rw [hu.claimAxis_stands hrest ha, if_pos hl, claimed_clamp, lingerCut, hu.mode]
    rcases hclamp with e | e <;> rw [e]
    · rfl
    · unfold lingerCut
      split <;> rfl
  have hboth := eachAxis_establishes (f := Machine.claimAxis legs) (a := a)
    (Pre := fun u => Claiming legs s u ∧ u.clamp a = s.clamp a)
    (Post := fun u => Claiming legs s u ∧ u.clamp a = lingerCut a s)
    (fun c u hne ⟨hu, hclamp⟩ =>
      ⟨hu.claimAxis hrest c, (hu.claimAxis_clamp_ne hrest ha hne.symm).trans hclamp⟩)
    (fun u ⟨hu, hclamp⟩ => ⟨hu.claimAxis hrest a, hown u hu (.inl hclamp)⟩)
    (fun c u ⟨hu, hclamp⟩ => ⟨hu.claimAxis hrest c, by
      by_cases e : a = c
      · exact e ▸ hown u hu (.inr hclamp)
      · exact (hu.claimAxis_clamp_ne hrest ha e).trans hclamp⟩) ⟨h, rfl⟩
  exact hboth.2

theorem Claiming.claimAxis_valve (h : Claiming legs s t) (hc : ¬AskedOf legs s c) :
    (Machine.claimAxis legs c t).valve = t.valve := by
  rw [h.claimAxis_stands hrest hc]
  split
  · exact claimed_valve c t
  · rfl

/-- Where nothing is asked, the request list stays as it is. -/
theorem Claiming.claims_valve (h : Claiming legs s t) (hnone : ∀ a, ¬AskedOf legs s a) :
    (eachAxis (Machine.claimAxis legs) t).valve = t.valve := by
  have hboth := eachAxis_keeps (P := fun u => Claiming legs s u ∧ u.valve = t.valve)
    (fun c u ⟨hu, hvalve⟩ =>
      ⟨hu.claimAxis hrest c, (hu.claimAxis_valve hrest (hnone c)).trans hvalve⟩) ⟨h, rfl⟩
  exact hboth.2

end

end Sys2Proof.Machine

namespace Sys2Proof.Machine

/-! ## The release of an ENGAGED clamp at a MOVE's claims (R88, R89, R95) -/

section
variable {s t : State} {legs : PerAxis (Option Leg)} {a c : Axis}

/-- No pressure, and no stroke under way. -/
def Dry (s : State) : Prop := s.valve.pressureOk = false ∧ ∀ r ∈ s.valve.requests, r.isActive = false

/-- A grant opportunity without pressure grants nothing, and nothing ends that was not granted (R88). -/
theorem grantOpportunity_dry (h : Dry s) : grantOpportunity s = s := by
  obtain ⟨hpressure, hwaiting⟩ := h
  have hwalk : grantWalk s = s := by simp [grantWalk, hpressure]
  have hnone : confirmedRequest s = none := by
    rw [confirmedRequest, List.find?_eq_none]
    intro r hr
    simp [hwaiting r hr]
  rw [grantOpportunity, hwalk, settleStrokes, hnone]

/-- What the ask does to the request list (the table of R95). -/
theorem askClamp_requests (h : (s.axis c).motion = .idle) :
    (askClamp c s).valve.pressureOk = s.valve.pressureOk
      ∧ (∀ r ∈ (askClamp c s).valve.requests, r ∈ s.valve.requests ∨ r.isActive = false)
      ∧ ∀ r ∈ s.valve.requests, r.stroke.function ≠ .clamp c → r ∈ (askClamp c s).valve.requests := by
  have hsame : ∀ t : State, t.valve = s.valve → t.valve.pressureOk = s.valve.pressureOk
      ∧ (∀ r ∈ t.valve.requests, r ∈ s.valve.requests ∨ r.isActive = false)
      ∧ ∀ r ∈ s.valve.requests, r.stroke.function ≠ .clamp c → r ∈ t.valve.requests := fun t ht => by
    rw [ht]
    exact ⟨rfl, fun _ hr => .inl hr, fun _ hr _ => hr⟩
  have hjoins : ∀ (k : Stroke) (t : State), t.valve = s.valve →
      (joinRequest k t).valve.pressureOk = s.valve.pressureOk
      ∧ (∀ r ∈ (joinRequest k t).valve.requests, r ∈ s.valve.requests ∨ r.isActive = false)
      ∧ ∀ r ∈ s.valve.requests, r.stroke.function ≠ .clamp c → r ∈ (joinRequest k t).valve.requests := fun k t ht => by
    have hlist : (joinRequest k t).valve.requests = s.valve.requests ++ [⟨k, 0, .waiting⟩] := by
      rw [joinRequest, ht]
    rw [hlist]
    refine ⟨by rw [joinRequest, ht], fun r hr => ?_, fun r hr _ => List.mem_append_left _ hr⟩
    rcases List.mem_append.1 hr with hr | hr
    · exact .inl hr
    · rw [List.mem_singleton.1 hr]
      exact .inr rfl
  unfold askClamp
  split
  · exact hjoins _ _ rfl
  · exact hsame _ rfl
  · exact hsame _ rfl
  · exact hsame _ rfl
  · split
    · refine ⟨rfl, fun r hr => .inl (List.mem_of_mem_filter hr), fun r hr hne => List.mem_filter.2 ⟨hr, ?_⟩⟩
      exact bne_iff_ne.2 hne
    · exact hsame _ rfl
  · exact hsame _ rfl
  · exact hjoins _ _ rfl
  · rw [endClampWait_idle h]
    exact hsame _ rfl

theorem Dry.askClamp (hs : Dry s) (h : (s.axis c).motion = .idle) : Dry (askClamp c s) := by
  obtain ⟨hpressure, hwaiting⟩ := hs
  obtain ⟨hsame, honly, -⟩ := askClamp_requests h
  exact ⟨hsame.trans hpressure, fun r hr => (honly r hr).elim (hwaiting r) id⟩

/-- Without pressure the ask is all that an ask for release comes to. -/
theorem Dry.askRelease (hs : Dry s) (h : (s.axis c).motion = .idle) :
    askRelease c s = if clampNeeded s c then Machine.askClamp c s else s := by
  rw [askRelease_resting h]
  split
  · rcases withOpportunity_cases (Machine.askClamp c) s with ⟨-, e⟩ | ⟨-, e⟩ <;> rw [e]
    exact grantOpportunity_dry (hs.askClamp h)
  · rfl

theorem Dry.claimed (hs : Dry s) (a : Axis) : Dry (claimed a s) := by
  unfold Dry
  rwa [claimed_valve]

/-- Without pressure a claim is the turn of its own clamp, and leaves the requests of the other functions. -/
theorem Dry.claimAxis (hs : Dry s) (h : (legs.get c).isSome = true → (s.axis c).motion = .idle) :
    Dry (claimAxis legs c s) ∧ ClampTurn c s (claimAxis legs c s)
      ∧ ∀ r ∈ s.valve.requests, r.stroke.function ≠ .clamp c → r ∈ (Machine.claimAxis legs c s).valve.requests := by
  cases hl : (legs.get c).isSome with
  | false =>
    rw [claimAxis_of_none hl]
    exact ⟨hs, .of_eq rfl rfl, fun _ hr _ => hr⟩
  | true =>
    have hclaimed : Dry (Machine.claimed c s) := hs.claimed c
    have hidle : ((Machine.claimed c s).axis c).motion = .idle := (claimed_motion ..).trans (h hl)
    obtain ⟨hturn, -⟩ := claimed_turn c s
    rw [claimAxis_of_leg hl, hclaimed.askRelease hidle]
    split
    · obtain ⟨-, -, hkept⟩ := askClamp_requests hidle
      rw [claimed_valve] at hkept
      exact ⟨hclaimed.askClamp hidle, hturn.trans (.askClamp hidle), hkept⟩
    · exact ⟨hclaimed, hturn, fun r hr _ => by rwa [claimed_valve]⟩

/-- The clamp waits for its release with the request on the list. -/
def AwaitsRelease (a : Axis) (s : State) : Prop :=
  (s.clamp a).state = .releaseWait ∧ ⟨.release a, 0, .waiting⟩ ∈ s.valve.requests

theorem awaitsRelease_askClamp (h : (s.clamp a).state = .engaged) : AwaitsRelease a (askClamp a s) := by
  have hasks : askClamp a s = joinRequest (.release a) (setClampState a .releaseWait s) := by simp [askClamp, h]
  rw [hasks]
  refine ⟨?_, List.mem_append_right _ (List.mem_singleton_self _)⟩
  simp [joinRequest, setClampState, State.clamp]

/-- A further claim of the axis asks nothing more (R95). -/
theorem AwaitsRelease.claimAxis_own (hs : AwaitsRelease a s) (hdry : Dry s)
    (h : (legs.get a).isSome = true → (s.axis a).motion = .idle) : AwaitsRelease a (claimAxis legs a s) := by
  obtain ⟨hstate, hmem⟩ := hs
  cases hl : (legs.get a).isSome with
  | false =>
    rw [claimAxis_of_none hl]
    exact ⟨hstate, hmem⟩
  | true =>
    have hclaimed : AwaitsRelease a (claimed a s) := by
      rw [AwaitsRelease, claimed_valve, claimed_clamp]
      exact ⟨hstate, hmem⟩
    have hself : askClamp a (claimed a s) = claimed a s := by simp [askClamp, hclaimed.1]
    rw [claimAxis_of_leg hl, (hdry.claimed a).askRelease ((claimed_motion ..).trans (h hl)), hself, ite_self]
    exact hclaimed

variable (hrest : ∀ a, (legs.get a).isSome = true → (s.axis a).motion = .idle)
include hrest

/-- Without pressure the release of an ENGAGED clamp is asked and waits (R88, R95). -/
theorem Claiming.claims_await (h : Claiming legs s s) (hdry : Dry s) (hl : (legs.get a).isSome = true)
    (hneeded : clampNeeded s a = true) (hstate : (s.clamp a).state = .engaged) :
    AwaitsRelease a (eachAxis (Machine.claimAxis legs) s) := by
  have hidle : ∀ {u}, Claiming legs s u → ∀ c, (legs.get c).isSome = true → (u.axis c).motion = .idle :=
    fun hu c hc => (hu.motion c).trans (hrest c hc)
  have hboth := eachAxis_establishes (f := Machine.claimAxis legs) (a := a)
    (Pre := fun u => Claiming legs s u ∧ Dry u ∧ (u.clamp a).state = .engaged)
    (Post := fun u => Claiming legs s u ∧ Dry u ∧ AwaitsRelease a u)
    (fun c u hne ⟨hu, hd, hengaged⟩ => by
      obtain ⟨hdry', ⟨hothers, -⟩, -⟩ := hd.claimAxis (c := c) (hidle hu c)
      exact ⟨hu.claimAxis hrest c, hdry', by rw [hothers a hne.symm, hengaged]⟩)
    (fun u ⟨hu, hd, hengaged⟩ => by
      obtain ⟨hdry', -⟩ := hd.claimAxis (c := a) (hidle hu a)
      refine ⟨hu.claimAxis hrest a, hdry', ?_⟩
      have hasks : ((Machine.claimed a u).clamp a).state = .engaged := by rw [claimed_clamp]; exact hengaged
      rw [claimAxis_of_leg hl, (hd.claimed a).askRelease ((claimed_motion ..).trans (hidle hu a hl)), claimed_needed,
        hu.needed, hneeded, if_pos rfl]
      exact awaitsRelease_askClamp hasks)
    (fun c u ⟨hu, hd, hawaits⟩ => by
      obtain ⟨hdry', ⟨hothers, -⟩, hkept⟩ := hd.claimAxis (c := c) (hidle hu c)
      refine ⟨hu.claimAxis hrest c, hdry', ?_⟩
      by_cases e : a = c
      · subst e
        exact hawaits.claimAxis_own hd (hidle hu a)
      · obtain ⟨hwaits, hmem⟩ := hawaits
        refine ⟨by rw [hothers a e, hwaits], hkept _ hmem fun hown => e (ValveFunction.clamp.inj hown)⟩)
    ⟨h, hdry, hstate⟩
  exact hboth.2.2

/-- With pressure and nothing else asked, the release of an ENGAGED clamp is granted at once and goes on while its
released switch is open (R89, R95, R96). -/
theorem Claiming.claims_release (h : Claiming legs s s) (hl : (legs.get a).isSome = true)
    (hneeded : clampNeeded s a = true) (hstate : (s.clamp a).state = .engaged) (hempty : s.valve.requests = [])
    (hpressure : s.valve.pressureOk = true) (hopen : (s.clamp a).switchClosed = false) (harmed : s.stop.estop = .armed)
    (hothers : ∀ c, c ≠ a → ¬AskedOf legs s c) :
    (eachAxis (Machine.claimAxis legs) s).clamp a = { s.clamp a with state := .releasing, linger := none }
      ∧ (eachAxis (Machine.claimAxis legs) s).valve =
          { s.valve with requests := [⟨.release a, 0, .active s.valve.clampLimit⟩] } := by
  have hmode : (s.axis a).mode ≠ .loop := by
    simp only [clampNeeded, Bool.and_eq_true, bne_iff_ne] at hneeded
    exact hneeded.2
  have hcut : ∀ u, Claiming legs s u → ((Machine.claimed a u).clamp a) = { u.clamp a with linger := none } :=
    fun u hu => by rw [claimed_clamp, lingerCut, hu.mode, if_neg hmode]
  have hother : ∀ u c, Claiming legs s u → c ≠ a → (Machine.claimAxis legs c u).clamp a = u.clamp a
      ∧ (Machine.claimAxis legs c u).valve = u.valve := fun u c hu hne => by
    refine ⟨?_, hu.claimAxis_valve hrest (hothers c hne)⟩
    rw [hu.claimAxis_stands hrest (hothers c hne)]
    split
    · exact claimed_clamp_ne hne.symm u
    · rfl
  have hboth := eachAxis_establishes (f := Machine.claimAxis legs) (a := a)
    (Pre := fun u => Claiming legs s u ∧ u.clamp a = s.clamp a ∧ u.valve = s.valve)
    (Post := fun u => Claiming legs s u ∧ u.clamp a = { s.clamp a with state := .releasing, linger := none }
      ∧ u.valve = { s.valve with requests := [⟨.release a, 0, .active s.valve.clampLimit⟩] })
    (fun c u hne ⟨hu, hclamp, hvalve⟩ => by
      obtain ⟨hc, hv⟩ := hother u c hu hne
      exact ⟨hu.claimAxis hrest c, hc.trans hclamp, hv.trans hvalve⟩)
    (fun u ⟨hu, hclamp, hvalve⟩ => by
      refine ⟨hu.claimAxis hrest a, ?_⟩
      have hstop : (Machine.claimed a u).stop = s.stop := by
        rw [claimed_form, hu.form]
      rw [claimAxis_of_leg hl, askRelease_engaged (by rw [claimed_needed, hu.needed, hneeded])
        (by rw [hcut u hu, hclamp, hstate]) (by rw [claimed_valve, hvalve, hempty])
        (by rw [claimed_valve, hvalve, hpressure]) (by rw [hstop, harmed]) (by rw [hcut u hu, hclamp, hopen]),
        hcut u hu, hclamp, claimed_valve, hvalve]
      exact ⟨PerAxis.get_set _ _ _, rfl⟩)
    (fun c u ⟨hu, hclamp, hvalve⟩ => by
      refine ⟨hu.claimAxis hrest c, ?_⟩
      by_cases e : c = a
      · subst e
        have hidle : ((Machine.claimed c u).axis c).motion = .idle :=
          (claimed_motion ..).trans ((hu.motion c).trans (hrest c hl))
        have hself : askClamp c (Machine.claimed c u) = Machine.claimed c u := by simp [askClamp, hcut u hu, hclamp]
        rw [claimAxis_of_leg hl, askRelease_resting hidle, withOpportunity_of_eq (by rw [hself]), hself, ite_self,
          hcut u hu, hclamp, claimed_valve, hvalve]
        exact ⟨rfl, rfl⟩
      · obtain ⟨hc, hv⟩ := hother u c hu e
        exact ⟨hc.trans hclamp, hv.trans hvalve⟩) ⟨h, rfl, rfl⟩
  exact hboth.2

end

end Sys2Proof.Machine

namespace Sys2Proof.Machine

/-! ## A Start that passes its checks (R28, R29, R30) -/

section
variable {s t u : State}

/-- The end of an event over a state whose site is settled: the hydraulic wait is judged, and the rest is the Link
Unit's (R92, R201). -/
theorem finish_of_siteSettled (s : State) (h : SiteSettled u) :
    finish s u = { u with valve := (hydraulicCheck u).valve, link := (finish s u).link }
      ∧ Owes u (finish s u) [] [] := by
  have hform : hydraulicCheck u = { u with valve := (hydraulicCheck u).valve } := by
    unfold hydraulicCheck
    (repeat' split) <;> rfl
  have hsettled : Settled (hydraulicCheck u) :=
    ⟨h.of_eq (by rw [hform]) (by rw [hform]), hydraulicCheck_settled u⟩
  have hsame : finish s u = finish s (hydraulicCheck u) := by
    unfold finish
    rw [siteReturn_eq_self h, siteReturn_eq_self hsettled.1, hydraulicCheck_eq_self hsettled.2]
  obtain ⟨hfinish, howes⟩ := finish_of_settled s hsettled
  rw [hsame]
  refine ⟨hfinish.trans ?_, howes.of_link_eq (by rw [hform])⟩
  rw [hform]

theorem hydraulicCheck_requests (s : State) : (hydraulicCheck s).valve.requests = s.valve.requests := by
  unfold hydraulicCheck
  (repeat' split) <;> rfl

theorem hydraulicCheck_valve_congr (h : t.valve = s.valve) :
    (hydraulicCheck t).valve = (hydraulicCheck s).valve := by
  unfold hydraulicCheck
  rw [h]
  split
  · split
    · rfl
    · exact h
  · rfl

/-- The checks of R28 that a Start passes, by the planner state. -/
theorem startOrder_accepts (harmed : s.stop.estop = .armed) (hsite : s.pendant.site = .host)
    (hstate : s.planner.state = .running ∨ (s.planner.state = .idle ∧ anyReference s = false)
      ∨ (s.planner.state = .held ∧ s.planner.causes.hasCondition = false ∧ s.planner.displaced = false)) :
    startOrder [] s = .accept (startProgram s) (.planner (startProgram s).planner.state) := by
  refine judge_accept ?_
  rcases hstate with h | ⟨h, href⟩ | ⟨h, hfree, hplaced⟩
  · simp [startRefusals, harmed, hsite, h]
  · simp [startRefusals, harmed, hsite, h, href]
  · simp [startRefusals, harmed, hsite, h, hfree, hplaced]

/-- A Start that is accepted answers the state it makes, with the hydraulic wait judged and its ACCEPT owed. -/
theorem start_next {tag : Tag} (hroom : ReplyRoom s)
    (haccept : startOrder [] s = .accept (startProgram s) (.planner (startProgram s).planner.state))
    (hu : startProgram s = u) (hsite : SiteSettled u) (hlink : u.link = s.link) :
    ∃ t, exec (.start tag []) s = .next t
      ∧ t = { u with valve := (hydraulicCheck u).valve, link := t.link }
      ∧ Owes s t [.accept tag (.planner u.planner.state)] [] := by
  rw [hu] at haccept
  have hplaced := takeOrder_accept (kind := 0x10) (tag := tag) hroom haccept
  obtain ⟨hform, howes⟩ := finish_of_siteSettled s (u := placeReply (.accept tag (.planner u.planner.state)) u)
    (hsite.of_eq rfl rfl)
  have hvalve : (hydraulicCheck (placeReply (.accept tag (.planner u.planner.state)) u)).valve
      = (hydraulicCheck u).valve := hydraulicCheck_valve_congr rfl
  rw [hvalve] at hform
  refine ⟨_, ?_, hform, ((placeReply_owes _ u).trans howes).of_link_eq hlink⟩
  rw [← hplaced]
  rfl

/-- The same where the hydraulic wait stands as it is. -/
theorem start_next_settled {tag : Tag} (hroom : ReplyRoom s)
    (haccept : startOrder [] s = .accept (startProgram s) (.planner (startProgram s).planner.state))
    (hu : startProgram s = u) (hsettled : Settled u) (hlink : u.link = s.link) :
    ∃ t, exec (.start tag []) s = .next t ∧ t = { u with link := t.link }
      ∧ Owes s t [.accept tag (.planner u.planner.state)] [] := by
  obtain ⟨t, ht, hform, howes⟩ := start_next (tag := tag) hroom haccept hu hsettled.1 hlink
  refine ⟨t, ht, hform.trans ?_, howes⟩
  rw [hydraulicCheck_eq_self hsettled.2]

/-! ### stopped-by-operator is cleared (R29, R30, R118) -/

theorem clearOperatorStop_form (s : State) :
    clearOperatorStop s = { s with spindle := (clearOperatorStop s).spindle } := by
  unfold clearOperatorStop
  split <;> rfl

theorem clearOperatorStop_cleared (s : State) : StopCleared s (clearOperatorStop s) := by
  cases h : s.spindle.stoppedByOperator with
  | true =>
    have hform : clearOperatorStop s =
        formSpeed { s with spindle := { s.spindle with stoppedByOperator := false } } := by
      simp [clearOperatorStop, h]
    rw [hform]
    exact ⟨by simp, by simp, fun hno => Bool.noConfusion (h.symm.trans hno), fun _ => formSpeed_sCmd _⟩
  | false =>
    have hself : clearOperatorStop s = s := by simp [clearOperatorStop, h]
    rw [hself]
    exact ⟨h, rfl, fun _ => rfl, fun hyes => Bool.noConfusion (h.symm.trans hyes)⟩

/-- Of the later state the clearing reads what R106 reads. -/
theorem StopCleared.of_eq (h : StopCleared s t) (hspindle : u.spindle = t.spindle) (hgear : u.gear = t.gear)
    (hstop : u.stop = t.stop) (hcoolant : u.coolant = t.coolant) (hpendant : u.pendant = t.pendant) :
    StopCleared s u := by
  obtain ⟨hoff, hprog, hkept, hformed⟩ := h
  refine ⟨by rw [hspindle, hoff], by rw [hspindle, hprog], fun hno => hspindle.trans (hkept hno), fun hyes => ?_⟩
  rw [commandedSpeed_of_estop hspindle hgear (by rw [hstop]) hcoolant hpendant, hspindle, hformed hyes]

/-! ### Start in HELD (R30) -/

/-- The planner of a program that runs again with its operator causes dropped (R30). -/
def resumedPlanner (s : State) : Planner :=
  { s.planner with
    state := .running, speedWait := false, retake := false
    causes := { s.planner.causes with operator := false, host := false } }

/-- A HELD program with its operator causes dropped and stopped-by-operator cleared (R30). -/
def resumed (s : State) : State := clearOperatorStop (dropOperatorCauses s)

theorem resumed_form (s : State) :
    resumed s = { s with planner := resumedPlanner s, spindle := (resumed s).spindle } :=
  clearOperatorStop_form _

theorem resumed_cleared (s : State) : StopCleared s (resumed s) := clearOperatorStop_cleared (dropOperatorCauses s)

/-- A Start takes the head's start actions again (R30, R67). -/
def Retaken (s : State) : Prop :=
  s.planner.head = some .starting
    ∨ (s.planner.head = some .active
      ∧ (s.planner.retake = true ∨ (s.spindle.stoppedByOperator = true ∧ s.spindle.sProg ≠ 0)))

/-- AT_SPEED becomes a start condition of the head (R30). -/
def speedAwaited (s : State) : Bool := s.spindle.stoppedByOperator && s.spindle.sProg != 0

theorem speedAwaited_iff (s : State) :
    speedAwaited s = true ↔ s.spindle.stoppedByOperator = true ∧ s.spindle.sProg ≠ 0 := by simp [speedAwaited]

theorem takesStartAgain_iff (s : State) :
    takesStartAgain s = true ↔
      s.planner.head = some .starting ∨ (s.planner.head = some .active ∧ s.planner.retake = true) := by
  simp [takesStartAgain]

theorem resumeProgram_eq (s : State) :
    resumeProgram s =
      (if speedAwaited s then awaitSpeed else id) ((if takesStartAgain s then beginHead else id) (resumed s)) := rfl

/-- A head that is not set back stays as it is (R30). -/
theorem resumeProgram_stays (h : ¬Retaken s) : resumeProgram s = resumed s := by
  have hagain : takesStartAgain s = false := by
    rw [Bool.eq_false_iff, Ne, takesStartAgain_iff]
    exact fun hk => h (hk.imp_right fun ⟨hactive, hretake⟩ => ⟨hactive, .inl hretake⟩)
  have hhead : (resumed s).planner.head = s.planner.head := by rw [resumed_form]; rfl
  rw [resumeProgram_eq, hagain]
  cases hspeed : speedAwaited s with
  | false => rfl
  | true =>
    have hidle : headInProgress (resumed s) = false := by
      rw [Bool.eq_false_iff]
      simp only [headInProgress, hhead, Ne, Bool.or_eq_true, beq_iff_eq]
      exact fun hk => h (hk.imp_right fun hactive => ⟨hactive, .inr ((speedAwaited_iff s).1 hspeed)⟩)
    simp [awaitSpeed, hidle]

/-- A head that is set back begins again, and waits for AT_SPEED after an operator's stop (R30, R67). -/
theorem resumeProgram_retakes (h : Retaken s) (hu : beginHead (resumed s) = u)
    (hhead : u.planner.head = some .starting) (hwait : u.planner.speedWait = false) :
    resumeProgram s = { u with planner := { u.planner with speedWait := speedAwaited s } } := by
  have hactive : (resumed s).planner.head = s.planner.head := by rw [resumed_form]; rfl
  rw [resumeProgram_eq]
  cases hagain : takesStartAgain s with
  | true =>
    cases hspeed : speedAwaited s with
    | true => simp [awaitSpeed, headInProgress, hu, hhead]
    | false =>
      rw [if_neg Bool.false_ne_true, if_pos rfl, hu, ← hwait]
      rfl
  | false =>
    have hset : s.planner.head = some .active ∧ speedAwaited s = true := by
      have hnot := mt (takesStartAgain_iff s).2 (by simp [hagain])
      rcases h with hstarting | ⟨hactive, hretake | hspeed⟩
      · exact absurd (.inl hstarting) hnot
      · exact absurd (.inr ⟨hactive, hretake⟩) hnot
      · exact ⟨hactive, (speedAwaited_iff s).2 hspeed⟩
    obtain ⟨hbefore, hspeed⟩ := hset
    simp [awaitSpeed, headInProgress, hactive, hbefore, hspeed, hu]

end

end Sys2Proof.Machine

namespace Sys2Proof.Machine

/-! ## The start actions that a Start takes again (R30, R33, R34, R40) -/

section
variable {s t w : State} {e : Entry} {rest : List Entry} {tag : Tag}

/-- A Start in HELD that passes its checks (R28). -/
structure StartsHeld (s : State) : Prop where
  settled : Settled s
  room : ReplyRoom s
  armed : s.stop.estop = .armed
  site : s.pendant.site = .host
  held : s.planner.state = .held
  free : s.planner.causes.hasCondition = false
  placed : s.planner.displaced = false

theorem StartsHeld.accepts (h : StartsHeld s) :
    startOrder [] s = .accept (startProgram s) (.planner (startProgram s).planner.state) :=
  startOrder_accepts h.armed h.site (.inr (.inr ⟨h.held, h.free, h.placed⟩))

theorem startProgram_held (h : s.planner.state = .held) : startProgram s = resumeProgram s := by
  simp [startProgram, h]

/-- A Start that leaves the head as it is (R30). -/
theorem StartsHeld.stays (h : StartsHeld s) (hback : ¬Retaken s) :
    ∃ t, exec (.start tag []) s = .next t
      ∧ t = { s with planner := resumedPlanner s, spindle := (resumed s).spindle, link := t.link }
      ∧ Owes s t [.accept tag (.planner .running)] [] := by
  have hform := resumed_form s
  obtain ⟨t, ht, htform, howes⟩ := start_next_settled (tag := tag) (u := resumed s) h.room h.accepts
    ((startProgram_held h.held).trans (resumeProgram_stays hback))
    (h.settled.of_eq (by rw [hform]) (by rw [hform]) (by rw [hform])) (by rw [hform])
  rw [hform] at htform howes
  exact ⟨t, ht, htform, howes⟩

/-- The planner whose head begins again. -/
def retakenPlanner (s : State) : Planner := { resumedPlanner s with head := some .starting }

theorem started_resumed_form (s : State) :
    started (resumed s) = { s with planner := retakenPlanner s, spindle := (resumed s).spindle } := by
  have hform := resumed_form s
  rw [started, hform]
  rfl

theorem beginHead_resumed (s : State) : beginHead (resumed s) = startChecks (startActions (started (resumed s))) := rfl

/-- Of the hold causes a Start that passes its checks finds none but those it drops (R28, R30). -/
theorem StartsHeld.causes (h : StartsHeld s) : (retakenPlanner s).causes = .empty := by
  have hfree := h.free
  simp only [CauseSet.hasCondition, Bool.or_eq_false_iff] at hfree
  obtain ⟨⟨⟨⟨h1, h2⟩, h3⟩, h4⟩, h5⟩ := hfree
  simp [retakenPlanner, resumedPlanner, CauseSet.empty, h1, h2, h3, h4, h5]

/-- What a Start answers once the start actions and checks of a head that is no MOVE are known. -/
theorem StartsHeld.retakes (h : StartsHeld s) (hback : Retaken s) {wait : Bool} {found : CauseSet}
    (hw : beginHead (resumed s) =
      { w with planner := checkedPlanner s { retakenPlanner s with coolantWait := wait } found })
    (hform : w = { s with planner := w.planner, spindle := w.spindle, coolant := w.coolant }) :
    ∃ t, exec (.start tag []) s = .next t
      ∧ t = { s with
          planner := checkedPlanner s { retakenPlanner s with speedWait := speedAwaited s, coolantWait := wait } found
          spindle := w.spindle, coolant := w.coolant, link := t.link }
      ∧ Owes s t [.accept tag (.planner t.planner.state)] [] := by
  have hu := (startProgram_held h.held).trans (resumeProgram_retakes hback hw rfl rfl)
  obtain ⟨t, ht, htform, howes⟩ := start_next_settled (tag := tag) h.room h.accepts hu
    (h.settled.of_eq (by rw [hform]) (by rw [hform]) (by rw [hform])) (by rw [hform])
  rw [hform] at htform
  have hstate : t.planner.state =
      (checkedPlanner s { retakenPlanner s with coolantWait := wait } found).state := by
    rw [htform]
  exact ⟨t, ht, htform, by rwa [hstate]⟩

theorem checkedPlanner_of_stop (h : t.stop = s.stop) (p : Planner) (found : CauseSet) :
    checkedPlanner t p found = checkedPlanner s p found := by
  simp only [checkedPlanner, hasTied_of_stop_eq h]

/-- An entry that is no MOVE is held by TSC alone (R40). -/
theorem startCauses_nonMove {b : EntryBody} (hb : b.isMove = false) (s : State) (c : Option MoveContext) (wait : Bool) :
    startCauses s b c wait =
      { CauseSet.empty with
        coolant := wait && (s.coolant.tsc == .faulted || s.coolant.tsc == .blocked) } := by
  have hrev : b.isPerRev = false := by cases b <;> simp_all [EntryBody.isMove, EntryBody.isPerRev]
  simp [startCauses, hb, hrev, CauseSet.empty]

/-- The checks over a head whose start actions have raised nothing. -/
theorem StartsHeld.checks (h : StartsHeld s) (hq : s.planner.queue = e :: rest) (he : e.body.isMove = false)
    {wait : Bool} (hplanner : w.planner = { retakenPlanner s with coolantWait := wait }) (hstop : w.stop = s.stop) :
    startChecks w =
      { w with
        planner :=
          checkedPlanner s { retakenPlanner s with coolantWait := wait } (startCauses w e.body none wait) } := by
  rw [startChecks_checked (e := e) (rest := rest) (by rw [hplanner]; exact hq) (by rw [hplanner]; rfl)
    (by rw [hplanner]; rfl) (by rw [hplanner]; exact h.causes), checkedPlanner_of_stop hstop, hplanner,
    startCauses_nonMove he, startCauses_nonMove he]

/-! ### Entries without start actions, and SPINDLE -/

theorem startActions_quiet (hq : s.planner.queue = e :: rest)
    (h : e.body.kind = .dwell ∨ e.body.kind = .mark ∨ e.body.kind = .endProgram) : startActions s = s := by
  unfold startActions
  rw [hq]
  cases hb : e.body <;> simp_all [EntryBody.kind]

theorem isMove_eq_false {b : EntryBody} (h : b.kind ≠ .move) : b.isMove = false := by
  cases b <;> simp_all [EntryBody.kind, EntryBody.isMove]

/-- A DWELL, MARK or END that begins again (R35, R36). -/
theorem StartsHeld.quiet (h : StartsHeld s) (hback : Retaken s) (hq : s.planner.queue = e :: rest)
    (hkind : e.body.kind = .dwell ∨ e.body.kind = .mark ∨ e.body.kind = .endProgram) :
    ∃ t, exec (.start tag []) s = .next t
      ∧ t = { s with
          planner := checkedPlanner s { retakenPlanner s with speedWait := speedAwaited s }
            (startCauses s e.body none s.planner.coolantWait)
          spindle := (resumed s).spindle, link := t.link }
      ∧ Owes s t [.accept tag (.planner t.planner.state)] [] := by
  have hmove : e.body.isMove = false := isMove_eq_false (by rcases hkind with k | k | k <;> simp [k])
  have hform := started_resumed_form s
  have hbegin : beginHead (resumed s) = _ := (beginHead_resumed s).trans
    ((congrArg startChecks (startActions_quiet (by rw [hform]; exact hq) hkind)).trans
      (h.checks (wait := s.planner.coolantWait) hq hmove (by rw [hform]; rfl) (by rw [hform])))
  obtain ⟨t, ht, htform, howes⟩ := h.retakes (tag := tag) hback hbegin (by rw [hform])
  refine ⟨t, ht, htform.trans ?_, howes⟩
  rw [startCauses_nonMove hmove, startCauses_nonMove hmove, hform]
  rfl

theorem startActions_spindle {speed : Nat} {d : Rotation} {forced : Option GearRange} {wait : Bool}
    (hq : s.planner.queue = e :: rest) (he : e.body = .spindle speed d forced wait) :
    startActions s = spindleCommand (.entry e.tag) speed d forced s := by
  simp [startActions, hq, he]

/-- A SPINDLE whose command a spindle fault refuses (R33, R107). -/
theorem StartsHeld.spindle_refused (h : StartsHeld s) (hback : Retaken s) (hq : s.planner.queue = e :: rest)
    {speed : Nat} {d : Rotation} {forced : Option GearRange} {wait : Bool} (he : e.body = .spindle speed d forced wait)
    (hspeed : speed ≠ 0) (hfault : hasSpindleFault s = true) :
    ∃ t, exec (.start tag []) s = .next t
      ∧ t = { s with
          planner := checkedPlanner s { retakenPlanner s with speedWait := speedAwaited s }
            { startCauses s e.body none s.planner.coolantWait with spindle := true }
          spindle := (resumed s).spindle, link := t.link }
      ∧ Owes s t [.accept tag (.planner .held)] [] := by
  have hmove : e.body.isMove = false := by simp [he, EntryBody.isMove]
  have hform := started_resumed_form s
  obtain ⟨z, hz⟩ : ∃ z, z = started (resumed s) := ⟨_, rfl⟩
  rw [← hz] at hform
  have hplanner : z.planner = retakenPlanner s := by rw [hform]
  have hqueue : (raiseCause .spindle z).planner.queue = e :: rest := by
    rw [(raiseCause_program ..).1, hplanner]
    exact hq
  have hrefused : startActions z = raiseCause .spindle z := by
    have hstill : hasSpindleFault z = true := by rw [hform]; exact hfault
    rw [startActions_spindle (by rw [hplanner]; exact hq) he, spindleCommand]
    simp [hstill, hspeed]
  have hraised : CheckedTo z { CauseSet.empty with spindle := true } (raiseCause .spindle z) :=
    (checkedTo_empty (by rw [hplanner]; exact h.causes)).raiseIf (x := .spindle) (by rw [hplanner]; rfl)
      (by rw [hplanner]; rfl) rfl (by decide) rfl true
  have hbegin : beginHead (resumed s) =
      { z with
        planner := checkedPlanner s { retakenPlanner s with coolantWait := s.planner.coolantWait }
          { startCauses s e.body none s.planner.coolantWait with spindle := true } } := by
    have hchecked := hraised.raiseIf (x := .coolant) (by rw [hplanner]; rfl) (by rw [hplanner]; rfl) rfl (by decide) rfl
      ((raiseCause .spindle z).planner.coolantWait
        && ((raiseCause .spindle z).coolant.tsc == .faulted || (raiseCause .spindle z).coolant.tsc == .blocked))
    have hwait : (raiseCause .spindle z).planner.coolantWait = s.planner.coolantWait := by
      rw [hraised, hplanner]
      rfl
    have hcoolant : (raiseCause .spindle z).coolant = s.coolant := by rw [hraised, hform]
    rw [beginHead_resumed, ← hz, hrefused, startChecks_nonMove hqueue hmove, hchecked, hwait, hcoolant, hplanner,
      checkedPlanner_of_stop (s := s) (by rw [hform]), startCauses_nonMove hmove]
    rfl
  obtain ⟨t, ht, htform, howes⟩ := h.retakes (tag := tag) hback hbegin (by rw [hform])
  have hheld : t.planner.state = .held := by
    rw [htform]
    simp [checkedPlanner, CauseSet.hasCondition]
  rw [hheld] at howes
  refine ⟨t, ht, htform.trans ?_, howes⟩
  rw [hform]
  rfl

/-- A SPINDLE whose command has no range change to begin (R33, R106, R107). -/
theorem StartsHeld.spindle (h : StartsHeld s) (hback : Retaken s) (hq : s.planner.queue = e :: rest)
    {speed : Nat} {d : Rotation} {wait : Bool} (he : e.body = .spindle speed d none wait)
    (hfault : speed = 0 ∨ hasSpindleFault s = false) (hstep : s.gear.step = .idle)
    (hrow : speed = 0 ∨ ∃ row, currentRow s = some row ∧ row.min ≤ speed ∧ speed ≤ row.max) :
    ∃ t, exec (.start tag []) s = .next t
      ∧ t = { s with
          planner := checkedPlanner s { retakenPlanner s with speedWait := speedAwaited s }
            (startCauses s e.body none s.planner.coolantWait)
          spindle := t.spindle, link := t.link }
      ∧ Owes s t [.accept tag (.planner t.planner.state)] []
      ∧ t.spindle.sProg = speed ∧ t.spindle.commandedDir = d ∧ t.spindle.stoppedByOperator = false
      ∧ CommandFormed t := by
  have hmove : e.body.isMove = false := by simp [he, EntryBody.isMove]
  have hform := started_resumed_form s
  obtain ⟨z, hz⟩ : ∃ z, z = started (resumed s) := ⟨_, rfl⟩
  rw [← hz] at hform
  obtain ⟨w, hw⟩ : ∃ w, w = formSpeed (handed speed d z) := ⟨_, rfl⟩
  have hwform : w = { s with planner := retakenPlanner s, spindle := w.spindle } := by
    rw [hw, formSpeed, handed, hform]
  have hactions : startActions z = w := by
    have hgear : z.gear = s.gear := by rw [hform]
    have hnofault : speed = 0 ∨ hasSpindleFault z = false := hfault.imp_right fun k => by rw [hform]; exact k
    have hkeeps : speed = 0 ∨ ∃ row, currentRow z = some row ∧ row.min ≤ speed ∧ speed ≤ row.max := by
      rwa [currentRow_congr hgear]
    rw [hw, startActions_spindle (by rw [hform]; exact hq) he,
      spindleCommand_quiet (by rw [hgear, hstep]) hnofault hkeeps]
  have hbegin : beginHead (resumed s) = _ := (beginHead_resumed s).trans
    ((congrArg startChecks ((congrArg startActions hz.symm).trans hactions)).trans
      (h.checks (wait := s.planner.coolantWait) hq hmove (by rw [hwform]; rfl) (by rw [hwform])))
  obtain ⟨t, ht, htform, howes⟩ := h.retakes (tag := tag) hback hbegin (by rw [hwform])
  have hcoolant : w.coolant = s.coolant := by rw [hwform]
  rw [startCauses_nonMove hmove, hcoolant, ← startCauses_nonMove hmove s none] at htform
  have hspindle : t.spindle = w.spindle := by rw [htform]
  have hformed : CommandFormed w := hw ▸ commandFormed_formSpeed _
  refine ⟨t, ht, htform.trans (by rw [hspindle]; rfl), howes, ?_, ?_, ?_, ?_⟩
  · rw [hspindle, hw]
    simp [handed]
  · rw [hspindle, hw]
    simp [formSpeed_commandedDir, handed]
  · rw [hspindle, hw]
    simp [handed]
  · refine hformed.of_eq hspindle ?_ ?_ ?_ ?_ <;> rw [htform, hwform]
    rfl

end

end Sys2Proof.Machine

namespace Sys2Proof.Machine

/-! ### COOLANT (R34, R145, R153) -/

section
variable {s t z w : State} {e : Entry} {rest : List Entry} {tag : Tag}

@[simp] theorem leaveTsc_stoppedByOperator (new : TscState) (s : State) :
    (leaveTsc new s).spindle.stoppedByOperator = s.spindle.stoppedByOperator := by simp [leaveTsc]

@[simp] theorem stopTsc_stoppedByOperator (new : TscState) (s : State) :
    (stopTsc new s).spindle.stoppedByOperator = s.spindle.stoppedByOperator := by
  unfold stopTsc
  split <;> simp

@[simp] theorem placeTsc_stoppedByOperator (s : State) :
    (placeTsc s).spindle.stoppedByOperator = s.spindle.stoppedByOperator := by
  unfold placeTsc startJudgement enterBuilding
  (repeat' split) <;> simp

@[simp] theorem coolantRequest_stoppedByOperator (m : CoolantMode) (s : State) :
    (coolantRequest m s).spindle.stoppedByOperator = s.spindle.stoppedByOperator := by
  unfold coolantRequest setRequests moveTsc startPurge
  (repeat' split) <;> simp

/-- A cause's effect on the planner depends on the planner and the fault list. -/
theorem raiseCause_planner_congr (hplanner : t.planner = s.planner) (hstop : t.stop = s.stop) (c : HoldCause) :
    (raiseCause c t).planner = (raiseCause c s).planner := by
  unfold raiseCause
  rw [hplanner, hasTied_of_stop_eq hstop]
  split <;> simp [hplanner]

/-- A cause that holds the program already is heard once (R39). -/
theorem raiseCause_again {c : HoldCause} (hheld : s.planner.state = .held) (hc : s.planner.causes.has c = true) :
    raiseCause c s = s := by
  have hput : s.planner.causes.put c true = s.planner.causes := by
    cases hs : s.planner.causes
    cases c <;> simp_all [CauseSet.has, CauseSet.put]
  simp only [raiseCause, hheld, hput, hc, Bool.not_true, Bool.and_false, Bool.false_and, Bool.false_eq_true, if_false]
  rw [← hheld]

/-- The planner hears nothing of TSC, or that it was put in FAULTED or BLOCKED with the coolant wait armed (R153). -/
def CoolantHeard (s t : State) : Prop :=
  t.planner = s.planner
    ∨ (s.planner.coolantWait = true ∧ (t.coolant.tsc = .faulted ∨ t.coolant.tsc = .blocked)
      ∧ t.planner = (raiseCause .coolant s).planner)

/-- What the Coolant Unit records is nothing to the planner. -/
theorem CoolantHeard.of_coolant {c : Coolant} (h : CoolantHeard { s with coolant := c } t) : CoolantHeard s t :=
  h.imp_right fun ⟨hwait, htsc, hplanner⟩ => ⟨hwait, htsc,
    hplanner.trans (raiseCause_planner_congr (s := s) (t := { s with coolant := c }) rfl rfl _)⟩

theorem stopTsc_heard {new : TscState} (h : new = .faulted ∨ new = .blocked) (s : State) :
    CoolantHeard s (stopTsc new s) := by
  unfold stopTsc
  split
  · next hraised =>
    simp only [Bool.and_eq_true] at hraised
    obtain ⟨⟨-, hwait⟩, -⟩ := hraised
    exact .inr ⟨hwait, by simpa using h, raiseCause_planner_congr (by simp) (by simp) _⟩
  · exact .inl (by simp)

theorem placeTsc_heard (s : State) : CoolantHeard s (placeTsc s) := by
  unfold placeTsc startJudgement
  split
  · exact stopTsc_heard (.inl rfl) s
  · split
    · exact .inl (by simp)
    · split
      · exact stopTsc_heard (.inr rfl) s
      · exact .inl (by simp [enterBuilding])

theorem moveTsc_heard (s : State) : CoolantHeard s (moveTsc s) := by
  unfold moveTsc
  split
  · split
    · exact placeTsc_heard s
    · exact (placeTsc_heard _).of_coolant
    all_goals exact .inl rfl
  · refine .inl ?_
    split <;> simp

theorem coolantRequest_heard (m : CoolantMode) (s : State) : CoolantHeard s (coolantRequest m s) := by
  unfold coolantRequest setRequests
  split
  · exact (moveTsc_heard _).of_coolant
  · exact .inl rfl

/-- The coolant wait once the entry's flag has taken effect (R34). -/
theorem armWait_eq (m : CoolantMode) (wait : Bool) (s : State) :
    armWait m wait s =
      { s with planner := { s.planner with
          coolantWait := s.planner.coolantWait || (wait && m.asksTsc && s.coolant.tsc != .ready) } } := by
  unfold armWait
  split
  · next h => rw [h, Bool.or_true]
  · next h => rw [Bool.eq_false_iff.2 h, Bool.or_false]

theorem startActions_coolant {m : CoolantMode} {wait : Bool} (hq : s.planner.queue = e :: rest)
    (he : e.body = .coolant m wait) : startActions s = armWait m wait (coolantRequest m s) := by
  simp [startActions, hq, he]

/-- The checks of R40 over a COOLANT whose request the planner has heard of or not. -/
theorem StartsHeld.coolant_checks (h : StartsHeld s) (hq : s.planner.queue = e :: rest) (he : e.body.isMove = false)
    (hz : z.planner = retakenPlanner s) (hstop : z.stop = s.stop) (hheard : CoolantHeard z w)
    (hwstop : w.stop = s.stop) (m : CoolantMode) (wait : Bool) :
    startChecks (armWait m wait w) =
      { w with
        planner :=
          checkedPlanner s
            { retakenPlanner s with
              coolantWait := s.planner.coolantWait || (wait && m.asksTsc && w.coolant.tsc != .ready) }
            (startCauses w e.body none
              (s.planner.coolantWait || (wait && m.asksTsc && w.coolant.tsc != .ready))) } := by
  rw [armWait_eq]
  rcases hheard with hplanner | ⟨harmed, htsc, hplanner⟩
  · rw [hz] at hplanner
    obtain ⟨on, hon⟩ : ∃ on, on = (s.planner.coolantWait || (wait && m.asksTsc && w.coolant.tsc != .ready)) := ⟨_, rfl⟩
    have hwait : (w.planner.coolantWait || (wait && m.asksTsc && w.coolant.tsc != .ready)) = on := by
      rw [hon, hplanner]
      rfl
    rw [hwait, ← hon, h.checks (w := { w with planner := { w.planner with coolantWait := on } }) (wait := on) hq he
      (by rw [hplanner]) hwstop, startCauses_nonMove he, startCauses_nonMove he]
  · have hraised : CheckedTo z { CauseSet.empty with coolant := true } (raiseCause .coolant z) :=
      (checkedTo_empty (by rw [hz]; exact h.causes)).raiseIf (x := .coolant) (by rw [hz]; rfl) (by rw [hz]; rfl) rfl
        (by decide) rfl true
    have hwait : s.planner.coolantWait = true := by rwa [hz] at harmed
    have hwplanner : w.planner = checkedPlanner s (retakenPlanner s) { CauseSet.empty with coolant := true } := by
      rw [hplanner, hraised, hz, checkedPlanner_of_stop hstop]
    have hkept : { w.planner with
        coolantWait := w.planner.coolantWait || (wait && m.asksTsc && w.coolant.tsc != .ready) } = w.planner := by
      have hon : w.planner.coolantWait = true := by rw [hwplanner]; exact hwait
      rw [hon, Bool.true_or, ← hon]
    have hfound : startCauses w e.body none true = { CauseSet.empty with coolant := true } := by
      rw [startCauses_nonMove he]
      rcases htsc with k | k <;> simp [k]
    have hplannerOn : { retakenPlanner s with coolantWait := true } = retakenPlanner s := by
      rw [← hwait]
      rfl
    rw [hkept, startChecks_nonMove (s := w) (by rw [hwplanner]; exact hq) he, hwait, Bool.true_or, hfound, hplannerOn,
      ← hwplanner]
    have hagain : raiseCause .coolant w = w := raiseCause_again (by rw [hwplanner]; rfl) (by rw [hwplanner]; rfl)
    unfold raiseIf
    split
    · exact hagain
    · rfl

/-- A COOLANT that passes its request again (R34, R145). -/
theorem StartsHeld.coolant (h : StartsHeld s) (hback : Retaken s) (hq : s.planner.queue = e :: rest)
    {m : CoolantMode} {wait : Bool} (he : e.body = .coolant m wait) :
    ∃ t, exec (.start tag []) s = .next t
      ∧ t = { s with
          planner :=
            checkedPlanner s
              { retakenPlanner s with
                speedWait := speedAwaited s
                coolantWait := s.planner.coolantWait || (wait && m.asksTsc && t.coolant.tsc != .ready) }
              (startCauses t e.body none
                (s.planner.coolantWait || (wait && m.asksTsc && t.coolant.tsc != .ready)))
          coolant := t.coolant, spindle := t.spindle, link := t.link }
      ∧ Owes s t [.accept tag (.planner t.planner.state)] []
      ∧ t.coolant.floodRequested = m.asksFlood ∧ t.coolant.tscRequested = m.asksTsc
      ∧ t.coolant.flood = (if m.asksFlood then (if levelInhibit s then .inhibited else .on) else .off)
      ∧ t.spindle.stoppedByOperator = false ∧ t.spindle.sProg = s.spindle.sProg := by
  have hmove : e.body.isMove = false := by simp [he, EntryBody.isMove]
  have hform := started_resumed_form s
  obtain ⟨z, hz⟩ : ∃ z, z = started (resumed s) := ⟨_, rfl⟩
  rw [← hz] at hform
  have hstop : z.stop = s.stop := by rw [hform]
  obtain ⟨w, hw⟩ : ∃ w, w = coolantRequest m z := ⟨_, rfl⟩
  have hactions : startActions z = armWait m wait w := by
    rw [hw, startActions_coolant (by rw [hform]; exact hq) he]
  have hwform : w = { s with planner := w.planner, spindle := w.spindle, coolant := w.coolant } := by
    rw [State.eq_iff_blocks, hw]
    simp [hform]
  have hbegin : beginHead (resumed s) = _ := (beginHead_resumed s).trans
    ((congrArg startChecks ((congrArg startActions hz.symm).trans hactions)).trans
      (h.coolant_checks hq hmove (by rw [hform]) hstop (hw ▸ coolantRequest_heard m z) (by rw [hwform]) m wait))
  obtain ⟨t, ht, htform, howes⟩ := h.retakes (tag := tag) hback hbegin hwform
  have hblocks : t.coolant = w.coolant ∧ t.spindle = w.spindle := by
    rw [htform]
    exact ⟨rfl, rfl⟩
  obtain ⟨hcoolant, hspindle⟩ := hblocks
  have hfields := coolantRequest_armed (s := z) (by rw [hstop, h.armed]) m
  rw [← hw] at hfields
  obtain ⟨hflood, htsc, hstate, hprog, -⟩ := hfields
  obtain ⟨hoff, hkept, -⟩ := resumed_cleared s
  have hzspindle : z.spindle = (resumed s).spindle := by rw [hform]
  have hinhibit : levelInhibit z = levelInhibit s := levelInhibit_congr hstop (by rw [hform])
  refine ⟨t, ht, ?_, howes, ?_⟩
  · rw [startCauses_nonMove hmove, hcoolant, hspindle]
    rw [startCauses_nonMove hmove] at htform
    exact htform
  · rw [hcoolant, hspindle]
    refine ⟨hflood, htsc, hinhibit ▸ hstate, ?_, ?_⟩
    · rw [hw, coolantRequest_stoppedByOperator, hzspindle, hoff]
    · rw [hprog, hzspindle, hkept]

end

end Sys2Proof.Machine

namespace Sys2Proof.Machine

/-! ### MOVE (R31, R95) -/

section
variable {s t : State} {e : Entry} {rest : List Entry} {tag : Tag} {targets : PerAxis (Option Int)} {m : FeedMode}
  {feed : Nat} {c : MoveContext}

/-- A MOVE that begins again with its context kept or fixed, and has made no claim yet (R31, log 15). -/
def contextTaken (c : MoveContext) (s : State) : State :=
  { s with planner := { retakenPlanner s with context := some c }, spindle := (resumed s).spindle }

/-- A MOVE that begins again with its axes claimed (R31). -/
def claimsTaken (c : MoveContext) (s : State) : State := eachAxis (claimAxis c.legs) (contextTaken c s)

theorem fixContext_resumed (hc : c = s.planner.context.getD (newContext s targets)) :
    fixContext targets (started (resumed s)) = contextTaken c s := by
  rw [started_resumed_form]
  unfold fixContext
  have hcontext : (retakenPlanner s).context = s.planner.context := rfl
  cases hd : s.planner.context with
  | none =>
    simp only [hcontext, hd]
    rw [hc, hd]
    rfl
  | some d =>
    simp only [hcontext, hd]
    have hkept : retakenPlanner s = { retakenPlanner s with context := some c } := by
      rw [hc, hd, Option.getD_some, ← hd]
      rfl
    rw [contextTaken, ← hkept]

theorem startActions_resumed_move (hq : s.planner.queue = e :: rest) (he : e.body = .move targets m feed)
    (hc : c = s.planner.context.getD (newContext s targets)) :
    startActions (started (resumed s)) = claimsTaken c s := by
  have hmove : startActions (started (resumed s)) = claimAxes (fixContext targets (started (resumed s))) := by
    have hqueue : (started (resumed s)).planner.queue = e :: rest := by rw [started_resumed_form]; exact hq
    simp [startActions, hqueue, he]
  rw [hmove, fixContext_resumed hc]
  rfl

/-- What the checks of R40 read of a state. -/
theorem startCauses_congr (hcoolant : t.coolant = s.coolant) (hgear : t.gear = s.gear) (hstop : t.stop = s.stop)
    (hprog : t.spindle.sProg = s.spindle.sProg) (hneeded : ∀ a, clampNeeded t a = clampNeeded s a)
    (hfault : ∀ a, (t.clamp a).state = .fault ↔ (s.clamp a).state = .fault) (b : EntryBody) (c : Option MoveContext)
    (wait : Bool) : startCauses t b c wait = startCauses s b c wait := by
  have hclamp : ∀ a, ((t.clamp a).state == .fault) = ((s.clamp a).state == .fault) := fun a => by
    rw [Bool.eq_iff_iff]
    simpa using hfault a
  have hspindle : hasSpindleFault t = hasSpindleFault s := by
    unfold hasSpindleFault
    rw [hasCode_of_stop_eq hstop, hasCode_of_stop_eq hstop]
  simp only [startCauses, hcoolant, hgear, hprog, hneeded, hclamp, hspindle]

section
variable (hempty : s.valve.requests = []) (hrest : ∀ a, (c.legs.get a).isSome = true → (s.axis a).motion = .idle)
include hempty

theorem claiming_begun : Claiming c.legs (contextTaken c s) (contextTaken c s) := .refl hempty

include hrest

theorem claiming_taken : Claiming c.legs (contextTaken c s) (claimsTaken c s) := (claiming_begun hempty).claims hrest

theorem claimsTaken_axis (a : Axis) :
    (claimsTaken c s).axis a = { s.axis a with claim := (c.legs.get a).isSome || (s.axis a).claim } := by
  refine (Claiming.claims_axis (s := contextTaken c s) hrest (claiming_begun hempty) a).trans ?_
  unfold claimedUnit
  cases hl : (c.legs.get a).isSome <;> rfl

/-- A MOVE that begins again: its claims, and the checks of R40 over them. -/
theorem StartsHeld.move_begins (h : StartsHeld s) (hq : s.planner.queue = e :: rest)
    (he : e.body = .move targets m feed) (hc : c = s.planner.context.getD (newContext s targets)) :
    beginHead (resumed s) =
      { claimsTaken c s with
        planner :=
          checkedPlanner s { retakenPlanner s with context := some c }
            (startCauses s e.body (some c) s.planner.coolantWait) } := by
  have hclaiming := claiming_taken hempty hrest
  have hform := hclaiming.form
  obtain ⟨-, hprog, -⟩ := resumed_cleared s
  have hplanner : (claimsTaken c s).planner = { retakenPlanner s with context := some c } := by
    rw [hform]
    rfl
  have hfound : startCauses (claimsTaken c s) e.body (some c) s.planner.coolantWait =
      startCauses s e.body (some c) s.planner.coolantWait :=
    startCauses_congr (s := s) (by rw [hform]; rfl) (by rw [hform]; rfl) (by rw [hform]; rfl)
      (by rw [hform]; exact hprog) hclaiming.needed hclaiming.fault_iff _ _ _
  have hcontext : (claimsTaken c s).planner.context = some c := by rw [hplanner]
  have hwait : (claimsTaken c s).planner.coolantWait = s.planner.coolantWait := by rw [hplanner]; rfl
  rw [beginHead_resumed, startActions_resumed_move hq he hc,
    startChecks_checked (e := e) (rest := rest) (by rw [hplanner]; exact hq) (by rw [hplanner]; rfl)
      (by rw [hplanner]; rfl) (by rw [hplanner]; exact h.causes),
    hcontext, hwait, hfound, hplanner, checkedPlanner_of_stop (s := s) (by rw [hform]; rfl)]

/-- A Start that takes the start actions of a MOVE again: what the claims make of axes and clamps, with the hydraulic
wait judged at the end (R31, R92). -/
theorem StartsHeld.move (h : StartsHeld s) (hback : Retaken s) (hq : s.planner.queue = e :: rest)
    (he : e.body = .move targets m feed) (hc : c = s.planner.context.getD (newContext s targets)) :
    ∃ t, exec (.start tag []) s = .next t
      ∧ t = { s with
          planner :=
            checkedPlanner s { retakenPlanner s with speedWait := speedAwaited s, context := some c }
              (startCauses s e.body (some c) s.planner.coolantWait)
          axes := (claimsTaken c s).axes, clamps := (claimsTaken c s).clamps
          valve := (hydraulicCheck (claimsTaken c s)).valve, spindle := (resumed s).spindle, link := t.link }
      ∧ Owes s t [.accept tag (.planner t.planner.state)] [] := by
  have hclaiming := claiming_taken hempty hrest
  have hform := hclaiming.form
  obtain ⟨u, hu⟩ : ∃ u, u = { claimsTaken c s with
    planner :=
      checkedPlanner s { retakenPlanner s with speedWait := speedAwaited s, context := some c }
        (startCauses s e.body (some c) s.planner.coolantWait) } := ⟨_, rfl⟩
  have hstarts : startProgram s = u := by
    rw [hu, startProgram_held h.held,
      resumeProgram_retakes hback (h.move_begins hempty hrest hq he hc) rfl rfl]
    rfl
  have hsite : SiteSettled (claimsTaken c s) := by
    have hpendant : (claimsTaken c s).pendant = s.pendant := by rw [hform]; rfl
    intro hwithdrawing
    obtain ⟨a, htenure, hmotion⟩ := h.settled.1 (hpendant ▸ hwithdrawing)
    exact ⟨a, hpendant ▸ htenure, by rw [hclaiming.motion]; exact hmotion⟩
  obtain ⟨t, ht, htform, howes⟩ := start_next (tag := tag) h.room h.accepts hstarts
    (hsite.of_eq (by rw [hu]) (by rw [hu])) (by rw [hu, hform]; rfl)
  rw [hydraulicCheck_valve_congr (t := u) (s := claimsTaken c s) (by rw [hu])] at htform
  have hstate : t.planner.state = u.planner.state := by rw [htform]
  refine ⟨t, ht, htform.trans ?_, by rwa [hstate]⟩
  generalize t.link = l
  generalize (hydraulicCheck (claimsTaken c s)).valve = v
  rw [hu, hform]
  rfl

end

end

end Sys2Proof.Machine

namespace Sys2Proof.Machine

/-! ### What a MOVE's claims leave of clamps and valve bank (R95, R97) -/

section
variable {s : State} {c : MoveContext} {a : Axis}

/-- Nothing is asked of an axis whose clamp counts as RELEASED where it moves (R94, R95). -/
theorem not_asked_of_released (h : ∀ l, c.legs.get a = some l → clampReleased s a = true) :
    ¬AskedOf c.legs s a := by
  rintro ⟨hl, hneeded, hnot, -⟩
  obtain ⟨l, hl⟩ := Option.isSome_iff_exists.1 hl
  have hreleased := h l hl
  rw [clampReleased, hneeded] at hreleased
  exact hnot (by simpa using hreleased)

variable (hempty : s.valve.requests = []) (hrest : ∀ a, (c.legs.get a).isSome = true → (s.axis a).motion = .idle)
include hempty hrest

theorem claimsTaken_clamp_none (ha : c.legs.get a = none) : (claimsTaken c s).clamp a = s.clamp a :=
  Claiming.claims_clamp_none (s := contextTaken c s) hrest (claiming_begun hempty) (by rw [ha]; rfl)

/-- A clamp that is not needed, that is RELEASED or that is in FAULT keeps its state, and its linger timer ends. -/
theorem claimsTaken_clamp_stands (hl : (c.legs.get a).isSome = true)
    (ha : clampNeeded s a = false ∨ (s.clamp a).state = .released ∨ (s.clamp a).state = .fault) :
    (claimsTaken c s).clamp a = lingerCut a s := by
  refine Claiming.claims_clamp_stands (s := contextTaken c s) hrest (claiming_begun hempty) hl ?_
  rintro ⟨-, hneeded, hreleased, hfault⟩
  rcases ha with h | h | h
  · exact Bool.noConfusion (h.symm.trans hneeded)
  · exact hreleased h
  · exact hfault h

/-- Where every clamp of a moving axis counts as RELEASED the Valve Bank stays as it is (R94, R95). -/
theorem claimsTaken_valve (hs : HydraulicSettled s)
    (h : ∀ a l, c.legs.get a = some l → clampReleased s a = true) :
    (hydraulicCheck (claimsTaken c s)).valve = s.valve := by
  have hvalve : (claimsTaken c s).valve = s.valve :=
    Claiming.claims_valve (s := contextTaken c s) hrest (claiming_begun hempty) fun a => not_asked_of_released (h a)
  rw [hydraulicCheck_valve_congr hvalve, hydraulicCheck_eq_self hs]

/-- The release of an ENGAGED clamp waits for pressure (R88, R95). -/
theorem claimsTaken_awaits (hl : (c.legs.get a).isSome = true) (hneeded : clampNeeded s a = true)
    (hstate : (s.clamp a).state = .engaged) (hpressure : s.valve.pressureOk = false) :
    ((claimsTaken c s).clamp a).state = .releaseWait
      ∧ ⟨.release a, 0, .waiting⟩ ∈ (hydraulicCheck (claimsTaken c s)).valve.requests := by
  have hdry : Dry (contextTaken c s) :=
    ⟨hpressure, fun r hr => by rw [show (contextTaken c s).valve.requests = [] from hempty] at hr; cases hr⟩
  rw [hydraulicCheck_requests]
  exact Claiming.claims_await (s := contextTaken c s) hrest (claiming_begun hempty) hdry hl hneeded hstate

/-- With pressure, and the clamps of the other moving axes RELEASED, it is granted at once (R89, R95). -/
theorem claimsTaken_releases (hs : HydraulicSettled s) (harmed : s.stop.estop = .armed)
    (hl : (c.legs.get a).isSome = true) (hneeded : clampNeeded s a = true) (hstate : (s.clamp a).state = .engaged)
    (hpressure : s.valve.pressureOk = true) (hopen : (s.clamp a).switchClosed = false)
    (hothers : ∀ d k, d ≠ a → c.legs.get d = some k → clampReleased s d = true) :
    (claimsTaken c s).clamp a = { s.clamp a with state := .releasing, linger := none }
      ∧ (hydraulicCheck (claimsTaken c s)).valve =
          { s.valve with requests := [⟨.release a, 0, .active s.valve.clampLimit⟩] } := by
  obtain ⟨hclamp, hvalve⟩ := Claiming.claims_release (s := contextTaken c s) hrest (claiming_begun hempty) hl hneeded
    hstate hempty hpressure hopen harmed fun d hne => not_asked_of_released fun k => hothers d k hne
  refine ⟨hclamp, ?_⟩
  obtain ⟨hwait, hexpired⟩ : s.valve.hydraulicWait = none ∧ s.valve.hydraulicExpired = false := by
    unfold HydraulicSettled at hs
    rwa [if_neg (by simp [hpressure])] at hs
  have hsettled : HydraulicSettled (claimsTaken c s) := by
    have hbank : (claimsTaken c s).valve =
        { s.valve with requests := [⟨.release a, 0, .active s.valve.clampLimit⟩] } := hvalve
    simp [HydraulicSettled, hbank, hpressure, hwait, hexpired]
  rw [hydraulicCheck_eq_self hsettled]
  exact hvalve

end

/-! ## The statement -/

section
variable {s t : State}

/-- A Start in RUNNING changes nothing (R28). -/
theorem start_running {tag : Tag} (hs : Settled s) (hroom : ReplyRoom s) (harmed : s.stop.estop = .armed)
    (hsite : s.pendant.site = .host) (hrun : s.planner.state = .running) :
    Completes (.start tag []) s s [.accept tag (.planner .running)] [] := by
  have hsame : startProgram s = s := by simp [startProgram, hrun]
  obtain ⟨t, ht, hform, howes⟩ := start_next_settled (tag := tag) hroom (startOrder_accepts harmed hsite (.inl hrun))
    hsame hs rfl
  rw [hrun] at howes
  exact ⟨t, ht, hform, howes⟩

/-- A Start in IDLE makes the planner RUNNING (R29). -/
theorem start_idle {tag : Tag} (hs : Settled s) (hroom : ReplyRoom s) (harmed : s.stop.estop = .armed)
    (hsite : s.pendant.site = .host) (hidle : s.planner.state = .idle) (href : anyReference s = false) :
    ∃ t, exec (.start tag []) s = .next t
      ∧ t = { s with planner := { s.planner with state := .running }, spindle := t.spindle, link := t.link }
      ∧ Owes s t [.accept tag (.planner .running)] [] ∧ StopCleared s t := by
  obtain ⟨u, hu⟩ : ∃ u, u = clearOperatorStop { s with planner := { s.planner with state := .running } } := ⟨_, rfl⟩
  have hform : u = { s with planner := { s.planner with state := .running }, spindle := u.spindle } := by
    rw [hu]
    exact clearOperatorStop_form _
  have hcleared : StopCleared s u := hu ▸ clearOperatorStop_cleared _
  have hstarts : startProgram s = u := by simp [startProgram, hidle, hu]
  obtain ⟨t, ht, htform, howes⟩ := start_next_settled (tag := tag) hroom
    (startOrder_accepts harmed hsite (.inr (.inl ⟨hidle, href⟩))) hstarts
    (hs.of_eq (by rw [hform]) (by rw [hform]) (by rw [hform])) (by rw [hform])
  have hrunning : u.planner.state = .running := by rw [hform]
  rw [hrunning] at howes
  refine ⟨t, ht, ?_, howes, hcleared.of_eq ?_ ?_ ?_ ?_ ?_⟩
  · rw [htform, hform]
  all_goals rw [htform]

/-- What a Start that gives the head its start actions again leaves of the clearing (R30, R118). -/
theorem StopCleared.of_resumed (hspindle : t.spindle = (resumed s).spindle) (hgear : t.gear = s.gear)
    (hstop : t.stop = s.stop) (hcoolant : t.coolant = s.coolant) (hpendant : t.pendant = s.pendant) :
    StopCleared s t := by
  have hform := resumed_form s
  exact (resumed_cleared s).of_eq hspindle (by rw [hgear, hform]) (by rw [hstop, hform]) (by rw [hcoolant, hform])
    (by rw [hpendant, hform])

/-- Settles O13: RUNNING and IDLE at once; in HELD the head stays, or takes its start actions again by its kind. -/
theorem startRuns : Obligations.StartRuns := by
  unfold Obligations.StartRuns
  intro s tag hs hroom harmed hsite
  refine ⟨start_running hs hroom harmed hsite, start_idle hs hroom harmed hsite, ?_⟩
  rintro _ back hheld hfree hplaced rfl hset
  have h : StartsHeld s := ⟨hs, hroom, harmed, hsite, hheld, hfree, hplaced⟩
  have hback : back ↔ Retaken s := hset
  refine ⟨fun hno => ?_, ?_⟩
  · obtain ⟨t, ht, hform, howes⟩ := h.stays (tag := tag) (mt hback.2 hno)
    refine ⟨t, ht, ?_, howes, .of_resumed ?_ ?_ ?_ ?_ ?_⟩
    · rw [hform]
      rfl
    all_goals rw [hform]
  rintro e rest _ hq hyes hempty rfl
  have hagain : Retaken s := hback.1 hyes
  refine ⟨fun hkind => ?_, fun targets m feed c he hc hlegs => ?_, fun speed d forced wait he _ =>
    ⟨fun hspeed hfault => ?_, fun hfault hstep hforced hrow => ?_⟩, fun m wait he _ => ?_⟩
  · obtain ⟨t, ht, hform, howes⟩ := h.quiet (tag := tag) hagain hq hkind
    refine ⟨t, ht, ?_, howes, .of_resumed ?_ ?_ ?_ ?_ ?_⟩
    · rw [hform]
      rfl
    all_goals rw [hform]
  · have hrest : ∀ a, (c.legs.get a).isSome = true → (s.axis a).motion = .idle := fun a ha => by
      obtain ⟨l, hl⟩ := Option.isSome_iff_exists.1 ha
      exact hlegs a l hl
    obtain ⟨t, ht, hform, howes⟩ := h.move (tag := tag) hempty hrest hagain hq he hc
    have hmoving : ∀ {a l}, c.legs.get a = some l → (c.legs.get a).isSome = true := fun hl => by rw [hl]; rfl
    have haxis : ∀ a, t.axis a = (claimsTaken c s).axis a := fun a => by rw [hform]; rfl
    have hclamp : ∀ a, t.clamp a = (claimsTaken c s).clamp a := fun a => by rw [hform]; rfl
    have hvalve : t.valve = (hydraulicCheck (claimsTaken c s)).valve := by rw [hform]
    have hcleared : StopCleared s t :=
      .of_resumed (by rw [hform]) (by rw [hform]) (by rw [hform]) (by rw [hform]) (by rw [hform])
    refine ⟨t, ht, ?_, howes, hcleared, fun a => ?_, fun a ha => ?_, fun a l hl hstands => ?_,
      fun hreleased => ?_, fun a l hl hneeded hstate => ⟨fun hpressure => ?_, fun hpressure hopen hothers => ?_⟩⟩
    · rw [hform]
      rfl
    · rw [haxis, claimsTaken_axis hempty hrest]
    · rw [hclamp, claimsTaken_clamp_none hempty hrest ha]
    · rw [hclamp, claimsTaken_clamp_stands hempty hrest (hmoving hl) hstands]
      rfl
    · rw [hvalve, claimsTaken_valve hempty hrest hs.2 hreleased]
    · rw [hclamp, hvalve]
      exact claimsTaken_awaits hempty hrest (hmoving hl) hneeded hstate hpressure
    · rw [hclamp, hvalve]
      exact claimsTaken_releases hempty hrest hs.2 harmed (hmoving hl) hneeded hstate hpressure hopen hothers
  · obtain ⟨t, ht, hform, howes⟩ := h.spindle_refused (tag := tag) hagain hq he hspeed hfault
    refine ⟨t, ht, ?_, howes, .of_resumed ?_ ?_ ?_ ?_ ?_⟩
    · rw [hform]
      rfl
    all_goals rw [hform]
  · subst hforced
    exact h.spindle (tag := tag) hagain hq he hfault hstep hrow
  · exact h.coolant (tag := tag) hagain hq he

end

end Sys2Proof.Machine

namespace Sys2Proof.Machine

/-! ## Load Compensation (O26) -/

/-! ### A chunk written into the points of a table (R76) -/

section
variable {points chunk : List Int} {start j : Nat}

theorem length_writePoints (hfits : start + chunk.length ≤ points.length) :
    (writePoints points start chunk).length = points.length := by
  simp only [writePoints, List.length_append, List.length_take, List.length_drop]
  omega

theorem writePoints_inside (hstart : start ≤ points.length) (hj : j < chunk.length) :
    (writePoints points start chunk)[start + j]? = chunk[j]? := by
  have hbefore : (points.take start).length = start := List.length_take_of_le hstart
  rw [writePoints, List.append_assoc, List.getElem?_append_right (by omega), hbefore, Nat.add_sub_cancel_left,
    List.getElem?_append_left hj]

theorem writePoints_outside (hstart : start ≤ points.length) (hj : j < start ∨ start + chunk.length ≤ j) :
    (writePoints points start chunk)[j]? = points[j]? := by
  have hbefore : (points.take start).length = start := List.length_take_of_le hstart
  rw [writePoints, List.append_assoc]
  rcases hj with hj | hj
  · rw [List.getElem?_append_left (by omega), List.getElem?_take_of_lt hj]
  · rw [List.getElem?_append_right (by omega), List.getElem?_append_right (by omega), List.getElem?_drop, hbefore]
    congr 1
    omega

end

/-! ### What a payload in range spells (R75) -/

@[simp] theorem length_pointsFrom (p : List Byte) (offset n : Nat) : (pointsFrom p offset n).length = n := by
  induction n generalizing offset with
  | zero => rfl
  | succ n ih => simp [pointsFrom, ih]

theorem chunkFits_end {start count : Nat} {points : List Int} (h : chunkFits start count points = true) :
    start + count ≤ 129 := by
  simp only [chunkFits, Bool.and_eq_true, decide_eq_true_eq] at h
  obtain ⟨⟨⟨-, hend, -⟩, -⟩, -⟩ := h
  exact hend

/-- A load that a payload spells names its axis, ends inside the table, and starts at 0 where it has a window. -/
theorem compLoad_spells {p : List Byte} {l : CompLoad} (h : compLoad p = some l) :
    axisOf (byteAt p 0) = some l.axis ∧ l.start + l.points.length ≤ 129 ∧ (l.window.isSome = true → l.start = 0) := by
  simp only [compLoad, Option.bind_eq_bind, Option.bind_eq_some_iff] at h
  obtain ⟨a, haxis, window, -, h⟩ := h
  cases window with
  | true =>
    rw [if_pos rfl, Option.ite_none_right_eq_some, Bool.and_eq_true] at h
    obtain ⟨⟨-, hchunk⟩, hl⟩ := h
    cases hl
    exact ⟨haxis, by simpa using chunkFits_end hchunk, fun _ => rfl⟩
  | false =>
    rw [if_neg (by simp), Option.ite_none_right_eq_some, Bool.and_eq_true] at h
    obtain ⟨⟨-, hchunk⟩, hl⟩ := h
    cases hl
    exact ⟨haxis, by simpa using chunkFits_end hchunk, fun hwindow => absurd hwindow (by simp)⟩

/-- A payload that names a fitted axis passes check 3 (R196). -/
theorem namesMissingB_axisOf {s : State} {n : Nat} {a : Axis} (h : axisOf n = some a)
    (hb : a = .b → s.link.straps.bFitted = true) : namesMissingB s n = false := by
  by_cases hn : n = 4
  · subst hn
    cases h
    simp [namesMissingB, hb rfl]
  · simp [namesMissingB, hn]

/-! ### The record after the load (R76) -/

/-- The points a chunk is written over: with a window every point is 0 first (R76). -/
def CompLoad.over (l : CompLoad) (c : CompRecord) : List Int :=
  if l.window.isSome then List.replicate 129 0 else c.points

theorem CompLoad.length_over (l : CompLoad) {c : CompRecord} (h : c.points.length = 129) :
    (l.over c).length = 129 := by
  unfold CompLoad.over
  split
  · exact List.length_replicate
  · exact h

theorem CompLoad.getElem?_over (l : CompLoad) (c : CompRecord) {j : Nat} (h : j < 129) :
    (l.over c)[j]? = if l.window.isSome then some 0 else c.points[j]? := by
  unfold CompLoad.over
  split
  · exact List.getElem?_replicate_of_lt h
  · rfl

theorem CompRecord.load_points (c : CompRecord) {l : CompLoad} (h : l.window.isSome = true → l.start = 0) :
    (c.load l).points = writePoints (l.over c) l.start l.points := by
  unfold CompRecord.load CompLoad.over
  split
  · next hwindow => simp [hwindow, h (by simp [hwindow])]
  · next hwindow => simp [hwindow]

@[simp] theorem CompRecord.load_b (c : CompRecord) (l : CompLoad) : (c.load l).b = c.b := by
  unfold CompRecord.load
  split <;> rfl

@[simp] theorem CompRecord.load_direction (c : CompRecord) (l : CompLoad) : (c.load l).direction = c.direction := by
  unfold CompRecord.load
  split <;> rfl

theorem CompRecord.load_window (c : CompRecord) {l : CompLoad} {base : Int} {k : Nat} (h : l.window = some (base, k)) :
    (c.load l).base = base ∧ (c.load l).k = k := by
  simp [CompRecord.load, h]

theorem CompRecord.load_no_window (c : CompRecord) {l : CompLoad} (h : l.window = none) :
    (c.load l).base = c.base ∧ (c.load l).k = c.k := by
  simp [CompRecord.load, h]

/-- The load with no check against it is taken into the record of its axis (R75). -/
theorem loadCompensationOrder_accept {s : State} {bytes : List Byte} {l : CompLoad}
    (hlength : bytes.length = loadLength bytes) (hload : compLoad bytes = some l)
    (hb : l.axis = .b → s.link.straps.bFitted = true) (hconf : (s.axis l.axis).configured = true)
    (hlocked : tableLocked (s.axis l.axis) = false) :
    loadCompensationOrder bytes s =
      .accept (s.setComp l.axis ((s.compOf l.axis).load l))
        (.compensation l.axis ((s.compOf l.axis).load l).base ((s.compOf l.axis).load l).k
          (l.start + l.points.length - 1)) := by
  refine (judgeField_accept ?_ hload ?_).trans ?_
  · simp [hlength, namesMissingB_axisOf (compLoad_spells hload).1 hb]
  · simp [hconf, hlocked]
  · simp [accepted, loadReply, CompLoad.highest]

/-- Settles O26: the record taken is the axis's own with the chunk written over its points, or over zeros where a window
comes with it. -/
theorem loadCompensationWrites : Obligations.LoadCompensationWrites := by
  unfold Obligations.LoadCompensationWrites
  intro s tag bytes l hs hroom hlength hload hb hconf hlocked hpoints
  obtain ⟨-, hend, hzero⟩ := compLoad_spells hload
  have hover := l.length_over hpoints
  refine ⟨(s.compOf l.axis).load l, completes_order (fun _ => rfl) hroom
    (loadCompensationOrder_accept hlength hload hb hconf hlocked) (hs.setComp _ _) rfl, ?_, CompRecord.load_b _ _,
    CompRecord.load_direction _ _, fun j hj => ?_, fun j hj hout => ?_, fun base k => CompRecord.load_window _,
    CompRecord.load_no_window _⟩
  · rw [CompRecord.load_points _ hzero, length_writePoints (by omega), hover]
  · rw [CompRecord.load_points _ hzero, writePoints_inside (by omega) hj]
  · rw [CompRecord.load_points _ hzero, writePoints_outside (by omega) hout, CompLoad.getElem?_over _ _ hj]

end Sys2Proof.Machine

namespace Sys2Proof.Machine

/-! ## Queries (O31) -/

theorem byteAt_leBytes_one {n : Nat} (h : n ≤ 255) : byteAt (leBytes 1 n) 0 = n := by
  simp [byteAt, leBytes]
  omega

/-- A field out of range is refused BAD_FIELD once checks 1 to 3 pass (R196). -/
theorem judgeField_badField {α : Type} {before : List (Bool × RefuseCode)} {f : Option α}
    {after : α → List (Bool × RefuseCode)} {taken : α → Verdict} (h1 : ∀ c ∈ before, c.1 = false) (h2 : f = none) :
    judgeField before f after taken = .refuse .badField := by
  unfold judgeField
  rw [firstRefusal_none h1, h2]

/-- The selectors of Get Status are 0 to 7 (R202). -/
theorem statusOf_isSome_iff {s : State} {n : Nat} : (statusOf s n).isSome = true ↔ n ≤ 7 := by
  match n with
  | 0 | 1 | 2 | 3 | 4 | 5 | 6 | 7 => simp [statusOf]
  | n + 8 => simp [statusOf]

theorem getStatusOrder_accept {s : State} {n : Nat} {r : AcceptPayload} (hn : n ≤ 255) (h : statusOf s n = some r) :
    getStatusOrder (leBytes 1 n) s = .accept s r :=
  judgeField_accept (by simp) ((byteAt_leBytes_one hn).symm ▸ h) (by simp)

theorem getStatusOrder_badField {s : State} {n : Nat} (hn : n ≤ 255) (h : statusOf s n = none) :
    getStatusOrder (leBytes 1 n) s = .refuse .badField :=
  judgeField_badField (by simp) ((byteAt_leBytes_one hn).symm ▸ h)

theorem getAxisOrder_accept {s : State} {a : Axis} (hb : a = .b → s.link.straps.bFitted = true) :
    getAxisOrder [axisByte a] s = .accept s (.axisStatus (axisStatus s a)) :=
  judgeField_accept (by simp [namesMissingB_axisByte hb]) (axisOf_axisByte a []) (by simp)

theorem getAxisOrder_notFitted {s : State} (h : s.link.straps.bFitted = false) :
    getAxisOrder [4] s = .refuse .notFitted := by
  simp [getAxisOrder, judgeField, firstRefusal, namesMissingB, byteAt, h]

theorem getFaultsOrder_accept {s : State} {n : Nat} (hn : n ≤ 63) :
    getFaultsOrder (leBytes 1 n) s = .accept s (faultsFrom n s) := by
  refine judgeField_accept (by simp) ?_ (by simp)
  rw [byteAt_leBytes_one (by omega), within_eq (Nat.zero_le n) hn]

/-- Settles O31: the owner of each query accepts with the state it was asked in, or refuses. -/
theorem queriesChangeNothing : Obligations.QueriesChangeNothing := by
  unfold Obligations.QueriesChangeNothing
  intro s tag hs hroom
  refine ⟨fun n hn => ?_, fun n hn hbyte => ?_, fun a hb => ?_, fun hb => ?_, fun n hn => ?_, ?_⟩
  · obtain ⟨r, hr⟩ := Option.isSome_iff_exists.1 (statusOf_isSome_iff.2 hn)
    exact ⟨r, hr, completes_order (fun _ => rfl) hroom (getStatusOrder_accept (by omega) hr) hs rfl⟩
  · have hnone : statusOf s n = none := Option.not_isSome_iff_eq_none.1 (mt statusOf_isSome_iff.1 (by omega))
    exact completes_refuse (fun _ => rfl) hroom (getStatusOrder_badField hbyte hnone) hs
  · exact ⟨axisStatus s a, completes_order (fun _ => rfl) hroom (getAxisOrder_accept hb) hs rfl,
      rfl, rfl, rfl, rfl, rfl, rfl, rfl, rfl, rfl, rfl, rfl, rfl⟩
  · exact completes_refuse (fun _ => rfl) hroom (getAxisOrder_notFitted hb) hs
  · exact completes_order (fun _ => rfl) hroom (getFaultsOrder_accept hn) hs rfl
  · exact completes_order (owner := getIdentOrder []) (fun _ => rfl) hroom rfl hs rfl

end Sys2Proof.Machine

namespace Sys2Proof.Machine

/-! ## The pitch correction (O60) -/

/-! ### Rounding to the nearest integer (00 "Arithmetic") -/

theorem roundUp_nearest (n : Nat) {d : Nat} (h : 0 < d) :
    2 * (roundUp n d * d) ≤ 2 * n + d ∧ 2 * n < 2 * (roundUp n d * d) + d := by
  have hmod := Nat.div_add_mod (2 * n + d) (2 * d)
  have hlt := Nat.mod_lt (2 * n + d) (show 0 < 2 * d by omega)
  have hproduct : 2 * d * roundUp n d = 2 * (roundUp n d * d) := by ring
  rw [← hproduct, roundUp]
  omega

/-- The rounded quotient has its numerator's sign and the rounded size (00 "Arithmetic"). -/
theorem roundAway_eq (n : Int) (d : Nat) :
    (0 ≤ n ∧ roundAway n d * d = (roundUp n.natAbs d * d : Nat))
      ∨ (n < 0 ∧ roundAway n d * d = -(roundUp n.natAbs d * d : Nat)) := by
  unfold roundAway
  split <;> push_cast
  · exact .inl ⟨by assumption, rfl⟩
  · exact .inr ⟨by omega, by ring⟩

/-- The rounded quotient is within a half of the exact one, and the further from 0 of the two at a half. -/
theorem roundAway_nearest (n : Int) {d : Nat} (h : 0 < d) :
    2 * |roundAway n d * d - n| ≤ d ∧ (2 * |roundAway n d * d - n| = d → |n| < |roundAway n d * d|) := by
  obtain ⟨hlow, hhigh⟩ := roundUp_nearest n.natAbs h
  simp only [Int.abs_eq_natAbs]
  rcases roundAway_eq n d with ⟨hn, e⟩ | ⟨hn, e⟩ <;> rw [e] <;> omega

/-! ### Inside the window (R73) -/

/-- The numerator of R73 at a distance `r` from point `j`, for points `w` apart. -/
def CompRecord.numerator (c : CompRecord) (w j r : Nat) : Int :=
  c.point j * w + (c.point (j + 1) - c.point j) * r

section
variable {c : CompRecord} {w j r : Nat}

theorem pitchAt_inside (hw : w * 128 = 2 ^ c.k) (hj : j < 128) (hr : r < w) :
    pitchAt c (c.base + (j * w + r : Nat)) = roundAway (c.numerator w j r) w := by
  have hwidth : c.width = w := by rw [CompRecord.width, CompRecord.size, ← hw, Nat.mul_div_cancel _ (by decide)]
  have hoffset : (c.base + (j * w + r : Nat) - c.base).toNat = w * j + r := by rw [mul_comm w]; omega
  have hinside : j * w + r < c.size := by
    have : (j + 1) * w ≤ 128 * w := Nat.mul_le_mul_right w hj
    rw [CompRecord.size, ← hw]
    linarith
  rw [pitchAt, if_neg (by omega), if_neg (by omega), hwidth, hoffset, Nat.mul_add_div (by omega),
    Nat.div_eq_of_lt hr, Nat.mul_add_mod, Nat.mod_eq_of_lt hr]
  rfl

theorem numerator_zero : c.numerator w j 0 = c.point j * w := by simp [CompRecord.numerator]

theorem numerator_sub_next (hr : r ≤ w) :
    c.numerator w j r - c.point (j + 1) * w = -((c.point (j + 1) - c.point j) * (w - r : Nat)) := by
  rw [CompRecord.numerator, Nat.cast_sub hr]
  ring

theorem numerator_sub (r' : Nat) :
    c.numerator w j r' - c.numerator w j r = (c.point (j + 1) - c.point j) * ((r' : Int) - r) := by
  rw [CompRecord.numerator, CompRecord.numerator]
  ring

/-- The correction is as near to the next point as the exact quotient, but for the rounding. -/
theorem roundAway_numerator_next (hr : r < w) :
    2 * |roundAway (c.numerator w j r) w - c.point (j + 1)| * w
      ≤ 2 * |c.point (j + 1) - c.point j| * (w - r : Nat) + w := by
  obtain ⟨hround, -⟩ := roundAway_nearest (c.numerator w j r) (d := w) (by omega)
  have hexact : |c.numerator w j r - c.point (j + 1) * w| = |c.point (j + 1) - c.point j| * (w - r : Nat) := by
    rw [numerator_sub_next hr.le, abs_neg, abs_mul, Nat.abs_cast]
  have hsplit := abs_sub_le (roundAway (c.numerator w j r) w * w) (c.numerator w j r) (c.point (j + 1) * w)
  rw [← sub_mul, abs_mul, Nat.abs_cast, hexact] at hsplit
  linarith

/-- Two corrections between the same points differ as the exact quotients do, but for a half of rounding at each (R74). -/
theorem roundAway_numerator_moves (hw : 0 < w) (r' : Nat) :
    |roundAway (c.numerator w j r') w - roundAway (c.numerator w j r) w| * w
      ≤ |c.point (j + 1) - c.point j| * |(r' : Int) - r| + w := by
  obtain ⟨hround, -⟩ := roundAway_nearest (c.numerator w j r) hw
  obtain ⟨hround', -⟩ := roundAway_nearest (c.numerator w j r') hw
  have hexact : |c.numerator w j r' - c.numerator w j r| = |c.point (j + 1) - c.point j| * |(r' : Int) - r| := by
    rw [numerator_sub, abs_mul]
  rw [← Nat.abs_cast w, ← abs_mul, sub_mul, ← hexact]
  simp only [Int.abs_eq_natAbs] at hround hround' ⊢
  omega

end

/-- Settles O60: outside the window the ends hold, and inside it the correction is the numerator of R73 rounded. -/
theorem pitchInterpolates : Obligations.PitchInterpolates := by
  unfold Obligations.PitchInterpolates
  intro c w _ _ _ hw
  refine ⟨fun p hp => if_pos hp, fun p hp => ?_, ?_⟩
  · rw [pitchAt, CompRecord.size, if_neg (by omega), if_pos hp]
  · rintro j r _ _ _ hj hr rfl rfl rfl
    rw [pitchAt_inside hw hj hr, ← CompRecord.numerator]
    have hpos : 0 < w := by omega
    obtain ⟨hnear, htie⟩ := roundAway_nearest (c.numerator w j r) hpos
    refine ⟨hnear, htie, ?_, roundAway_numerator_next hr, fun r' hr' => ?_⟩
    · rintro rfl
      rw [numerator_zero, roundAway_path (by omega)]
    · rw [pitchAt_inside hw hj hr']
      exact roundAway_numerator_moves hpos r'

end Sys2Proof.Machine

namespace Sys2Proof.Machine

/-! ## The valve request list and its owners (O53)

`ListHolds` is what the request list alone must meet, with the request that each clamp has on it and the fork strokes in
hand as parameters: joining, leaving and granting each have one rule about it. -/

/-- The requests of a valve function on a list, as stroke and whether ACTIVE. -/
def requestsFor (f : ValveFunction) (l : List Request) : List (Stroke × Bool) :=
  (l.filter fun r => r.stroke.function == f).map fun r => (r.stroke, r.isActive)

/-- The fork strokes on a list. -/
def forksOn (l : List Request) : List Stroke :=
  (l.filter fun r => r.stroke.function == .forkA || r.stroke.function == .forkB).map Request.stroke

/-- The WAITING requests of a list. -/
def waitingOn (l : List Request) : List Request := l.filter fun r => !r.isActive

/-- The flow fits, the bypass counts fall along the WAITING requests and stay in 0 to 7, each clamp has the request
`c` gives it, and the forks have `k` (R87, R89). -/
structure ListHolds (c : Axis → Option (Stroke × Bool)) (k : List Stroke) (l : List Request) : Prop where
  flow : flowInUse l ≤ Config.flowUnits
  falling : (waitingOn l).Pairwise fun r q => q.bypass ≤ r.bypass
  bypass : ∀ r ∈ l, r.bypass ≤ 7
  clamps : ∀ a, requestsFor (.clamp a) l = (c a).toList
  forks : forksOn l = k

section

variable {c : Axis → Option (Stroke × Bool)} {k : List Stroke} {l m : List Request} {f : ValveFunction}

@[simp] theorem requestsFor_append : requestsFor f (l ++ m) = requestsFor f l ++ requestsFor f m := by
  simp [requestsFor]

@[simp] theorem forksOn_append : forksOn (l ++ m) = forksOn l ++ forksOn m := by simp [forksOn]

@[simp] theorem waitingOn_append : waitingOn (l ++ m) = waitingOn l ++ waitingOn m := by simp [waitingOn]

@[simp] theorem flowInUse_append : flowInUse (l ++ m) = flowInUse l + flowInUse m := by simp [flowInUse]

theorem requestsFor_cons (r : Request) :
    requestsFor f (r :: l) = if r.stroke.function = f then (r.stroke, r.isActive) :: requestsFor f l
      else requestsFor f l := by
  by_cases h : r.stroke.function = f <;> simp [requestsFor, h]

theorem forksOn_cons (r : Request) :
    forksOn (r :: l) =
      if r.stroke.function = .forkA ∨ r.stroke.function = .forkB then r.stroke :: forksOn l else forksOn l := by
  by_cases h : r.stroke.function = .forkA ∨ r.stroke.function = .forkB <;> simp [forksOn, h]

theorem waitingOn_cons (r : Request) :
    waitingOn (r :: l) = if r.isActive then waitingOn l else r :: waitingOn l := by
  cases h : r.isActive <;> simp [waitingOn, h]

theorem flowInUse_cons (r : Request) :
    flowInUse (r :: l) = if r.isActive then r.stroke.weight + flowInUse l else flowInUse l := by
  cases h : r.isActive <;> simp [flowInUse, h]

theorem ListHolds.congr {c' : Axis → Option (Stroke × Bool)} (h : ListHolds c k l) (hc : ∀ a, c' a = c a) :
    ListHolds c' k l :=
  (funext hc : c' = c) ▸ h

/-! ### A request joins and leaves (R87, R90) -/

/-- A request that joins is at the tail, WAITING and passed by none. -/
theorem ListHolds.join (h : ListHolds c k l) (j : Stroke) {c' : Axis → Option (Stroke × Bool)} {k' : List Stroke}
    (hc : ∀ a, (c a).toList ++ (if j.function = .clamp a then [(j, false)] else []) = (c' a).toList)
    (hk : k ++ (if j.function = .forkA ∨ j.function = .forkB then [j] else []) = k') :
    ListHolds c' k' (l ++ [⟨j, 0, .waiting⟩]) where
  flow := by simpa [flowInUse_cons, Request.isActive, flowInUse] using h.flow
  falling := by
    rw [waitingOn_append, List.pairwise_append]
    refine ⟨h.falling, by simp [Request.isActive, waitingOn], fun r _ q hq => ?_⟩
    simp [Request.isActive, waitingOn] at hq
    simp [hq]
  bypass := by
    intro r hr
    rcases List.mem_append.1 hr with hr | hr
    · exact h.bypass r hr
    · rw [List.mem_singleton.1 hr]; exact Nat.zero_le _
  clamps a := by
    rw [requestsFor_append, h.clamps, ← hc, requestsFor_cons]
    rfl
  forks := by
    rw [forksOn_append, h.forks, ← hk, forksOn_cons]
    rfl

/-- A function's request leaves, and nothing else on the list changes. -/
theorem ListHolds.leave (h : ListHolds c k l) (f : ValveFunction) {c' : Axis → Option (Stroke × Bool)}
    {k' : List Stroke} (hc : ∀ a, (c' a).toList = if f = .clamp a then [] else (c a).toList)
    (hk : k.filter (fun j => j.function != f) = k') :
    ListHolds c' k' (l.filter fun r => r.stroke.function != f) where
  flow := by
    refine Nat.le_trans ?_ h.flow
    rw [flowInUse, flowInUse, List.filter_filter]
    refine List.Sublist.sum_le_sum (List.Sublist.map _ ?_) fun _ _ => Nat.zero_le _
    exact List.monotone_filter_right l fun r hr => by simp_all
  falling := by
    rw [waitingOn, List.filter_comm]
    exact h.falling.filter _
  bypass r hr := h.bypass r (List.mem_of_mem_filter hr)
  clamps a := by
    rw [hc, ← h.clamps]
    simp only [requestsFor, List.filter_filter]
    split
    · next hf =>
      rw [List.map_eq_nil_iff, List.filter_eq_nil_iff]
      simp [hf]
    · next hf =>
      refine congrArg _ (List.filter_congr fun r _ => ?_)
      by_cases hr : r.stroke.function = .clamp a
      · simp [hr, Ne.symm hf]
      · simp [hr]
  forks := by
    rw [← hk, ← h.forks]
    simp only [forksOn, List.filter_map, List.filter_filter]
    refine congrArg _ (List.filter_congr fun r _ => ?_)
    simp [Bool.and_comm]

/-! ### A request is granted (R89) -/

@[simp] theorem passed_stroke (r : Request) : r.passed.stroke = r.stroke := by
  unfold Request.passed
  split <;> rfl

@[simp] theorem passed_isActive (r : Request) : r.passed.isActive = r.isActive := by
  unfold Request.passed
  split <;> rfl

@[simp] theorem requestsFor_passed : requestsFor f (l.map Request.passed) = requestsFor f l := by
  simp [requestsFor, List.filter_map, Function.comp_def]

@[simp] theorem forksOn_passed : forksOn (l.map Request.passed) = forksOn l := by
  simp [forksOn, List.filter_map, Function.comp_def]

@[simp] theorem flowInUse_passed : flowInUse (l.map Request.passed) = flowInUse l := by
  simp [flowInUse, List.filter_map, Function.comp_def]

theorem waitingOn_passed :
    waitingOn (l.map Request.passed) = (waitingOn l).map fun r => { r with bypass := r.bypass + 1 } := by
  simp only [waitingOn, List.filter_map, Function.comp_def, passed_isActive]
  refine List.map_congr_left fun r hr => ?_
  simp only [List.mem_filter, Bool.not_eq_eq_eq_not, Bool.not_true] at hr
  simp [Request.passed, hr.2]

/-- Behind an open barrier no WAITING request has been passed as often as the limit allows. -/
theorem bypass_lt_of_barrier {limit : Nat} (hb : barrier limit l = false)
    (hf : (waitingOn l).Pairwise fun r q => q.bypass ≤ r.bypass) : ∀ r ∈ waitingOn l, r.bypass < limit := by
  unfold barrier at hb
  have hfind : (waitingOn l).head? = l.find? fun r => !r.isActive := List.head?_filter
  rw [← hfind] at hb
  cases hw : waitingOn l with
  | nil => simp
  | cons r rest =>
    rw [hw] at hb hf
    have hr : r.bypass < limit := by simpa using hb
    intro q hq
    rcases List.mem_cons.1 hq with e | hq
    · exact e ▸ hr
    · exact Nat.lt_of_le_of_lt (List.rel_of_pairwise_cons hf hq) hr

/-- A WAITING request that the walk grants is ACTIVE, and those it passes have been passed once more. -/
theorem ListHolds.grant {pre post : List Request} {r : Request} {limit n : Nat} (h : ListHolds c k (pre ++ r :: post))
    (hr : r.isActive = false) (hb : barrier limit pre = false) (hl : limit ≤ 7)
    (hfree : flowInUse (pre ++ r :: post) + r.stroke.weight ≤ Config.flowUnits)
    {c' : Axis → Option (Stroke × Bool)}
    (hc : ∀ a, c' a = if r.stroke.function = .clamp a then some (r.stroke, true) else c a) :
    ListHolds c' k (pre.map Request.passed ++ { r with status := .active n } :: post) := by
  have hactive : ({ r with status := .active n } : Request).isActive = true := rfl
  have hwaiting : waitingOn (pre ++ r :: post) = waitingOn pre ++ r :: waitingOn post := by
    rw [waitingOn_append, waitingOn_cons, hr]; rfl
  have hfalling := h.falling
  rw [hwaiting, List.pairwise_append, List.pairwise_cons] at hfalling
  obtain ⟨hpre, ⟨-, hpost⟩, hcross⟩ := hfalling
  have hlow := bypass_lt_of_barrier hb hpre
  refine ⟨?_, ?_, ?_, fun a => ?_, ?_⟩
  · simp only [flowInUse_append, flowInUse_cons, hr, hactive, flowInUse_passed, if_true, Bool.false_eq_true,
      if_false] at hfree ⊢
    omega
  · rw [waitingOn_append, waitingOn_cons, hactive, waitingOn_passed, if_pos rfl, List.pairwise_append,
      List.pairwise_map]
    refine ⟨hpre.imp fun hqr => Nat.succ_le_succ hqr, hpost, fun p hp q hq => ?_⟩
    obtain ⟨p', hp', rfl⟩ := List.mem_map.1 hp
    exact Nat.le_succ_of_le (hcross p' hp' q (List.mem_cons_of_mem _ hq))
  · intro q hq
    rcases List.mem_append.1 hq with hq | hq
    · obtain ⟨p, hp, rfl⟩ := List.mem_map.1 hq
      unfold Request.passed
      split
      · exact h.bypass p (List.mem_append_left _ hp)
      · next hpa =>
        exact Nat.le_trans (hlow p (List.mem_filter.2 ⟨hp, by simpa using hpa⟩)) hl
    · rcases List.mem_cons.1 hq with rfl | hq
      · exact h.bypass r (by simp)
      · exact h.bypass q (by simp [hq])
  · have hold := h.clamps a
    rw [hc, requestsFor_append, requestsFor_cons, requestsFor_passed]
    rw [requestsFor_append, requestsFor_cons] at hold
    split
    · next hf =>
      rw [if_pos hf] at hold
      cases hca : c a with
      | none => simp [hca] at hold
      | some x =>
        rw [hca] at hold
        obtain ⟨h1, h2⟩ : requestsFor (.clamp a) pre = [] ∧ requestsFor (.clamp a) post = [] := by
          have hlen := congrArg List.length hold
          simp only [List.length_append, List.length_cons, Option.toList_some, List.length_nil] at hlen
          constructor <;> exact List.length_eq_zero_iff.1 (by omega)
        simp [h1, h2, hactive]
    · next hf => rwa [if_neg hf] at hold
  · have hold := h.forks
    rw [forksOn_append, forksOn_cons] at hold ⊢
    rw [forksOn_passed]
    exact hold

/-- A millisecond takes nothing from the list but time. -/
theorem ListHolds.tick (h : ListHolds c k l) : ListHolds c k (l.map fun r => { r with status := r.status.tick }) := by
  have hactive : ∀ r : Request, ({ r with status := r.status.tick } : Request).isActive = r.isActive := fun r => by
    cases hr : r.status <;> simp [Request.isActive, RequestStatus.tick, hr]
  refine ⟨?_, ?_, ?_, fun a => ?_, ?_⟩
  · simpa [flowInUse, List.filter_map, Function.comp_def, hactive] using h.flow
  · simpa [waitingOn, List.filter_map, Function.comp_def, hactive, List.pairwise_map] using h.falling
  · simpa using h.bypass
  · simpa [requestsFor, List.filter_map, Function.comp_def, hactive] using h.clamps a
  · simpa [forksOn, List.filter_map, Function.comp_def] using h.forks

end

end Sys2Proof.Machine

namespace Sys2Proof.Machine

/-! ## The Valve Bank serves its owners

`Served k s` is `ValveSound` with the fork strokes in hand as a parameter: while a change moves from one stroke to the
next, they are not yet those of its record. -/

/-- The list agrees with the clamps and holds the forks `k`, and the clamps' linger timers agree with their states. -/
structure Served (k : List Stroke) (s : State) : Prop where
  list : ListHolds (fun a => (s.clamp a).state.request a) k s.valve.requests
  limit : s.valve.bypassLimit ≤ 7
  absent : ∀ a, clampTakesPart s a = false → (s.clamp a).state.request a = none ∧ (s.clamp a).linger = none
  linger : ∀ a, (s.clamp a).linger.isSome = true → (s.clamp a).state = .released

theorem valveSound_iff (s : State) : ValveSound s ↔ Served (gearInHand s.gear) s := by
  constructor
  · rintro ⟨hflow, hlimit, hfalling, hbypass, hclamps, hforks, habsent, hlinger⟩
    exact ⟨⟨hflow, hfalling, hbypass, hclamps, hforks⟩, hlimit, habsent, hlinger⟩
  · rintro ⟨⟨hflow, hfalling, hbypass, hclamps, hforks⟩, hlimit, habsent, hlinger⟩
    exact ⟨hflow, hlimit, hfalling, hbypass, hclamps, hforks, habsent, hlinger⟩

section

variable {k : List Stroke} {s t : State} {a : Axis}

theorem clampTakesPart_of_params (h : (t.axis a).params = (s.axis a).params) :
    clampTakesPart t a = clampTakesPart s a := by
  unfold clampTakesPart
  rw [h]

theorem clampTakesPart_of_still (h : t.axes.map AxisUnit.still = s.axes.map AxisUnit.still) (a : Axis) :
    clampTakesPart t a = clampTakesPart s a := by
  have hu : ((t.axis a).still).params = ((s.axis a).still).params := by rw [still_axis h a]
  exact clampTakesPart_of_params hu

theorem clampTakesPart_of_wired (h : t.axes.map AxisUnit.wired = s.axes.map AxisUnit.wired) (a : Axis) :
    clampTakesPart t a = clampTakesPart s a := by
  have hu : (t.axis a).wired = (s.axis a).wired := by
    simpa [State.axis] using congrArg (fun p : PerAxis _ => p.get a) h
  exact clampTakesPart_of_params (wired_fields hu).1

/-- Only the list, its limit, the clamps and whether they take part matter. -/
theorem Served.of_eq (h : Served k s) (hl : t.valve.requests = s.valve.requests)
    (hb : t.valve.bypassLimit = s.valve.bypassLimit) (hc : t.clamps = s.clamps)
    (hp : ∀ a, clampTakesPart t a = clampTakesPart s a) : Served k t := by
  have hclamp : ∀ a, t.clamp a = s.clamp a := fun a => by simp [State.clamp, hc]
  obtain ⟨hlist, hlimit, habsent, hlinger⟩ := h
  refine ⟨?_, hb ▸ hlimit, fun a => ?_, fun a => ?_⟩
  · simpa only [hclamp, hl] using hlist
  · rw [hclamp, hp]; exact habsent a
  · rw [hclamp]; exact hlinger a

/-- An operation that moves neither list nor clamps, and axes in their motion alone. -/
theorem Served.of_still (h : Served k s) (hv : t.valve = s.valve) (hc : t.clamps = s.clamps)
    (ha : t.axes.map AxisUnit.still = s.axes.map AxisUnit.still) : Served k t :=
  h.of_eq (by rw [hv]) (by rw [hv]) hc (clampTakesPart_of_still ha)

theorem Served.of_axes (h : Served k s) (hv : t.valve = s.valve) (hc : t.clamps = s.clamps)
    (ha : t.axes = s.axes) : Served k t :=
  h.of_still hv hc (by rw [ha])

theorem Served.setAxis (h : Served k s) {u : AxisUnit} (hu : u.params = (s.axis a).params) :
    Served k (s.setAxis a u) := by
  refine h.of_eq rfl rfl rfl fun c => clampTakesPart_of_params ?_
  by_cases e : c = a
  · rw [e, State.setAxis_axis_same, hu]
  · rw [State.setAxis_axis_ne _ _ e]

/-! ### Rules for a clamp and its request (R95 to R98) -/

/-- A clamp with a linger timer is RELEASED and takes part; so a clamp in another state has none. -/
theorem Served.takesPart_of_request (h : Served k s) {x : Stroke × Bool} (hx : (s.clamp a).state.request a = some x) :
    clampTakesPart s a = true := by
  by_contra hp
  rw [(h.absent a (by simpa using hp)).1] at hx
  cases hx

theorem Served.linger_none (h : Served k s) (hs : (s.clamp a).state ≠ .released) : (s.clamp a).linger = none := by
  by_contra hl
  exact hs (h.linger a (Option.isSome_iff_ne_none.2 hl))

theorem Served.takesPart_of_linger (h : Served k s) (hl : (s.clamp a).linger.isSome = true) :
    clampTakesPart s a = true := by
  by_contra hp
  rw [(h.absent a (by simpa using hp)).2] at hl
  cases hl

/-- What a clamp may become beside its request. -/
structure ClampFits (s : State) (a : Axis) (c : Clamp) : Prop where
  linger : c.linger.isSome = true → c.state = .released
  absent : clampTakesPart s a = false → c.state.request a = none ∧ c.linger = none

/-- A clamp changes together with the list that answers for it. -/
theorem Served.replaceClamp {k' : List Stroke} (h : Served k s) {c : Clamp} (hc : ClampFits s a c) {l : List Request}
    (hl : ListHolds (fun d => if d = a then c.state.request a else (s.clamp d).state.request d) k' l) :
    Served k' { s.setClamp a c with valve := { s.valve with requests := l } } := by
  have hclamp : ∀ d, State.clamp { s.setClamp a c with valve := { s.valve with requests := l } } d
      = if d = a then c else s.clamp d := by
    intro d
    split
    · next e => subst e; exact State.setClamp_clamp_same s d c
    · next e => exact State.setClamp_clamp_ne s c e
  refine ⟨?_, h.limit, fun d => ?_, fun d => ?_⟩
  · refine hl.congr fun d => ?_
    rw [hclamp]
    split
    · next e => rw [e]
    · rfl
  · rw [hclamp]
    split
    · next e => exact e ▸ hc.absent
    · exact h.absent d
  · rw [hclamp]
    split
    · exact hc.linger
    · exact h.linger d

/-- A clamp changes and its request stands. -/
theorem Served.setClamp (h : Served k s) {c : Clamp} (hr : c.state.request a = (s.clamp a).state.request a)
    (hl : c.linger.isSome = true → c.state = .released) (hp : clampTakesPart s a = false → c.linger = none) :
    Served k (s.setClamp a c) := by
  refine h.replaceClamp (l := s.valve.requests) ⟨hl, fun hn => ⟨?_, hp hn⟩⟩ ?_
  · rw [hr]; exact (h.absent a hn).1
  · refine h.list.congr fun d => ?_
    split
    · next e => rw [e, hr]
    · rfl

/-- A clamp with no request of its own joins the list with one. -/
theorem Served.joinClamp (h : Served k s) {c : Clamp} {j : Stroke} (hj : j.function = .clamp a)
    (hn : (s.clamp a).state.request a = none) (hr : c.state.request a = some (j, false)) (hl : c.linger = none)
    (hp : clampTakesPart s a = true) : Served k (joinRequest j (s.setClamp a c)) := by
  refine h.replaceClamp ⟨fun e => by simp [hl] at e, fun e => by simp [hp] at e⟩
    (h.list.join j (fun d => ?_) (by simp [hj]))
  by_cases e : d = a
  · subst e; simp [hn, hr, hj]
  · simp [hj, e, Ne.symm e]

/-- The request of a clamp leaves the list, and the clamp has none. -/
theorem Served.leaveClamp (h : Served k s) {c : Clamp} (hr : c.state.request a = none)
    (hl : c.linger.isSome = true → c.state = .released) (hp : clampTakesPart s a = false → c.linger = none) :
    Served k (removeRequest (.clamp a) (s.setClamp a c)) := by
  have hk : k.filter (fun j => j.function != .clamp a) = k := by
    rw [List.filter_eq_self, ← h.list.forks]
    intro j hj
    obtain ⟨r, hr, rfl⟩ := List.mem_map.1 hj
    have hf := (List.mem_filter.1 hr).2
    simp only [Bool.or_eq_true, beq_iff_eq] at hf
    rcases hf with hf | hf <;> simp [hf]
  refine h.replaceClamp ⟨hl, fun e => ⟨hr, hp e⟩⟩ (h.list.leave (.clamp a) (fun d => ?_) hk)
  by_cases e : d = a
  · subst e; simp [hr]
  · simp [e, Ne.symm e]

/-! ### Rules for a fork and its request (R91, R133) -/

@[simp] theorem joinRequest_clamp (j : Stroke) (s : State) (a : Axis) : (joinRequest j s).clamp a = s.clamp a := rfl

@[simp] theorem removeRequest_clamp (f : ValveFunction) (s : State) (a : Axis) :
    (removeRequest f s).clamp a = s.clamp a := rfl

theorem Served.joinFork (h : Served [] s) (f : ForkStroke) : Served [.fork f] (joinRequest (.fork f) s) := by
  have hf : (Stroke.fork f).function = .forkA ∨ (Stroke.fork f).function = .forkB := by
    cases f
    · exact .inl rfl
    · exact .inr rfl
  obtain ⟨hlist, hlimit, habsent, hlinger⟩ := h
  refine ⟨hlist.join (.fork f) (fun d => ?_) (by simp [hf]), hlimit, habsent, hlinger⟩
  rcases hf with hf | hf <;> simp [hf]

theorem Served.leaveFork {f : ForkStroke} (h : Served [.fork f] s) :
    Served [] (removeRequest (Stroke.fork f).function s) := by
  obtain ⟨hlist, hlimit, habsent, hlinger⟩ := h
  refine ⟨hlist.leave _ (fun d => ?_) (by simp), hlimit, habsent, hlinger⟩
  cases f <;> simp [Stroke.function]

end

end Sys2Proof.Machine

namespace Sys2Proof.Machine

section

variable {k : List Stroke} {s t : State} {a : Axis}

/-! ### The Gear Sequencer's strokes (R130 to R139)

An operation of a change is met with the list in hand, mostly with no fork on it, and leaves a list that agrees with the
record. -/

theorem ValveSound.served (h : ValveSound s) (hk : gearInHand s.gear = k) : Served k s :=
  hk ▸ (valveSound_iff s).1 h

theorem Served.sound (h : Served k s) (hk : gearInHand s.gear = k) : ValveSound s :=
  (valveSound_iff s).2 (hk ▸ h)

theorem gearInHand_of_step {g : GearSequencer} (h1 : g.step ≠ .stroke) (h2 : g.step ≠ .ending) : gearInHand g = [] := by
  unfold gearInHand
  split <;> first | rfl | contradiction

theorem gearInHand_idle {g : GearSequencer} (h : g.step = .idle) : gearInHand g = [] :=
  gearInHand_of_step (by simp [h]) (by simp [h])

theorem gearInHand_stroking {g : GearSequencer} (h : g.step = .stroke ∨ g.step = .ending) :
    gearInHand g = (g.stroke.map Stroke.fork).toList := by
  unfold gearInHand
  rcases h with h | h <;> rw [h] <;> cases g.stroke <;> rfl

theorem ValveSound.of_still (h : ValveSound s) (hv : t.valve = s.valve) (hc : t.clamps = s.clamps)
    (ha : t.axes.map AxisUnit.still = s.axes.map AxisUnit.still) (hg : gearInHand t.gear = gearInHand s.gear) :
    ValveSound t :=
  ((h.served rfl).of_still hv hc ha).sound hg

theorem ValveSound.of_axes (h : ValveSound s) (hv : t.valve = s.valve) (hc : t.clamps = s.clamps)
    (ha : t.axes = s.axes) (hg : gearInHand t.gear = gearInHand s.gear) : ValveSound t :=
  h.of_still hv hc (by rw [ha]) hg

theorem ValveSound.takesPart_of_request (h : ValveSound s) {x : Stroke × Bool}
    (hx : (s.clamp a).state.request a = some x) : clampTakesPart s a = true :=
  (h.served rfl).takesPart_of_request hx

/-- A clamp changes beside the Gear Sequencer. -/
theorem ValveSound.of_served (h : ValveSound s) (hg : t.gear = s.gear)
    (hs : ∀ k, Served k s → Served k t) : ValveSound t :=
  (hs _ (h.served rfl)).sound (by rw [hg])

@[simp] theorem coolantChangeEnds_step (s : State) : (coolantChangeEnds s).gear = s.gear := by simp

theorem settleChange_step (s : State) : (settleChange s).gear.step = .idle := by
  unfold settleChange
  dsimp only
  split <;> simp

theorem gearFault_step (s : State) : (gearFault s).gear.step = .idle := by rw [gearFault_gear]

theorem Served.settleChange (h : Served [] s) : ValveSound (settleChange s) :=
  (h.of_axes (by simp) (by simp) (by simp)).sound (gearInHand_idle (settleChange_step s))

theorem Served.requestStroke (h : Served [] s) (f : ForkStroke) : ValveSound (requestStroke f s) := by
  have hrecord : Served [] { s with
      gear := { s.gear with step := .stroke, stroke := some f, engaging := strokeEngages s.gear.switches f } } :=
    h.of_axes rfl rfl rfl
  exact (hrecord.joinFork f).sound rfl

theorem Served.requestFresh (h : Served [] s) (f : ForkStroke) : ValveSound (requestFresh f s) := by
  have hfresh : Served [] { s with gear := { s.gear with attempts := 0 } } := h.of_axes rfl rfl rfl
  exact hfresh.requestStroke f

theorem Served.planFirst (h : Served [] s) : ValveSound (planFirst s) := by
  unfold Machine.planFirst
  split
  · exact h.settleChange
  · exact h.requestStroke _

theorem Served.beginChange (h : Served [] s) (g : GearTarget) (o : Owner) : ValveSound (beginChange g o s) := by
  unfold Machine.beginChange
  dsimp only
  split
  · exact Served.planFirst (h.of_axes (by simp) (by simp) (by simp))
  · exact (h.of_axes (by simp) (by simp) (by simp)).sound (gearInHand_of_step (by simp) (by simp))

theorem Served.gearFault (h : Served [] s) : ValveSound (gearFault s) :=
  (h.of_axes (by simp) (by simp) (by simp)).sound (gearInHand_idle (gearFault_step s))

theorem Served.failedAttempt (h : Served [] s) : ValveSound (failedAttempt s) := by
  rw [failedAttempt_eq]
  split
  · exact (h.of_axes (by simp) (by simp) (by simp)).sound (gearInHand_of_step (by simp) (by simp))
  · exact Served.gearFault (h.of_axes (by simp) (by simp) (by simp))

theorem Served.strokeSucceeded (h : Served [] s) : ValveSound (strokeSucceeded s) := by
  have hended : Served [] (endCreep s) := h.of_axes (by simp) (by simp) (by simp)
  unfold Machine.strokeSucceeded
  dsimp only
  split
  · exact hended.settleChange
  · split
    · exact hended.failedAttempt
    · exact hended.requestFresh _

theorem Served.pauseEnds (h : Served [] s) : ValveSound (pauseEnds s) := by
  have hended : Served [] { s with gear := { s.gear with pauseTimer := none } } := h.of_axes rfl rfl rfl
  unfold Machine.pauseEnds
  dsimp only
  split
  · exact hended.settleChange
  · split
    · exact hended.requestStroke _
    · exact hended.requestFresh _

theorem ValveSound.retarget (h : ValveSound s) (g : GearTarget) (o : Owner) : ValveSound (retarget g o s) := by
  have htarget : ∀ p, Served (gearInHand s.gear)
      { s with gear := { s.gear with target := some g, owner := some o, attempts := 0, pauseTimer := p } } :=
    fun p => (h.served rfl).of_axes rfl rfl rfl
  unfold Machine.retarget
  dsimp only
  split
  · next hstep =>
    rw [gearInHand_of_step (by simp [hstep]) (by simp [hstep])] at htarget
    exact (htarget none).planFirst
  all_goals exact (htarget s.gear.pauseTimer).sound rfl

theorem ValveSound.commandAtIdle (h : ValveSound s) (hstep : s.gear.step = .idle) (o : Owner) (speed : Nat)
    (forced : Option GearRange) : ValveSound (commandAtIdle o speed forced s) := by
  unfold Machine.commandAtIdle
  split
  · exact h
  · split
    · exact h
    · split
      · exact (h.served (gearInHand_idle hstep)).beginChange _ _
      · split
        · exact h.of_axes (by simp) (by simp) (by simp) (by simp)
        · exact h

theorem ValveSound.commandInChange (h : ValveSound s) (o : Owner) (speed : Nat) (forced : Option GearRange) :
    ValveSound (commandInChange o speed forced s) := by
  have howner : ValveSound { s with gear := { s.gear with owner := some o } } := h.of_axes rfl rfl rfl rfl
  unfold Machine.commandInChange
  split
  · exact h
  · split
    · exact howner
    · split
      · exact howner
      · exact h.retarget _ _

theorem ValveSound.gearCommand (h : ValveSound s) (o : Owner) (speed : Nat) (forced : Option GearRange) :
    ValveSound (gearCommand o speed forced s) := by
  unfold Machine.gearCommand
  split
  · next hstep => exact h.commandAtIdle hstep o speed forced
  · exact h.of_axes rfl rfl rfl rfl
  all_goals exact h.commandInChange o speed forced

theorem ValveSound.takeDeferred (h : ValveSound s) (hstep : s.gear.step = .idle) : ValveSound (takeDeferred s) := by
  unfold Machine.takeDeferred
  split
  · exact h
  · next d _ =>
    have hgone : ValveSound { s with gear := { s.gear with deferred := none } } := h.of_axes rfl rfl rfl rfl
    exact (hgone.commandAtIdle hstep d.owner d.speed d.forced).of_axes (by simp) (by simp) (by simp) (by simp)

theorem Served.endAbortedChange (h : Served [] s) : ValveSound (endAbortedChange s) := by
  have hidle : ∀ t : State, t.gear.step = .idle → (coolantChangeEnds (deriveState t)).gear.step = .idle :=
    fun t ht => by simpa using ht
  refine ValveSound.takeDeferred ?_ (hidle _ rfl)
  exact (h.of_axes (by simp) (by simp) (by simp)).sound (gearInHand_idle (hidle _ rfl))

/-- A fork stroke's end reaches the change once its request is gone (R90, R91). -/
theorem Served.forkOutcome (h : Served [] s) (hstep : s.gear.step = .stroke ∨ s.gear.step = .ending) (success : Bool) :
    ValveSound (forkOutcome success s) := by
  unfold Machine.forkOutcome
  split
  · exact h.endAbortedChange
  · split
    · exact h.strokeSucceeded
    · exact h.failedAttempt
  all_goals simp_all

/-- In STOPPING and PAUSE no stroke is in hand, and the change ends at once (R139). -/
theorem gearAbort_aborts (h : s.gear.step = .stopping ∨ s.gear.step = .pause) :
    gearAbort s = endAbortedChange (changeAborted s) := by
  rcases h with h | h <;> simp [gearAbort, changeAborted, h]

theorem ValveSound.gearAbort (h : ValveSound s) : ValveSound (gearAbort s) := by
  have hends : s.gear.step = .stopping ∨ s.gear.step = .pause → ValveSound (Machine.gearAbort s) := fun hstep => by
    rw [gearAbort_aborts hstep]
    refine Served.endAbortedChange ((h.served (gearInHand_of_step ?_ ?_)).of_axes (by simp) (by simp) (by simp))
    all_goals rcases hstep with e | e <;> simp [e]
  have hwaits : s.gear.step = .stroke ∨ s.gear.step = .ending → ValveSound (Machine.gearAbort s) := fun hstep => by
    rw [gearAbort_waits hstep]
    refine h.of_axes (by simp) (by simp) (by simp) ?_
    rw [gearInHand_stroking hstep, gearInHand_stroking (.inr rfl)]
    rfl
  cases hstep : s.gear.step with
  | idle => simpa [Machine.gearAbort, hstep] using h
  | stroke | ending => exact hwaits (by simp [hstep])
  | stopping | pause => exact hends (by simp [hstep])

theorem Served.gearTrip (h : Served [] s) (wasActive : Bool) : ValveSound (gearTrip wasActive s) := by
  refine (h.of_axes (by simp) (by simp) (by simp)).sound (gearInHand_idle ?_)
  unfold Machine.gearTrip
  split
  · assumption
  · dsimp only
    split
    · simp [holdGearbox]
    · simp

end

end Sys2Proof.Machine

namespace Sys2Proof.Machine

section

variable {k : List Stroke} {s t : State} {a : Axis}

/-! ### The ends of clamp strokes (R96 to R98) -/

/-- A clamp's request on the list is the one its state names. -/
theorem Served.request_of_mem (h : Served k s) {r : Request} (hr : r ∈ s.valve.requests)
    (hf : r.stroke.function = .clamp a) : (s.clamp a).state.request a = some (r.stroke, r.isActive) := by
  have hmem : (r.stroke, r.isActive) ∈ requestsFor (.clamp a) s.valve.requests :=
    List.mem_map.2 ⟨r, List.mem_filter.2 ⟨hr, by simp [hf]⟩, rfl⟩
  rw [h.list.clamps a] at hmem
  simpa using hmem

theorem Served.fork_of_mem (h : Served k s) {r : Request} (hr : r ∈ s.valve.requests) {f : ForkStroke}
    (hf : r.stroke = .fork f) : Stroke.fork f ∈ k := by
  rw [← h.list.forks]
  refine List.mem_map.2 ⟨r, List.mem_filter.2 ⟨hr, ?_⟩, hf⟩
  rw [hf]
  cases f <;> rfl

/-- A RELEASED clamp that takes part asks for the engage (R97). -/
theorem Served.lingerExpires (h : Served k s) (hs : (s.clamp a).state = .released)
    (hp : clampTakesPart s a = true) : Served k (lingerExpires a s) := by
  have heq : Machine.lingerExpires a s =
      joinRequest (.engage a) (s.setClamp a { s.clamp a with state := .engageWait, linger := none }) := by
    simp [Machine.lingerExpires, setClampState, setLinger]
  rw [heq]
  exact h.joinClamp rfl (by simp [hs, ClampState.request]) rfl rfl hp

theorem Served.setLinger_none (h : Served k s) : Served k (setLinger a none s) :=
  h.setClamp rfl (by simp) (fun _ => rfl)

theorem Served.startLinger (h : Served k s) (hs : (s.clamp a).state = .released)
    (hp : clampTakesPart s a = true) : Served k (startLinger a s) := by
  unfold Machine.startLinger
  split
  · exact h
  · split
    · exact h.lingerExpires hs hp
    · exact h.setClamp rfl (fun _ => hs) (fun e => by simp [hp] at e)

theorem Served.startMoving (h : Served k s) : Served k (startMoving a s) :=
  h.of_still (by simp) (by simp) (by simp)

theorem Served.releaseSucceeded (h : Served k s) (hp : clampTakesPart s a = true) :
    Served k (releaseSucceeded a (removeRequest (.clamp a) s)) := by
  have hleft : Served k (setClampState a .released (removeRequest (.clamp a) s)) :=
    h.leaveClamp (c := { s.clamp a with state := .released }) rfl (fun _ => rfl) (fun e => by simp [hp] at e)
  have hstate : ((Machine.startMoving a (setClampState a .released (removeRequest (.clamp a) s))).clamp a).state
      = .released := by
    simp [State.clamp, setClampState]
  have hpart : clampTakesPart (Machine.startMoving a (setClampState a .released (removeRequest (.clamp a) s))) a
      = true := by
    rw [clampTakesPart_of_still (s := s) (by simp)]
    exact hp
  unfold Machine.releaseSucceeded
  dsimp only
  split
  · exact hleft.startMoving.startLinger hstate hpart
  · exact hleft.startMoving

theorem Served.engageSucceeded (h : Served k s) (hp : clampTakesPart s a = true)
    (hs : (s.clamp a).state ≠ .released) : Served k (engageSucceeded a (removeRequest (.clamp a) s)) := by
  have hlinger := h.linger_none hs
  have hleft : ∀ v, Served k
      (removeRequest (.clamp a) (s.setClamp a { s.clamp a with state := .engaged, releasePending := v })) :=
    fun v => h.leaveClamp rfl (by simp [hlinger]) (fun _ => hlinger)
  unfold Machine.engageSucceeded
  split
  · split
    · have hjoined := (hleft false).joinClamp (a := a) (j := .release a)
        (c := { s.clamp a with state := .releaseWait, releasePending := false }) rfl (by simp [ClampState.request]) rfl
        hlinger hp
      simpa [setClampState, setReleasePending, removeRequest, State.setClamp, State.clamp] using hjoined
    · have heq : setClampState a .engaged (setReleasePending a false (removeRequest (.clamp a) s)) =
          removeRequest (.clamp a) (s.setClamp a { s.clamp a with state := .engaged, releasePending := false }) := by
        simp [setClampState, setReleasePending, removeRequest, State.setClamp, State.clamp]
      rw [heq]
      exact hleft false
  · exact hleft (s.clamp a).releasePending

theorem Served.endClampWait (h : Served k s) : Served k (endClampWait a s) :=
  h.of_still (by simp) (by simp) (by simp)

theorem Served.raiseFault (h : Served k s) (c : FaultCode) (q : Qualifier) : Served k (raiseFault c q s) :=
  h.of_axes (by simp) (by simp) (by simp)

theorem Served.clampTimedOut (h : Served k s) : Served k (clampTimedOut a (removeRequest (.clamp a) s)) := by
  rw [clampTimedOut_eq]
  have hleft : Served k (removeRequest (.clamp a) (s.setClamp a ⟨.fault, false, none, (s.clamp a).switchClosed⟩)) :=
    h.leaveClamp rfl (by simp) (fun _ => rfl)
  refine Served.endClampWait (Served.of_axes hleft ?_ ?_ ?_)
  · simp [removeRequest]
  · simp
  · simp

/-- A stroke that is on the list ends, in success or not, and its owner takes the outcome (R90). -/
theorem ValveSound.strokeEnds (h : ValveSound s) {r : Request} (hr : r ∈ s.valve.requests)
    (success : Bool) : ValveSound (strokeEnds r.stroke success s) := by
  have hserved := h.served rfl
  have hclamp : ∀ c, r.stroke.function = .clamp c → clampTakesPart s c = true := fun c hc =>
    hserved.takesPart_of_request (hserved.request_of_mem hr hc)
  cases hk : r.stroke with
  | release c =>
    have hpart := hclamp c (by rw [hk]; rfl)
    cases success with
    | true => exact (hserved.releaseSucceeded hpart).sound (by simp)
    | false => exact hserved.clampTimedOut.sound (by simp)
  | engage c =>
    have hpart := hclamp c (by rw [hk]; rfl)
    cases success with
    | true =>
      refine (hserved.engageSucceeded hpart fun hs => ?_).sound (by simp)
      have hreq := hserved.request_of_mem (a := c) hr (by rw [hk]; rfl)
      simp [hs, ClampState.request] at hreq
    | false => exact hserved.clampTimedOut.sound (by simp)
  | fork f =>
    have hmem := hserved.fork_of_mem hr hk
    have hstep : s.gear.step = .stroke ∨ s.gear.step = .ending := by
      by_contra hno
      simp only [not_or] at hno
      rw [gearInHand_of_step hno.1 hno.2] at hmem
      cases hmem
    have hhand : gearInHand s.gear = [.fork f] := by
      rw [gearInHand_stroking hstep] at hmem ⊢
      cases hstroke : s.gear.stroke with
      | none => simp [hstroke] at hmem
      | some g => simpa [hstroke, eq_comm] using hmem
    exact ((h.served hhand).leaveFork).forkOutcome (by simpa using hstep) success

/-! ### The grant walk (R88, R89) -/

/-- A stroke granted, as the walk writes it on the list and its owner hears it. -/
def grantedAt (pre : List Request) (r : Request) (post : List Request) (s : State) : State :=
  strokeGranted r.stroke
    { s with
      valve :=
        { s.valve with
          requests := pre.map Request.passed ++ { r with status := .active (strokeLimit s.valve r.stroke) } :: post } }

/-- What a walk grants is added to what it was given as granted. -/
theorem walk_granted_append (v : ValveBank) (ahead l : List Request) (free : Nat) (granted : List Stroke) :
    walk v ahead free l granted = ((walk v ahead free l []).1, granted ++ (walk v ahead free l []).2) := by
  induction l generalizing ahead free granted with
  | nil => simp [walk]
  | cons r rest ih =>
    unfold walk
    split
    · exact ih ..
    · split
      · simp
      · split
        · rw [ih _ _ (granted ++ [r.stroke]), ih _ _ ([] ++ [r.stroke])]
          simp
        · exact ih ..

/-- The grant of a stroke does not look at the list. -/
theorem strokeGranted_requests (j : Stroke) (l : List Request) (s : State) :
    strokeGranted j { s with valve := { s.valve with requests := l } } =
      { strokeGranted j s with valve := { s.valve with requests := l } } := by
  cases j with
  | release a => rfl
  | engage a => rfl
  | fork f =>
    simp only [strokeGranted, forkGranted]
    split <;> rfl

/-- What each single grant of a walk keeps, the walk keeps. -/
theorem grantWalk_keeps {P : State → Prop}
    (hgrant : ∀ t pre r post, P t → t.valve.requests = pre ++ r :: post → r.isActive = false →
      barrier t.valve.bypassLimit pre = false → flowInUse t.valve.requests + r.stroke.weight ≤ Config.flowUnits →
      P (grantedAt pre r post t))
    (hs : P s) (hflow : flowInUse s.valve.requests ≤ Config.flowUnits) : P (grantWalk s) := by
  have hwalk : ∀ (l ahead : List Request) (free : Nat) (t : State) (v : ValveBank), P t →
      t.valve.requests = ahead ++ l → v = { t.valve with requests := v.requests } →
      flowInUse t.valve.requests + free ≤ Config.flowUnits →
      P ((walk v ahead free l []).2.foldl (fun u j => strokeGranted j u)
        { t with valve := { t.valve with requests := (walk v ahead free l []).1 } }) := by
    intro l
    induction l with
    | nil =>
      intro ahead free t v ht hl _ _
      simp only [walk, List.foldl_nil]
      rw [← List.append_nil ahead, ← hl]
      exact ht
    | cons r rest ih =>
      intro ahead free t v ht hl hv hfree
      have hshift : t.valve.requests = (ahead ++ [r]) ++ rest := by rw [hl, List.append_assoc]; rfl
      unfold walk
      split
      · exact ih _ _ t v ht hshift hv hfree
      · next hwaits =>
        have hstop : P { t with valve := { t.valve with requests := ahead ++ r :: rest } } := by
          rw [← hl]; exact ht
        split
        · exact hstop
        · next hopen =>
          split
          · next hfits =>
            obtain ⟨hb, hk⟩ : v.bypassLimit = t.valve.bypassLimit ∧ strokeLimit v r.stroke = strokeLimit t.valve r.stroke := by
              rw [hv]
              exact ⟨rfl, by cases r.stroke <;> rfl⟩
            have hwaiting : r.isActive = false := by simpa using hwaits
            have hgranted := hgrant t ahead r rest ht hl hwaiting (by simpa [← hb] using hopen) (by omega)
            have hnext := ih (ahead.map Request.passed ++ [{ r with status := .active (strokeLimit v r.stroke) }])
              (free - r.stroke.weight) _ v hgranted (by simp [grantedAt, hk]) (by rw [hv]; simp [grantedAt]) (by
                rw [hl, flowInUse_append, flowInUse_cons, hwaiting] at hfree
                simp only [grantedAt, strokeGranted_frame, flowInUse_append, flowInUse_cons, flowInUse_passed]
                simp only [Request.isActive, Bool.false_eq_true, if_false, if_true] at hfree ⊢
                omega)
            rw [walk_granted_append, List.foldl_append]
            simp only [grantedAt, strokeGranted_requests] at hnext
            simpa [strokeGranted_requests] using hnext
          · exact ih _ _ t v ht hshift hv hfree
  unfold grantWalk
  split
  · exact hwalk _ _ _ s s.valve hs rfl rfl (by omega)
  · exact hs

end

end Sys2Proof.Machine

namespace Sys2Proof.Machine

section

variable {k : List Stroke} {s t : State} {a : Axis}

/-- A clamp hears of its grant, as the list does (R96, R98). -/
theorem Served.grantClamp (h : Served k s) {pre post : List Request} {r : Request} {σ : ClampState}
    (hl : s.valve.requests = pre ++ r :: post) (hr : r.isActive = false)
    (hb : barrier s.valve.bypassLimit pre = false)
    (hfree : flowInUse s.valve.requests + r.stroke.weight ≤ Config.flowUnits)
    (hf : r.stroke.function = .clamp a) (hσ : σ.request a = some (r.stroke, true)) (n : Nat) :
    Served k
      { s.setClamp a { s.clamp a with state := σ } with
        valve :=
          { s.valve with requests := pre.map Request.passed ++ { r with status := .active n } :: post } } := by
  have hreq := h.request_of_mem (a := a) (r := r) (by simp [hl]) hf
  have hlinger : (s.clamp a).linger = none := h.linger_none fun hs => by simp [hs, ClampState.request] at hreq
  rw [hl] at hfree
  refine h.replaceClamp ⟨by simp [hlinger], fun hp => ?_⟩
    ((hl ▸ h.list).grant hr hb h.limit hfree fun d => ?_)
  · rw [h.takesPart_of_request hreq] at hp
    cases hp
  · by_cases e : d = a
    · subst e; simp [hf, hσ]
    · simp [hf, e, Ne.symm e]

theorem ValveSound.grantedAt (h : ValveSound s) {pre post : List Request} {r : Request}
    (hl : s.valve.requests = pre ++ r :: post) (hr : r.isActive = false)
    (hb : barrier s.valve.bypassLimit pre = false)
    (hfree : flowInUse s.valve.requests + r.stroke.weight ≤ Config.flowUnits) :
    ValveSound (grantedAt pre r post s) := by
  have hserved := h.served rfl
  obtain ⟨j, b, st⟩ := r
  unfold Machine.grantedAt
  rw [strokeGranted_requests]
  cases j with
  | release c => exact (hserved.grantClamp hl hr hb hfree (a := c) (σ := .releasing) rfl rfl _).sound rfl
  | engage c => exact (hserved.grantClamp hl hr hb hfree (a := c) (σ := .engaging) rfl rfl _).sound rfl
  | fork f =>
    have hnot : ∀ d, (Stroke.fork f).function ≠ .clamp d := fun d => by cases f <;> simp [Stroke.function]
    obtain ⟨hlist, hlimit, habsent, hlinger⟩ := hserved
    have hlater := (hl ▸ hlist).grant (n := strokeLimit s.valve (.fork f)) hr hb hlimit (hl ▸ hfree)
      (c' := fun a => (s.clamp a).state.request a) fun d => by simp [hnot d]
    refine Served.sound (k := gearInHand s.gear) ⟨?_, by simpa using hlimit, fun d => ?_, fun d => ?_⟩ ?_
    · simpa [strokeGranted, forkGranted_frame, State.clamp] using hlater
    · simpa [strokeGranted, State.clamp, clampTakesPart, State.axis] using habsent d
    · simpa [strokeGranted, State.clamp] using hlinger d
    · simp only [strokeGranted, forkGranted]
      split
      · simp [gearInHand]
      · rfl

theorem ValveSound.flow (h : ValveSound s) : flowInUse s.valve.requests ≤ Config.flowUnits := (h.served rfl).list.flow

theorem ValveSound.grantWalk (h : ValveSound s) : ValveSound (grantWalk s) :=
  grantWalk_keeps (P := ValveSound) (fun _ _ _ _ ht hl hr hb hfree => ht.grantedAt hl hr hb hfree) h h.flow

theorem ValveSound.settleStrokes (h : ValveSound s) (n : Nat) : ValveSound (settleStrokes n s) := by
  induction n generalizing s with
  | zero => exact h
  | succ n ih =>
    unfold Machine.settleStrokes
    split
    · exact h
    · next r hr => exact ih (h.strokeEnds (List.mem_of_find?_eq_some hr) true).grantWalk

theorem ValveSound.grantOpportunity (h : ValveSound s) : ValveSound (grantOpportunity s) := h.grantWalk.settleStrokes 32

theorem ValveSound.withOpportunity {f : State → State} (h : ValveSound (f s)) : ValveSound (withOpportunity f s) := by
  rcases withOpportunity_cases f s with ⟨-, e⟩ | ⟨-, e⟩ <;> rw [e]
  · exact h
  · exact h.grantOpportunity

/-! ### Asking for release (R94, R95) -/

theorem Served.askClamp (h : Served k s) (hp : clampTakesPart s a = true) : Served k (askClamp a s) := by
  unfold Machine.askClamp
  split
  · next hs =>
    exact h.joinClamp (c := { s.clamp a with state := .releaseWait }) rfl (by simp [hs, ClampState.request]) rfl
      (h.linger_none (by simp [hs])) hp
  · exact h
  · exact h
  · exact h.setLinger_none
  · next hs =>
    split
    · exact h.leaveClamp (c := { s.clamp a with state := .released }) rfl (fun _ => rfl) (fun e => by simp [hp] at e)
    · exact h.setClamp rfl (h.linger a) (fun e => by simp [hp] at e)
  · exact h.setClamp rfl (h.linger a) (fun e => by simp [hp] at e)
  · next hs =>
    have heq : joinRequest (.engage a) (setReleasePending a true (setClampState a .engageWait s)) =
        joinRequest (.engage a) (s.setClamp a { s.clamp a with state := .engageWait, releasePending := true }) := by
      simp [setClampState, setReleasePending]
    rw [heq]
    exact h.joinClamp rfl (by simp [hs, ClampState.request]) rfl (h.linger_none (by simp [hs])) hp
  · exact h.endClampWait

theorem clampTakesPart_of_needed (h : clampNeeded s a = true) : clampTakesPart s a = true := by
  simp only [clampNeeded, Bool.and_eq_true] at h
  exact h.1

theorem ValveSound.startMoving (h : ValveSound s) : ValveSound (startMoving a s) :=
  h.of_served (by simp) fun _ hk => hk.startMoving

theorem ValveSound.askRelease (h : ValveSound s) : ValveSound (askRelease a s) := by
  have goesOn : ∀ t, ValveSound t → ValveSound (if clampReleased t a then Machine.startMoving a t else t) := by
    intro t ht
    split
    · exact ht.startMoving
    · exact ht
  refine goesOn _ ?_
  split
  · next hn =>
    exact .withOpportunity (h.of_served (by simp) fun _ hk => hk.askClamp (clampTakesPart_of_needed hn))
  · exact h

theorem Served.cancelLinger (h : Served k s) : Served k (cancelLinger a s) := by
  unfold Machine.cancelLinger
  split
  · exact h
  · exact h.setLinger_none

theorem ValveSound.cancelLinger (h : ValveSound s) : ValveSound (cancelLinger a s) :=
  h.of_served (by simp) fun _ hk => hk.cancelLinger

theorem ValveSound.setAxis {u : AxisUnit} (h : ValveSound s) (hu : u.params = (s.axis a).params) :
    ValveSound (s.setAxis a u) :=
  h.of_served rfl fun _ hk => hk.setAxis hu

/-- A RELEASED clamp engages at once, with the opportunity that its request makes (R88, R97). -/
theorem ValveSound.lingerExpires (h : ValveSound s) (hs : (s.clamp a).state = .released)
    (hp : clampTakesPart s a = true) : ValveSound (lingerExpires a s) :=
  h.of_served (by simp) fun _ hk => hk.lingerExpires hs hp

theorem ValveSound.startLinger (h : ValveSound s) (hs : (s.clamp a).state = .released)
    (hp : clampTakesPart s a = true) : ValveSound (startLinger a s) :=
  h.of_served (by simp) fun _ hk => hk.startLinger hs hp

/-! ### Spindle commands and demands (R19, R107) -/

theorem ValveSound.handSpeed (h : ValveSound s) (o : Owner) (speed : Nat) (forced : Option GearRange) :
    ValveSound (handSpeed o speed forced s) :=
  (h.gearCommand o speed forced).of_axes (by simp [Machine.handSpeed]) (by simp [Machine.handSpeed])
    (by simp [Machine.handSpeed]) (by simp [Machine.handSpeed])

theorem ValveSound.spindleCommand (h : ValveSound s) (o : Owner) (speed : Nat) (d : Rotation)
    (forced : Option GearRange) : ValveSound (spindleCommand o speed d forced s) := by
  have htaken : ValveSound
      { s with spindle := { s.spindle with sProg := speed, commandedDir := d, stoppedByOperator := false } } :=
    h.of_axes rfl rfl rfl rfl
  unfold Machine.spindleCommand
  split
  · exact h.of_axes (by simp) (by simp) (by simp) (by simp)
  · exact .withOpportunity (htaken.handSpeed o speed forced)

theorem ValveSound.giveDemand (h : ValveSound s) (d : JogDemand) : ValveSound (giveDemand a d s) := by
  have hjog : ∀ m p v, ValveSound (s.setAxis a { s.axis a with motion := m, demand := d, p := p, velocity := v }) :=
    fun _ _ _ => h.setAxis rfl
  unfold Machine.giveDemand
  split
  · split
    · exact ValveSound.askRelease (ValveSound.cancelLinger (hjog _ _ _))
    · exact hjog _ _ _
    · exact hjog _ _ _
    · exact hjog _ _ _
    · exact h
  · exact h

theorem ValveSound.giveStop (h : ValveSound s) : ValveSound (giveStop a s) :=
  h.of_still (by simp) (by simp) (by simp) (by simp)

theorem ValveSound.withdraw (h : ValveSound s) : ValveSound (withdraw s) :=
  h.of_still (by simp) (by simp) (by simp) (by simp)

end

end Sys2Proof.Machine

namespace Sys2Proof.Machine

section

variable {k : List Stroke} {s t : State} {a : Axis}

theorem ValveSound.eachAxis {f : Axis → State → State} (h : ValveSound s)
    (hf : ∀ a t, ValveSound t → ValveSound (f a t)) : ValveSound (eachAxis f s) :=
  eachAxis_keeps hf h

theorem ValveSound.doIf {b : Bool} {f : State → State} (h : ValveSound s)
    (hf : ∀ t, ValveSound t → ValveSound (f t)) : ValveSound (doIf b f s) := by
  unfold Machine.doIf
  split
  · exact hf s h
  · exact h

theorem ValveSound.raiseFault {c : FaultCode} {q : Qualifier} (h : ValveSound s) : ValveSound (raiseFault c q s) :=
  h.of_axes (by simp) (by simp) (by simp) (by simp)

theorem ValveSound.setCondition {c : FaultCode} {q : Qualifier} {v : Bool} (h : ValveSound s) :
    ValveSound (setCondition c q v s) :=
  h.of_axes (by simp) (by simp) (by simp) (by simp)

theorem ValveSound.raiseCause {c : HoldCause} (h : ValveSound s) : ValveSound (raiseCause c s) :=
  h.of_axes (by simp) (by simp) (by simp) (by simp)

theorem ValveSound.coolantRejudge (h : ValveSound s) : ValveSound (coolantRejudge s) :=
  h.of_axes (by simp) (by simp) (by simp) (by simp)

/-! ### Stops and trips (R39, R101, R140) -/

theorem ValveSound.axisStop (h : ValveSound s) : ValveSound (axisStop a s) :=
  h.of_still (by simp) (by simp) (by simp) (by simp)

theorem ValveSound.completeAbort (h : ValveSound s) (headLeft : Bool) : ValveSound (completeAbort headLeft s) :=
  h.of_still (by simp) (by simp) (by simp) (by simp)

theorem ValveSound.immediateStop (h : ValveSound s) : ValveSound (immediateStop s) :=
  (h.eachAxis fun _ _ => .axisStop).gearAbort.completeAbort false

theorem afterTrip_request (σ : ClampState) (a : Axis) : σ.afterTrip.request a = none := by cases σ <;> rfl

/-- A trip takes every request off the list, and leaves each clamp that takes part in a state with none (R101). -/
theorem ValveSound.valveTrip (h : ValveSound s) : Served [] (valveTrip s) := by
  have hserved := h.served rfl
  have hclamp : ∀ d, (Machine.valveTrip s).clamp d = (s.clamp d).afterTrip (clampTakesPart s d) := fun d => by
    cases d <;> rfl
  have hrequest : ∀ d, ((Machine.valveTrip s).clamp d).state.request d = none := fun d => by
    rw [hclamp]
    cases hp : clampTakesPart s d with
    | false => simpa [Clamp.afterTrip, hp] using (hserved.absent d hp).1
    | true => simpa [Clamp.afterTrip] using afterTrip_request (s.clamp d).state d
  have hlinger : ∀ d, ((Machine.valveTrip s).clamp d).linger = none := fun d => by
    rw [hclamp]
    rfl
  refine ⟨⟨by simp [Machine.valveTrip, flowInUse], .nil, by simp [Machine.valveTrip], fun d => ?_, rfl⟩,
    hserved.limit, fun d _ => ⟨hrequest d, hlinger d⟩, fun d hd => ?_⟩
  · simp only [hrequest]
    rfl
  · simp [hlinger] at hd

theorem ValveSound.takeTrip (h : ValveSound s) : ValveSound (takeTrip s) := by
  have hstopped : ValveSound (Machine.completeAbort false (Machine.eachAxis Machine.axisStop s)) :=
    (h.eachAxis fun _ _ => .axisStop).completeAbort false
  have hcoolant := Served.of_axes hstopped.valveTrip (t := coolantTrip (spindleTrip (Machine.valveTrip
    (Machine.completeAbort false (Machine.eachAxis Machine.axisStop s))))) (by simp) (by simp) (by simp)
  exact (hcoolant.gearTrip _).withdraw

theorem ValveSound.trip (h : ValveSound s) (c : FaultCode) : ValveSound (trip c s) := by
  refine ValveSound.takeTrip (.raiseFault ?_)
  exact h.of_axes rfl rfl rfl rfl

theorem ValveSound.seatComp (h : ValveSound s) : ValveSound (seatComp a s) := h.of_axes rfl rfl rfl rfl

theorem ValveSound.loseReference (h : ValveSound s) : ValveSound (loseReference a s) := by
  unfold Machine.loseReference
  split
  · exact ValveSound.seatComp (h.setAxis rfl)
  · exact h

theorem ValveSound.axisFault (h : ValveSound s) (c : FaultCode) : ValveSound (axisFault c a s) :=
  h.raiseFault.immediateStop.loseReference

/-! ### The program (R27 to R46) -/

theorem ValveSound.claimAxis (h : ValveSound s) (legs : PerAxis (Option Leg)) : ValveSound (claimAxis legs a s) := by
  have hclaim : ValveSound (s.setAxis a { s.axis a with claim := true }) := h.setAxis rfl
  unfold Machine.claimAxis
  split
  · exact hclaim.cancelLinger.askRelease
  · exact h

theorem ValveSound.claimAxes (h : ValveSound s) : ValveSound (claimAxes s) := by
  unfold Machine.claimAxes
  split
  · exact h
  · exact h.eachAxis fun _ _ ht => ht.claimAxis _

theorem ValveSound.startActions (h : ValveSound s) : ValveSound (startActions s) := by
  unfold Machine.startActions
  split
  · exact h
  · split
    · exact ValveSound.claimAxes (h.of_axes (by simp) (by simp) (by simp) (by simp))
    · exact h
    · exact h.spindleCommand _ _ _ _
    · exact h.of_axes (by simp) (by simp) (by simp) (by simp)
    · exact h
    · exact h

theorem ValveSound.beginHead (h : ValveSound s) : ValveSound (beginHead s) := by
  have hstarting : ValveSound { s with planner := { s.planner with head := some .starting } } :=
    h.of_axes rfl rfl rfl rfl
  exact hstarting.startActions.of_axes (by simp [Machine.beginHead]) (by simp [Machine.beginHead])
    (by simp [Machine.beginHead]) (by simp [Machine.beginHead])

theorem ValveSound.startHead (h : ValveSound s) : ValveSound (startHead s) := by
  unfold Machine.startHead
  split
  · exact h.beginHead
  · exact h

theorem ValveSound.distribute (h : ValveSound s) (c : MoveContext) : ValveSound (distribute c s) :=
  h.of_served rfl fun _ hk => hk.of_eq rfl rfl rfl fun d => clampTakesPart_of_params (by cases d <;> rfl)

theorem ValveSound.activeWork (h : ValveSound s) : ValveSound (activeWork s).1 := by
  unfold Machine.activeWork
  split
  case h_2 =>
    unfold moveWork
    split
    · exact h
    · split
      · exact h
      · unfold pathStep
        dsimp only
        split <;> exact h.distribute _
  case h_3 => exact h.of_axes (by simp) (by simp) (by simp) (by simp)
  all_goals exact h

theorem ValveSound.plannerWork (h : ValveSound s) : ValveSound (plannerWork s).1 := by
  have hpromoted : ValveSound (promoteHead (Machine.startHead s)) :=
    h.startHead.of_axes (by simp) (by simp) (by simp) (by simp)
  unfold Machine.plannerWork
  split
  · dsimp only
    split
    · exact hpromoted.activeWork
    · exact hpromoted
  · split
    · exact h.activeWork
    · exact h
  · split
    · exact h.activeWork
    · exact h
  · exact h
  · exact h

theorem ValveSound.completeEntry (h : ValveSound s) : ValveSound (completeEntry s) :=
  h.of_still (by simp) (by simp) (by simp) (by simp)

theorem ValveSound.becomeHeld (h : ValveSound s) : ValveSound (becomeHeld s) := h.of_axes rfl rfl rfl rfl

theorem ValveSound.plannerFinish (h : ValveSound s) (completes : Bool) : ValveSound (plannerFinish completes s) := by
  unfold Machine.plannerFinish
  split
  · exact h
  · split
    · exact h.completeEntry
    · exact h
  · split
    · exact h.completeEntry.becomeHeld
    · split
      · exact h.becomeHeld
      · exact h
  · exact h
  · split
    · exact h.completeEntry.completeAbort true
    · split
      · exact h.completeAbort false
      · exact h

theorem ValveSound.awaitSpeed (h : ValveSound s) : ValveSound (awaitSpeed s) := by
  unfold Machine.awaitSpeed
  split
  · dsimp only
    split
    · exact h.beginHead.of_axes rfl rfl rfl rfl
    · exact h.of_axes rfl rfl rfl rfl
  · exact h

theorem ValveSound.resumeProgram (h : ValveSound s) : ValveSound (resumeProgram s) := by
  have hcleared : ValveSound (clearOperatorStop (dropOperatorCauses s)) :=
    h.of_axes (by simp) (by simp) (by simp) (by simp)
  have htaken : ValveSound ((if takesStartAgain s then Machine.beginHead else id)
      (clearOperatorStop (dropOperatorCauses s))) := by
    split
    · exact hcleared.beginHead
    · exact hcleared
  unfold Machine.resumeProgram
  split
  · exact htaken.awaitSpeed
  · exact htaken

theorem ValveSound.startProgram (h : ValveSound s) : ValveSound (startProgram s) := by
  unfold Machine.startProgram
  split
  · exact h.of_axes (by simp) (by simp) (by simp) (by simp)
  · exact h.resumeProgram
  all_goals exact h

theorem ValveSound.abortReference (h : ValveSound s) : ValveSound (abortReference a s) :=
  h.of_still (by simp) (by simp) (by simp) (by simp)

theorem ValveSound.brakeOrAbort (h : ValveSound s) : ValveSound (brakeOrAbort s) := by
  unfold Machine.brakeOrAbort
  split
  · exact h.of_axes rfl rfl rfl rfl
  · exact h.completeAbort false

theorem ValveSound.plannerAbort (h : ValveSound s) : ValveSound (plannerAbort s) := by
  unfold Machine.plannerAbort
  split
  · exact h
  · exact h.completeAbort false
  all_goals exact h.brakeOrAbort

theorem ValveSound.abortProgram (h : ValveSound s) : ValveSound (abortProgram s) := by
  refine ValveSound.plannerAbort ?_
  split
  · exact h.gearAbort.eachAxis fun _ _ => .abortReference
  · exact h.gearAbort

/-! ### The axes and their period (R12 to R20, R97) -/

theorem ValveSound.driveFaultIfActive (h : ValveSound s) : ValveSound (driveFaultIfActive a s) := by
  unfold Machine.driveFaultIfActive
  split
  · exact h.axisFault _
  · exact h

theorem putLatch_params (u : AxisUnit) (d : Sign) (v : Bool) : (u.putLatch d v).params = u.params := by cases d <;> rfl

theorem putSwitch_params (u : AxisUnit) (d : Sign) (v : Bool) : (u.putSwitch d v).params = u.params := by
  cases d <;> rfl

theorem ValveSound.overtravelOpens (h : ValveSound s) (d : Sign) : ValveSound (overtravelOpens a d s) :=
  ValveSound.immediateStop (h.raiseFault.setAxis (putLatch_params _ _ _))

theorem ValveSound.overtravelIfOpen (h : ValveSound s) (d : Sign) : ValveSound (overtravelIfOpen a d s) := by
  unfold Machine.overtravelIfOpen
  split
  · exact h.overtravelOpens d
  · exact h

theorem ValveSound.followMeasured (h : ValveSound s) : ValveSound (followMeasured a s) := h.setAxis rfl

theorem ValveSound.reseat (h : ValveSound s) : ValveSound (reseat a s) := by
  have hlost : ValveSound (s.setAxis a { s.axis a with referenced := false }) := h.setAxis rfl
  unfold Machine.reseat
  split
  · split
    · exact .seatComp (h.setAxis rfl)
    · exact hlost.followMeasured.seatComp
  · exact h

/-- An axis that enters PARKED engages a RELEASED clamp (R16). -/
theorem ValveSound.parkClamp (h : ValveSound s) : ValveSound (parkClamp a s) := by
  unfold Machine.parkClamp
  split
  · next hc =>
    simp only [Bool.and_eq_true, beq_iff_eq] at hc
    exact (h.lingerExpires hc.2 hc.1).grantOpportunity
  · exact h

theorem ValveSound.takePark (h : ValveSound s) (x : Axis × Bool) : ValveSound (takePark x s) := by
  have hmode : ∀ m, ValveSound (s.setAxis x.1 { s.axis x.1 with mode := m }) := fun _ => h.setAxis rfl
  unfold Machine.takePark
  split
  · exact (hmode .parked).followMeasured.seatComp.parkClamp
  · exact (hmode .normal).reseat.driveFaultIfActive
  all_goals exact h

theorem ValveSound.takeLoop (h : ValveSound s) (x : Axis × Bool) : ValveSound (takeLoop x s) := by
  unfold Machine.takeLoop
  split
  · exact .seatComp (h.setAxis rfl)
  · refine ValveSound.driveFaultIfActive ?_
    dsimp only
    split
    · exact ValveSound.reseat (h.setAxis rfl)
    · exact ValveSound.seatComp (ValveSound.followMeasured (h.setAxis rfl))
  all_goals exact h

theorem ValveSound.takeReference (h : ValveSound s) : ValveSound (takeReference a s) := by
  have hlost := h.loseReference (a := a)
  have hrun : ValveSound ((Machine.loseReference a s).setAxis a
      { (Machine.loseReference a s).axis a with motion := .reference .clampWait, velocity := 0 }) := hlost.setAxis rfl
  unfold Machine.takeReference
  split
  · exact h
  · split
    · exact .seatComp (h.setAxis rfl)
    · exact hrun.cancelLinger.askRelease

theorem ValveSound.takeMark (h : ValveSound s) : ValveSound (takeMark a s) := by
  unfold Machine.takeMark
  split
  · exact h
  · split
    · exact .seatComp (h.setAxis rfl)
    · exact h

theorem ValveSound.driveFaultChange (h : ValveSound s) (active : Bool) : ValveSound (driveFaultChange a active s) := by
  have hwritten : ValveSound (s.setAxis a { s.axis a with driveFault := active }) := h.setAxis rfl
  unfold Machine.driveFaultChange
  dsimp only
  split
  · exact h
  · split
    · exact hwritten.setCondition.axisFault _
    · exact hwritten.setCondition

theorem ValveSound.overtravelChange (h : ValveSound s) (d : Sign) (isOpen : Bool) :
    ValveSound (overtravelChange a d isOpen s) := by
  have hwritten : ValveSound (s.setAxis a ((s.axis a).putSwitch d isOpen)) := h.setAxis (putSwitch_params _ _ _)
  unfold Machine.overtravelChange
  dsimp only
  split
  · exact h
  · split
    · exact hwritten.setCondition.overtravelOpens d
    · exact hwritten.setCondition

/-- An Axis Unit whose clamp does not take part has no request and no linger timer, so the clamp may be fitted; and one
whose clamp leaves is ENGAGED (R3, R93). -/
theorem ValveSound.placeRecord {p : AxisParams} (h : ValveSound s) (hbusy : setAxisBusy a p s = false) :
    ValveSound (placeRecord a p s) := by
  have hserved := h.served rfl
  have hpart : ∀ d, clampTakesPart (s.setAxis a { s.axis a with params := some p }) d
      = if d = a then p.clampFitted else clampTakesPart s d := by
    intro d
    by_cases e : d = a
    · subst e; simp [clampTakesPart]
    · rw [if_neg e, clampTakesPart_of_params (s := s) (by rw [State.setAxis_axis_ne _ _ e])]
  have hidle : p.clampFitted = false → (s.clamp a).state.request a = none ∧ (s.clamp a).linger = none := by
    intro hp
    cases hc : clampTakesPart s a with
    | false => exact hserved.absent a hc
    | true =>
      have hengaged : (s.clamp a).state = .engaged := by
        unfold clampTakesPart at hc
        unfold setAxisBusy at hbusy
        cases hold : (s.axis a).params with
        | none => simp [hold] at hc
        | some old => simp_all
      exact ⟨by simp [hengaged, ClampState.request], hserved.linger_none (by simp [hengaged])⟩
  unfold Machine.placeRecord
  split
  · next hc =>
    simp only [Bool.and_eq_true, Bool.not_eq_eq_eq_not, Bool.not_true] at hc
    obtain ⟨hfitted, hc⟩ := hc
    obtain ⟨hrequest, hlinger⟩ := hserved.absent a hc
    have hplaced : Served (gearInHand s.gear) (s.setAxis a { s.axis a with params := some p }) := by
      refine ⟨hserved.list, hserved.limit, fun d hd => ?_, hserved.linger⟩
      rw [hpart] at hd
      split at hd
      · next e => subst e; exact ⟨hrequest, hlinger⟩
      · exact hserved.absent d hd
    refine Served.sound (hplaced.setClamp ?_ (by simp) (fun _ => rfl)) rfl
    have hn : ((s.setAxis a { s.axis a with params := some p }).clamp a).state.request a = none := hrequest
    rw [hn]
    unfold derivedClamp
    split <;> rfl
  · refine Served.sound (k := gearInHand s.gear) ⟨hserved.list, hserved.limit, fun d hd => ?_, hserved.linger⟩ rfl
    rw [hpart] at hd
    split at hd
    · next e => subst e; exact hidle hd
    · exact hserved.absent d hd

theorem ValveSound.acceptAxis {p : AxisParams} (h : ValveSound s) (hbusy : setAxisBusy a p s = false) :
    ValveSound (acceptAxis a p s) := by
  have hplaced := h.placeRecord hbusy
  unfold Machine.acceptAxis
  split
  · exact hplaced
  · exact ((hplaced.overtravelIfOpen .plus).overtravelIfOpen .minus).driveFaultIfActive

/-- A RELEASED clamp that takes part engages at the end of its linger timer (R97). -/
theorem ValveSound.periodLinger (h : ValveSound s) : ValveSound (periodLinger a s) := by
  unfold Machine.periodLinger
  split
  · next hc =>
    simp only [Bool.and_eq_true, beq_iff_eq] at hc
    obtain ⟨⟨hpart, -⟩, hreleased⟩ := hc
    split
    · split
      · exact .withOpportunity (h.startLinger hreleased hpart)
      · exact h
    · exact h.of_served (by simp) fun _ hk => hk.setLinger_none
  · exact h

theorem localStep_params (a : Axis) (ovr : Nat) (p : AxisParams) (u : AxisUnit) :
    (localStep a ovr p u).params = u.params := by
  have hstep : ∀ goal target, (motionStep p goal target u).params = u.params := fun goal target => by
    obtain ⟨q, x, v, d, e⟩ := motionStep_form p goal target u
    rw [e]
  unfold localStep
  split <;> first | exact hstep _ _ | rfl

theorem ValveSound.moveLocally (h : ValveSound s) : ValveSound (moveLocally a s) := by
  unfold Machine.moveLocally
  split
  · exact h
  · next p _ =>
    have hmoved : ValveSound (s.setAxis a (localStep a s.pendant.feedOverride p (s.axis a))) :=
      h.setAxis (localStep_params ..)
    unfold noteJog
    split
    · exact hmoved.of_axes rfl rfl rfl rfl
    · exact hmoved

theorem ValveSound.compensateAxis (h : ValveSound s) (before : Axis → Int) :
    ValveSound (compensateAxis before a s) := by
  unfold Machine.compensateAxis
  split
  · exact h.followMeasured.setAxis rfl
  · have hstepped : ValveSound (s.setAxis a
        { (s.axis a).stepped (driveEnable s a) (takenOutput s a (stepComp s a (before a)).1) with
          atRest := (s.axis a).commanded == before a && (stepComp s a (before a)).2 }) := h.setAxis rfl
    exact hstepped.of_axes rfl rfl rfl rfl

theorem ValveSound.checkFollowing (h : ValveSound s) : ValveSound (checkFollowing a s) := by
  unfold Machine.checkFollowing
  split
  · exact h.axisFault _
  · exact h

theorem ValveSound.endLocal (h : ValveSound s) : ValveSound (endLocal a s) :=
  h.of_still (by simp) (by simp) (by simp) (by simp)

theorem ValveSound.checkParked (h : ValveSound s) : ValveSound (checkParked a s) := by
  unfold Machine.checkParked
  split
  · exact h.loseReference
  · exact h

theorem ValveSound.axesPeriod (h : ValveSound s) (before : Axis → Int) : ValveSound (axesPeriod before s) :=
  have hcompensated := (h.eachAxis (f := Machine.moveLocally) fun _ _ => .moveLocally).eachAxis
    (f := Machine.compensateAxis before) fun _ _ ht => ht.compensateAxis before
  (hcompensated.eachAxis fun _ _ => .checkFollowing).eachAxis fun _ _ => .endLocal

theorem ValveSound.periodEnds (h : ValveSound s) : ValveSound (periodEnds s) :=
  (((h.eachAxis fun _ _ => .checkParked).eachAxis fun _ _ => .setCondition).eachAxis fun _ _ => .periodLinger).eachAxis
    fun _ _ ht => ht.setAxis rfl

theorem ValveSound.interpolate (h : ValveSound s) : ValveSound (interpolate s) :=
  have hclocked : ValveSound { s with clocks := { s.clocks with interpolation := 2 } } := h.of_axes rfl rfl rfl rfl
  ((hclocked.plannerWork.axesPeriod _).plannerFinish _).periodEnds

end

end Sys2Proof.Machine

namespace Sys2Proof.Machine

section

variable {k : List Stroke} {s t : State} {a : Axis}

/-! ### The pendant (R163 to R175) -/

theorem ValveSound.cycleStart (h : ValveSound s) : ValveSound (cycleStart s) := by
  unfold Machine.cycleStart
  split
  · exact h
  · exact h.startProgram

theorem ValveSound.floodToggle (h : ValveSound s) : ValveSound (floodToggle s) :=
  h.of_axes (by simp) (by simp) (by simp) (by simp)

theorem ValveSound.operatorStop (h : ValveSound s) : ValveSound (operatorStop s) :=
  h.of_axes (by simp) (by simp) (by simp) (by simp)

theorem ValveSound.takeButtons (h : ValveSound s) (previous r : ScanReply) : ValveSound (takeButtons previous r s) :=
  have hpressed : ∀ t, ValveSound t → ValveSound
      (Machine.doIf (t.pendant.site == .pendant || t.planner.state == .idle) Machine.floodToggle t) :=
    fun _ ht => ht.doIf fun _ => .floodToggle
  (((((h.doIf fun _ => .raiseCause).doIf fun _ => .operatorStop).doIf hpressed).doIf
    fun _ ht => ht.raiseCause.withdraw).doIf fun _ => .withdraw).doIf fun _ => .cycleStart

theorem ValveSound.judgeSite (h : ValveSound s) (r : ScanReply) : ValveSound (judgeSite r s) := by
  unfold Machine.judgeSite
  split
  · split
    · exact h.withdraw
    · exact h
  · split
    · exact h.of_axes rfl rfl rfl rfl
    · exact h

theorem ValveSound.selectorChange (h : ValveSound s) (previous r : ScanReply) :
    ValveSound (selectorChange previous r s) := by
  unfold Machine.selectorChange
  split
  · exact h
  · dsimp only
    split
    · exact h.of_axes rfl rfl rfl rfl
    · exact h.giveStop.of_axes rfl rfl rfl rfl

theorem ValveSound.markJogged (h : ValveSound s) : ValveSound (markJogged a s) :=
  h.of_axes (by simp) (by simp) (by simp) (by simp)

theorem ValveSound.buttonDemand (h : ValveSound s) (r : ScanReply) : ValveSound (buttonDemand a r s) := by
  have hbutton : ∀ b, ValveSound { s with pendant := { s.pendant with buttonJog := b } } := fun _ =>
    h.of_axes rfl rfl rfl rfl
  unfold Machine.buttonDemand
  split
  · split
    · exact (hbutton _).markJogged.giveDemand _
    · exact h
  · split
    · exact h
    · exact (hbutton _).giveStop

theorem ValveSound.clipIf (h : ValveSound s) (cut : Bool) : ValveSound (clipIf cut s) :=
  h.of_axes (by simp) (by simp) (by simp) (by simp)

theorem ValveSound.takeWheel (h : ValveSound s) (detents : Int) : ValveSound (takeWheel a detents s) := by
  have hgoal : ∀ g, ValveSound { s with pendant := { s.pendant with goal := g } } := fun _ => h.of_axes rfl rfl rfl rfl
  unfold Machine.takeWheel
  split
  · refine ValveSound.clipIf ?_ _
    unfold giveWheelGoal
    split
    · exact (hgoal _).markJogged.giveDemand _
    · exact hgoal _
  · exact (hgoal _).clipIf _

theorem ValveSound.takeJog (h : ValveSound s) (previous r : ScanReply) : ValveSound (takeJog previous r a s) := by
  have hpressed : ValveSound (pressDiscards previous r s) := h.of_axes (by simp) (by simp) (by simp) (by simp)
  unfold Machine.takeJog
  split
  · exact hpressed.buttonDemand r
  · exact (hpressed.buttonDemand r).takeWheel _

theorem ValveSound.unblock (h : ValveSound s) (r : ScanReply) : ValveSound (unblock r s) :=
  h.of_axes (by simp) (by simp) (by simp) (by simp)

theorem ValveSound.jogStage (h : ValveSound s) (previous r : ScanReply) : ValveSound (jogStage previous r s) := by
  have hchanged := (h.selectorChange previous r).unblock r
  unfold Machine.jogStage
  dsimp only
  split
  · exact hchanged
  · split
    · exact hchanged.takeJog previous r
    · exact hchanged

theorem ValveSound.takeKnobs (h : ValveSound s) (r : ScanReply) : ValveSound (takeKnobs r s) :=
  h.of_axes (by simp) (by simp) (by simp) (by simp)

theorem ValveSound.comeOnline (h : ValveSound s) (r : ScanReply) : ValveSound (comeOnline r s) :=
  h.of_axes (by simp) (by simp) (by simp) (by simp)

theorem ValveSound.storeReply (h : ValveSound s) (r : ScanReply) : ValveSound (storeReply r s) :=
  h.of_axes rfl rfl rfl rfl

theorem ValveSound.scanGood (h : ValveSound s) (r : ScanReply) : ValveSound (scanGood r s) := by
  have hheard : ∀ n, ValveSound { s with pendant := { s.pendant with misses := 0, goodRun := n } } := fun _ =>
    h.of_axes rfl rfl rfl rfl
  have honline := ((hheard s.pendant.goodRun).unblock r).comeOnline r
  unfold Machine.scanGood
  split
  · exact honline
  · exact (((((hheard s.pendant.goodRun).takeKnobs r).takeButtons _ r).judgeSite r).jogStage _ r).storeReply r
  · split
    · exact honline
    · exact ((hheard _).unblock r).storeReply r
  · exact h

theorem ValveSound.becomeLost (h : ValveSound s) : ValveSound (becomeLost s) := by
  have hlost : ValveSound { s with pendant := { s.pendant with link := .lost, goodRun := 0 } } := h.of_axes rfl rfl rfl rfl
  unfold Machine.becomeLost
  dsimp only
  split
  · exact hlost.raiseFault.withdraw.raiseCause
  · exact hlost.raiseFault.withdraw

theorem ValveSound.scanMiss (h : ValveSound s) : ValveSound (scanMiss s) := by
  have hmissed : ValveSound (missCounted s) := by
    unfold missCounted
    split
    · exact ValveSound.becomeLost (h.of_axes rfl rfl rfl rfl)
    · exact h.of_axes rfl rfl rfl rfl
  unfold Machine.scanMiss
  split
  · exact hmissed
  · exact hmissed
  · exact h.of_axes rfl rfl rfl rfl
  · exact h

theorem ValveSound.replyArrives (h : ValveSound s) (bytes : List Byte) (fields : Option ScanReply) :
    ValveSound (replyArrives bytes fields s) := by
  have hclosed : ValveSound { s with pendant := { s.pendant with window := none } } := h.of_axes rfl rfl rfl rfl
  unfold Machine.replyArrives
  split
  · exact h
  · split
    · split
      · exact hclosed.scanGood _
      · exact hclosed.scanMiss
    · exact hclosed.scanMiss

theorem ValveSound.windowCloses (h : ValveSound s) : ValveSound (windowCloses s) := by
  have hclosed : ValveSound { s with pendant := { s.pendant with window := none } } := h.of_axes rfl rfl rfl rfl
  unfold Machine.windowCloses
  split
  · exact h
  · exact hclosed.scanMiss

/-! ### Spindle, gears and coolant (R106 to R157) -/

theorem ValveSound.gearTargetTaken (h : ValveSound s) (g : GearTarget) : ValveSound (gearTargetTaken g s) := by
  have hretargeted : ValveSound (gearRetarget g s) := by
    unfold gearRetarget
    split
    · exact h
    · exact h.retarget _ _
  unfold Machine.gearTargetTaken
  split
  · next hstep =>
    split
    · exact h
    · exact (h.served (gearInHand_idle hstep)).beginChange _ _
  · exact hretargeted
  · exact hretargeted
  · exact hretargeted
  · exact h

theorem ValveSound.endWindow (h : ValveSound s) : ValveSound (endWindow s) := by
  have hchecked : ValveSound
      (checkStall { s with spindle := renewAtSpeed (renewStopped (renewSpeed s.spindle)) }) :=
    h.of_axes (by simp) (by simp) (by simp) (by simp)
  have hreversed : ValveSound
      (reverseIfStopped (checkStall { s with spindle := renewAtSpeed (renewStopped (renewSpeed s.spindle)) })) :=
    hchecked.of_axes (by simp) (by simp) (by simp) (by simp)
  unfold Machine.endWindow planIfStopped
  split
  · next hc =>
    simp only [Bool.and_eq_true, beq_iff_eq] at hc
    exact .withOpportunity
      (hreversed.served (gearInHand_of_step (by rw [hc.1]; simp) (by rw [hc.1]; simp))).planFirst
  · exact hreversed

theorem ValveSound.inverterChange (h : ValveSound s) (active : Bool) : ValveSound (inverterChange active s) :=
  h.of_axes (by simp) (by simp) (by simp) (by simp)

theorem ValveSound.gearSlip (h : ValveSound s) (hstep : s.gear.step = .idle) (f : Fork) : ValveSound (gearSlip f s) := by
  refine ((h.served (gearInHand_idle hstep)).of_axes (by simp) (by simp) (by simp)).sound (gearInHand_idle ?_)
  simpa [Machine.gearSlip, holdGearbox] using hstep

theorem ValveSound.forkSwitchMoves (h : ValveSound s) (w : ForkSwitch) (closed : Bool) :
    ValveSound (forkSwitchMoves w closed s) := by
  have hmeans : ∀ t, ValveSound t → ValveSound (forkSwitchMeans w t) := by
    intro t ht
    unfold forkSwitchMeans
    split
    · next hstep =>
      have hderived : ValveSound (Machine.coolantRejudge (deriveState t)) :=
        ValveSound.coolantRejudge
          (((ht.served (gearInHand_idle hstep)).of_axes (by simp) (by simp) (by simp)).sound
            (gearInHand_idle (by simp [deriveState_gear, hstep])))
      split
      · exact ht
      · split
        · exact ht.gearSlip hstep _
        · exact hderived
        · exact hderived
        · exact ht
    · exact ht
    · exact ht.settleStrokes 32
    · exact ht
    · exact ht.settleStrokes 32
  unfold Machine.forkSwitchMoves
  split
  · exact h
  · exact hmeans _ (h.of_axes rfl rfl rfl rfl)

/-- The pause timer runs in PAUSE alone, with no stroke in hand (R135). -/
theorem ValveSound.pauseExpires (h : ValveSound s) (hg : GearSound s) : ValveSound (pauseExpires s) := by
  obtain ⟨-, -, -, -, htimer, -⟩ := hg
  unfold Machine.pauseExpires
  split
  · exact h
  · next hp =>
    have hstep : s.gear.step = .pause := htimer.1 (by simp [hp])
    exact .withOpportunity (h.served (gearInHand_of_step (by simp [hstep]) (by simp [hstep]))).pauseEnds

/-! ### The inputs of the Valve Bank (R90 to R99) -/

theorem ValveSound.clampSwitchFault (h : ValveSound s)
    (hr : (s.clamp a).state.request a = none) : ValveSound (clampSwitchFault a s) := by
  have hfault : ValveSound ((Machine.raiseFault .clampSwitch (.axis a) s).setClamp a
      { (Machine.raiseFault .clampSwitch (.axis a) s).clamp a with state := .fault, linger := none }) :=
    (h.raiseFault).of_served rfl fun _ hk => hk.setClamp (by simpa [State.clamp, ClampState.request] using hr.symm)
      (by simp) (fun _ => rfl)
  have heq : setLinger a none (setClampState a .fault (Machine.raiseFault .clampSwitch (.axis a) s)) =
      (Machine.raiseFault .clampSwitch (.axis a) s).setClamp a
        { (Machine.raiseFault .clampSwitch (.axis a) s).clamp a with state := .fault, linger := none } := by
    simp [setLinger, setClampState]
  unfold Machine.clampSwitchFault
  rw [heq]
  exact hfault.immediateStop

theorem ValveSound.clampSwitchMoves (h : ValveSound s) (closed : Bool) : ValveSound (clampSwitchMoves a closed s) := by
  have hmeans : ∀ t, ValveSound t → clampTakesPart t a = true → ValveSound (clampSwitchMeans a closed t) := by
    intro t ht hpart
    unfold clampSwitchMeans
    split
    case h_1 hs => exact ht.clampSwitchFault (by rw [hs]; rfl)
    case h_3 hs => exact ht.clampSwitchFault (by rw [hs]; rfl)
    case h_5 => exact ht.settleStrokes 32
    case h_6 => exact ht.settleStrokes 32
    case h_7 hs =>
      exact ht.of_served (by simp) fun _ hk => hk.setClamp (by rw [hs]; rfl)
        (by simp [hk.linger_none (a := a) (by simp [hs])]) (fun e => by simp [hpart] at e)
    all_goals exact ht
  have hwritten : ValveSound (s.setClamp a { s.clamp a with switchClosed := closed }) :=
    h.of_served rfl fun _ hk => hk.setClamp rfl (hk.linger a) fun hp => (hk.absent a hp).2
  unfold Machine.clampSwitchMoves
  dsimp only
  split
  · exact h
  · split
    · next hpart => exact hmeans _ hwritten hpart
    · exact hwritten

theorem ValveSound.strokeTimesOut (h : ValveSound s) (f : ValveFunction) : ValveSound (strokeTimesOut f s) := by
  unfold Machine.strokeTimesOut
  split
  · exact h
  · next r hr => exact (h.strokeEnds (List.mem_of_find?_eq_some hr) false).grantOpportunity

theorem ValveSound.lingerRunsOut (h : ValveSound s) : ValveSound (lingerRunsOut a s) := by
  have hserved := h.served rfl
  unfold Machine.lingerRunsOut
  split
  · exact h
  · next hl =>
    have hsome : (s.clamp a).linger.isSome = true := by simp [hl]
    exact (h.lingerExpires (hserved.linger a hsome) (hserved.takesPart_of_linger hsome)).grantOpportunity

theorem ValveSound.of_list (h : ValveSound s) (hl : t.valve.requests = s.valve.requests)
    (hb : t.valve.bypassLimit = s.valve.bypassLimit) (hc : t.clamps = s.clamps) (ha : t.axes = s.axes)
    (hg : t.gear = s.gear) : ValveSound t :=
  h.of_served hg fun _ hk => hk.of_eq hl hb hc fun _ => clampTakesPart_of_params (by simp [State.axis, ha])

theorem ValveSound.pressureOkMoves (h : ValveSound s) (ok : Bool) : ValveSound (pressureOkMoves ok s) := by
  have hwritten : ValveSound { s with valve := { s.valve with pressureOk := ok } } := h.of_list rfl rfl rfl rfl rfl
  unfold Machine.pressureOkMoves
  dsimp only
  split
  · exact h
  · split
    · exact hwritten.setCondition.grantOpportunity
    · exact hwritten.setCondition

theorem ValveSound.hydraulicExpires (h : ValveSound s) : ValveSound (hydraulicExpires s) := by
  unfold Machine.hydraulicExpires
  split
  · exact h
  · exact .raiseFault (h.of_list rfl rfl rfl rfl rfl)

/-! ### Clear Faults and the stop chain (R100, R180, R181, R189) -/

theorem derivedClamp_request (closed : Bool) (a : Axis) : (derivedClamp closed).request a = none := by
  cases closed <;> rfl

theorem ValveSound.releaseClamp (h : ValveSound s) : ValveSound (releaseClamp a s) := by
  unfold Machine.releaseClamp
  split
  · next hc =>
    simp only [Bool.and_eq_true, beq_iff_eq] at hc
    obtain ⟨⟨hs, -⟩, -⟩ := hc
    exact h.of_served (by simp) fun _ hk => hk.setClamp (by rw [derivedClamp_request, hs]; rfl)
      (by simp [hk.linger_none (a := a) (by simp [hs])]) fun hp => (hk.absent a hp).2
  · exact h

theorem ValveSound.releaseGearbox (h : ValveSound s) (hstep : s.gear.held = true → s.gear.step = .idle) :
    ValveSound (releaseGearbox s) := by
  unfold Machine.releaseGearbox
  split
  · next hc =>
    simp only [Bool.and_eq_true] at hc
    have hidle := hstep hc.1.1.1
    exact ValveSound.coolantRejudge
      (((h.served (gearInHand_idle hidle)).of_axes (by simp) (by simp) (by simp)).sound
        (gearInHand_idle (by simp [deriveState_gear, hidle])))
  · exact h

theorem ValveSound.releaseLatch (h : ValveSound s) (removed : List FaultEntry) (d : Sign) :
    ValveSound (releaseLatch removed d a s) := by
  unfold Machine.releaseLatch
  split
  · exact h.setAxis (putLatch_params _ _ _)
  · exact h

theorem ValveSound.coolantRelease (h : ValveSound s) : ValveSound (coolantRelease s) :=
  h.of_axes (by simp) (by simp) (by simp) (by simp)

theorem ValveSound.armingActs (h : ValveSound s) : ValveSound (armingActs s) := by
  have hformed : ValveSound (formSpeed s) := h.of_axes (by simp) (by simp) (by simp) (by simp)
  refine ValveSound.grantOpportunity ?_
  dsimp only
  split
  · exact hformed.of_axes (by simp) (by simp) (by simp) (by simp)
  · exact hformed

/-- A gearbox that is held has no change in progress (R125). -/
theorem GearSound.idle_of_held (h : GearSound s) (hh : s.gear.held = true) : s.gear.step = .idle := by
  obtain ⟨hshift, -, -, hbox, -⟩ := h
  exact hshift.2 (by simp [hbox hh])

theorem ValveSound.releaseBlocks (h : ValveSound s) (hstep : s.gear.held = true → s.gear.step = .idle)
    (removed : List FaultEntry) (armed : Bool) : ValveSound (releaseBlocks removed armed s) := by
  have hlatches : ∀ d t, ValveSound t → ValveSound (Machine.eachAxis (Machine.releaseLatch removed d) t) :=
    fun d _ ht => ht.eachAxis fun _ _ hu => hu.releaseLatch removed d
  have hclamps := (hlatches .minus _ (hlatches .plus _ h)).eachAxis (f := Machine.releaseClamp) fun _ _ => .releaseClamp
  have hdropped : ValveSound (dropCauses (Machine.eachAxis Machine.releaseClamp
      (Machine.eachAxis (Machine.releaseLatch removed .minus) (Machine.eachAxis (Machine.releaseLatch removed .plus) s)))) :=
    hclamps.of_axes (by simp) (by simp) (by simp) (by simp)
  have hgearbox := hdropped.releaseGearbox (by simpa [Machine.eachAxis] using hstep)
  have hreleased := hgearbox.coolantRelease
  unfold Machine.releaseBlocks
  dsimp only
  split
  · exact hreleased.armingActs
  · exact hreleased

theorem ValveSound.clearAll (h : ValveSound s) (hg : GearSound s) : ValveSound (clearAll s) := by
  have harmed : ValveSound (armChain (removeCleared s)) := h.of_axes (by simp) (by simp) (by simp) (by simp)
  exact harmed.releaseBlocks (by simpa using hg.idle_of_held) _ _

theorem ValveSound.channelsMove (h : ValveSound s) (open1 open2 : Bool) : ValveSound (channelsMove open1 open2 s) := by
  have htaken : ValveSound (takeChannels open1 open2 s) := h.of_axes (by simp) (by simp) (by simp) (by simp)
  unfold Machine.channelsMove
  split
  · exact h
  · unfold judgeChannels
    split
    · split
      · exact htaken.trip _
      · exact htaken
    · split
      · exact htaken.trip _
      · exact htaken
    · split
      · exact htaken.of_axes rfl rfl rfl rfl
      · exact htaken

theorem ValveSound.discrepancyExpires (h : ValveSound s) : ValveSound (discrepancyExpires s) := by
  have hstopped : ValveSound { s with stop := { s.stop with discrepancy := none } } := h.of_axes rfl rfl rfl rfl
  unfold Machine.discrepancyExpires
  split
  · exact h
  · unfold discrepancyActs
    split
    · exact hstopped.trip _
    · exact hstopped.trip _
    · exact hstopped.raiseFault

end

end Sys2Proof.Machine

namespace Sys2Proof.Machine

/-! ### Orders and commands

`OwnerTakes P Q` says of an order's owner that it leaves `Q` wherever it accepts the order in a state with `P`. -/

/-- Whatever the owner accepts under `P` leaves `Q`. -/
def OwnerTakes (P Q : State → Prop) (owner : State → Verdict) : Prop :=
  ∀ s u r, P s → owner s = .accept u r → Q u

section

variable {P Q : State → Prop} {s : State}

theorem ownerTakes_field {α : Type} {before : State → List (Bool × RefuseCode)} {f : State → Option α}
    {after : State → α → List (Bool × RefuseCode)} {effect : State → α → State → State}
    {payload : State → α → State → AcceptPayload}
    (h : ∀ s x, P s → f s = some x → (∀ c ∈ after s x, c.1 = false) → Q (effect s x s)) :
    OwnerTakes P Q fun s => judgeField (before s) (f s) (after s) fun x => accepted (effect s x) (payload s x) s := by
  intro s u r hs hu
  obtain ⟨-, x, hx, hchecks, htaken⟩ := judgeField_eq_accept hu
  rw [accepted_eq_accept htaken]
  exact h s x hs hx hchecks

theorem ownerTakes_empty {p : List Byte} {after : State → List (Bool × RefuseCode)} {effect : State → State}
    {payload : State → AcceptPayload} (h : ∀ s, P s → (∀ c ∈ after s, c.1 = false) → Q (effect s)) :
    OwnerTakes P Q fun s => judgeEmpty p (after s) (accepted effect payload s) := by
  intro s u r hs hu
  obtain ⟨hchecks, htaken⟩ := judge_eq_accept hu
  rw [accepted_eq_accept htaken]
  exact h s hs fun c hc => hchecks c (List.mem_cons_of_mem _ hc)

theorem ownerTakes_query {α : Type} {before : State → List (Bool × RefuseCode)} {f : State → Option α}
    {payload : State → α → AcceptPayload} (h : ∀ s, P s → Q s) :
    OwnerTakes P Q fun s => judgeField (before s) (f s) (fun _ => []) fun x => .accept s (payload s x) := by
  intro s u r hs hu
  obtain ⟨-, x, -, -, htaken⟩ := judgeField_eq_accept hu
  cases htaken
  exact h s hs

/-- An order that is taken keeps what its owner keeps and what the Command Link does not touch (R196, R197). -/
theorem takeOrder_keeps {kind : Byte} {tag : Tag} {owner : State → Verdict} (ho : OwnerTakes P Q owner)
    (hlink : ∀ s l, Q s → Q { s with link := l }) (hPQ : ∀ s, P s → Q s) (h : P s) : Q (takeOrder kind tag owner s) := by
  unfold takeOrder
  split
  · exact hlink _ _ (hPQ _ h)
  · split
    · next u r hu => exact hlink _ _ (ho s u r h hu)
    · exact hlink _ _ (hPQ _ h)

/-- A byte reaches an order only through its owner (R192 to R196). -/
theorem byteArrives_keeps (ho : ∀ kind tag p, OwnerTakes P Q (ownerOf kind tag p))
    (hlinkP : ∀ s l, P s → P { s with link := l }) (hlinkQ : ∀ s l, Q s → Q { s with link := l })
    (hPQ : ∀ s, P s → Q s) (h : P s) (x : Byte) (stopBit : Bool) : Q (byteArrives x stopBit s) := by
  have hlink : ∀ l, Q { s with link := l } := fun l => hlinkQ _ _ (hPQ _ h)
  have htaken : Q (takeByte x s) := by
    unfold takeByte
    split
    · split <;> exact hlink _
    · unfold takeLen
      (repeat' split) <;> exact hlink _
    · exact hlink _
    · split <;> exact hlink _
    · exact hlink _
    · unfold takeCheck
      split
      · exact takeOrder_keeps (s := hunt s) (ho _ _ _) hlinkQ hPQ (hlinkP _ _ h)
      · exact hlink _
  unfold byteArrives
  split
  · exact htaken
  · exact hlink _

end

section

variable {s t : State} {a : Axis}

theorem valveParams_bypass {p : List Byte} {x : Nat × Nat × Nat} (h : valveParams p = some x) : x.1 ≤ 7 := by
  simp only [valveParams, within, Option.bind_eq_bind, Option.bind_eq_some_iff, Option.some.injEq] at h
  obtain ⟨b, hb, c, -, f, -, rfl⟩ := h
  simp only [Option.ite_none_right_eq_some, Option.some.injEq] at hb
  obtain ⟨⟨-, hb⟩, rfl⟩ := hb
  exact hb

theorem ValveSound.loadValve (h : ValveSound s) {x : Nat × Nat × Nat} (hx : x.1 ≤ 7) : ValveSound (loadValve x s) :=
  h.of_served rfl fun _ hk => ⟨hk.list, hx, hk.absent, hk.linger⟩

theorem ValveSound.link (h : ValveSound s) (l : Link) : ValveSound { s with link := l } :=
  h.of_axes rfl rfl rfl rfl

/-- Whatever an order's KIND, its owner keeps the request list in agreement (R195). -/
theorem ownerOf_serves (kind : Byte) (tag : Tag) (p : List Byte) :
    OwnerTakes (fun s => ValveSound s ∧ GearSound s) ValveSound (ownerOf kind tag p) := by
  have still : ∀ {s t : State}, ValveSound s ∧ GearSound s → t.valve = s.valve → t.clamps = s.clamps →
      t.axes = s.axes → gearInHand t.gear = gearInHand s.gear → ValveSound t := fun h => h.1.of_axes
  unfold ownerOf
  split
  case h_1 => exact ownerTakes_field fun _ _ h _ _ => still h rfl rfl rfl rfl
  case h_2 => exact ownerTakes_field fun _ _ h _ _ => still h rfl rfl rfl rfl
  case h_3 => exact ownerTakes_field fun _ _ h _ _ => still h rfl rfl rfl rfl
  case h_4 => exact ownerTakes_field fun _ _ h _ _ => still h rfl rfl rfl rfl
  case h_5 => exact ownerTakes_empty fun _ h _ => still h rfl rfl rfl rfl
  case h_6 => exact ownerTakes_empty fun _ h _ => still h rfl rfl rfl rfl
  case h_7 => exact ownerTakes_empty fun _ h _ => h.1.startProgram
  case h_8 => exact ownerTakes_empty fun _ h _ => h.1.raiseCause
  case h_9 => exact ownerTakes_empty fun _ h _ => h.1.abortProgram
  case h_10 => exact ownerTakes_field fun _ _ h _ _ => h.1.spindleCommand _ _ _ _
  case h_11 => exact ownerTakes_field fun _ _ h _ _ => .withOpportunity (h.1.gearTargetTaken _)
  case h_12 => exact ownerTakes_field fun _ _ h _ _ => still h (by simp) (by simp) (by simp) (by simp)
  case h_13 => exact ownerTakes_field fun _ _ h _ _ => h.1.takeReference
  case h_14 => exact ownerTakes_field fun _ _ h _ _ => h.1.takePark _
  case h_15 => exact ownerTakes_field fun _ _ h _ _ => h.1.takeLoop _
  case h_16 => exact ownerTakes_field fun _ _ h _ hc => h.1.acceptAxis (hc _ List.mem_cons_self)
  case h_17 => exact ownerTakes_field fun _ _ h _ _ => still h rfl rfl rfl rfl
  case h_18 => exact ownerTakes_field fun _ _ h _ _ => still h (by simp) (by simp) (by simp) (by simp [loadGears, gearInHand])
  case h_19 => exact ownerTakes_field fun _ _ h _ _ => still h (by simp) (by simp) (by simp) (by simp)
  case h_20 => exact ownerTakes_field fun _ _ h _ _ => still h (by simp) (by simp) (by simp) (by simp)
  case h_21 => exact ownerTakes_field fun _ _ h hx _ => h.1.loadValve (valveParams_bypass hx)
  case h_22 => exact ownerTakes_field fun _ _ h _ _ => still h (by simp) (by simp) (by simp) (by simp)
  case h_23 => exact ownerTakes_field fun _ _ h _ _ => still h (by simp) (by simp) (by simp) (by simp)
  case h_24 => exact ownerTakes_field fun _ _ h _ _ => still h (by simp) (by simp) (by simp) (by simp)
  case h_25 =>
    intro s u r h hu
    cases (judge_eq_accept hu).2
    exact h.1.clearAll h.2
  case h_26 => exact ownerTakes_query fun _ h => h.1
  case h_27 => exact ownerTakes_query fun _ h => h.1
  case h_28 => exact ownerTakes_query fun _ h => h.1
  case h_29 =>
    intro s u r h hu
    cases (judge_eq_accept hu).2
    exact h.1
  case h_30 => intro s u r _ hu; cases hu

theorem ValveSound.finish (h : ValveSound s) (before : State) : ValveSound (finish before s) := by
  have hreturned : ValveSound (siteReturn s) := h.of_axes (by simp) (by simp) (by simp) (by simp)
  have hchecked : ValveSound (hydraulicCheck (siteReturn s)) := by
    refine hreturned.of_list ?_ ?_ (by simp) (by simp) (by simp)
    · unfold hydraulicCheck
      (repeat' split) <;> rfl
    · unfold hydraulicCheck
      (repeat' split) <;> rfl
  exact hchecked.of_axes (by simp [Machine.finish]) (by simp [Machine.finish]) (by simp [Machine.finish])
    (by simp [Machine.finish])

theorem powerOn_valveSound (i : ResetInputs) (waiting : List Instr) : ValveSound (powerOn i waiting) := by
  have hreset : ValveSound (resetState i waiting) := by
    have hclamp : ∀ d, (resetState i waiting).clamp d = clampAtReset (i.clampClosed.get d) := fun d => by cases d <;> rfl
    refine (valveSound_iff _).2 ⟨⟨by simp [resetState, flowInUse], .nil, by simp [resetState], fun d => ?_, rfl⟩,
      by simp [resetState], fun d _ => ?_, fun d hd => ?_⟩
    · simp only [hclamp, clampAtReset, derivedClamp_request]
      rfl
    · rw [hclamp]
      exact ⟨derivedClamp_request _ _, rfl⟩
    · rw [hclamp] at hd
      cases hd
  exact (hreset.doIf fun _ => .raiseFault).doIf fun _ => .raiseFault

theorem ValveSound.tick (h : ValveSound s) : ValveSound (tick s) := by
  have hclamp : ∀ d, (Machine.tick s).clamp d = { s.clamp d with linger := tickTimer (s.clamp d).linger } := fun d => by
    cases d <;> rfl
  obtain ⟨hlist, hlimit, habsent, hlinger⟩ := h.served rfl
  refine Served.sound (k := gearInHand s.gear) ⟨?_, hlimit, fun d hd => ?_, fun d hd => ?_⟩ rfl
  · refine hlist.tick.congr fun d => ?_
    rw [hclamp]
  · rw [hclamp]
    obtain ⟨hrequest, hnone⟩ := habsent d hd
    exact ⟨hrequest, by simp [hnone, tickTimer]⟩
  · rw [hclamp] at hd ⊢
    exact hlinger d (by simpa [tickTimer] using hd)

end

end Sys2Proof.Machine

namespace Sys2Proof.Machine

/-! ### What a command other than an order does

Every command but a power-on is an order that its owner judges, or an input or a timer of the part, and ends in
`finish`; an invariant is checked for each `Occurrence` and once for the owners. -/

/-- What an input or a timer of the part does before `finish`. -/
inductive Occurrence : (State → State) → Prop
  | byteReceived (x : Byte) (stopBit : Bool) : Occurrence (byteArrives x stopBit)
  | gapTimer : Occurrence gapExpires
  | telegramSent : Occurrence fun s => { s with link := { s.link with sending := none } }
  | positionTimer : Occurrence positionExpires
  | interpolation : Occurrence interpolate
  | encoderEdge (a : Axis) (n : Int) : Occurrence fun s => s.setAxis a ((s.axis a).counted n)
  | referenceMark (a : Axis) : Occurrence (takeMark a)
  | driveFault (a : Axis) (active : Bool) : Occurrence (driveFaultChange a active)
  | overtravel (a : Axis) (d : Sign) (isOpen : Bool) : Occurrence (overtravelChange a d isOpen)
  | clampSwitch (a : Axis) (closed : Bool) : Occurrence (clampSwitchMoves a closed)
  | strokeTimer (f : ValveFunction) : Occurrence (strokeTimesOut f)
  | lingerTimer (a : Axis) : Occurrence (lingerRunsOut a)
  | pressureOk (ok : Bool) : Occurrence (pressureOkMoves ok)
  | hydraulicWait : Occurrence hydraulicExpires
  | referenceUpdate :
    Occurrence fun s => updateReference { s with clocks := { s.clocks with referenceUpdate := 10 } }
  | spindleEdge (n : Int) :
    Occurrence fun s => { s with spindle := { s.spindle with windowCount := s.spindle.windowCount + n } }
  | speedWindow : Occurrence fun s => endWindow { s with clocks := { s.clocks with speedWindow := 100 } }
  | inverterFault (active : Bool) : Occurrence (inverterChange active)
  | forkSwitch (k : ForkSwitch) (closed : Bool) : Occurrence (forkSwitchMoves k closed)
  | creepAlternation : Occurrence alternate
  | pauseTimer : Occurrence pauseExpires
  | pressureSample (x : Nat) :
    Occurrence fun s =>
      useSample { s with coolant := filterSample x s.coolant, clocks := { s.clocks with pressureSample := 10 } }
  | buildTimer : Occurrence buildExpires
  | purgeTimer : Occurrence purgeExpires
  | tankSwitch (low : Bool) : Occurrence (tankChange low)
  | scanRequest : Occurrence fun s => sendRequest { s with clocks := { s.clocks with scan := 10 } }
  | pendantReply (bytes : List Byte) (fields : Option ScanReply) : Occurrence (replyArrives bytes fields)
  | replyWindow : Occurrence windowCloses
  | clipTimer : Occurrence fun s => { s with pendant := { s.pendant with clipTimer := none } }
  | flashPhase :
    Occurrence fun s =>
      { s with
        pendant := { s.pendant with flashLit := !s.pendant.flashLit }
        clocks := { s.clocks with flash := 250 } }
  | stopChannels (open1 open2 : Bool) : Occurrence (channelsMove open1 open2)
  | discrepancyTimer : Occurrence discrepancyExpires

theorem exec_form (c : Instr) :
    (∃ i, c = .powerOnReset i)
      ∨ (∃ kind tag p, ∀ s, exec c s = event (takeOrder kind tag (ownerOf kind tag p)) s)
      ∨ ∃ f, Occurrence f ∧ ∀ s, exec c s = event f s := by
  have order : ∀ (kind : Byte) (tag : Tag) (p : List Byte),
      (∀ s, exec c s = event (takeOrder kind tag (ownerOf kind tag p)) s) →
        ∃ kind tag p, ∀ s, exec c s = event (takeOrder kind tag (ownerOf kind tag p)) s :=
    fun kind tag p h => ⟨kind, tag, p, h⟩
  cases c with
  | powerOnReset i => exact .inl ⟨i, rfl⟩
  | unknownKindTelegram kind tag p => exact .inr (.inl (order kind tag p fun _ => rfl))
  | queueMove tag p => exact .inr (.inl (order 0x01 tag p fun _ => rfl))
  | queueDwell tag p => exact .inr (.inl (order 0x02 tag p fun _ => rfl))
  | queueSpindle tag p => exact .inr (.inl (order 0x03 tag p fun _ => rfl))
  | queueCoolant tag p => exact .inr (.inl (order 0x04 tag p fun _ => rfl))
  | queueMark tag p => exact .inr (.inl (order 0x05 tag p fun _ => rfl))
  | queueEnd tag p => exact .inr (.inl (order 0x06 tag p fun _ => rfl))
  | start tag p => exact .inr (.inl (order 0x10 tag p fun _ => rfl))
  | hold tag p => exact .inr (.inl (order 0x11 tag p fun _ => rfl))
  | abort tag p => exact .inr (.inl (order 0x12 tag p fun _ => rfl))
  | spindleSet tag p => exact .inr (.inl (order 0x18 tag p fun _ => rfl))
  | gearSet tag p => exact .inr (.inl (order 0x19 tag p fun _ => rfl))
  | coolantSet tag p => exact .inr (.inl (order 0x1A tag p fun _ => rfl))
  | reference tag p => exact .inr (.inl (order 0x1B tag p fun _ => rfl))
  | park tag p => exact .inr (.inl (order 0x1C tag p fun _ => rfl))
  | loop tag p => exact .inr (.inl (order 0x1D tag p fun _ => rfl))
  | setAxis tag p => exact .inr (.inl (order 0x20 tag p fun _ => rfl))
  | loadCompensation tag p => exact .inr (.inl (order 0x21 tag p fun _ => rfl))
  | setValveParams tag p => exact .inr (.inl (order 0x25 tag p fun _ => rfl))
  | setSpindleParams tag p => exact .inr (.inl (order 0x23 tag p fun _ => rfl))
  | setGears tag p => exact .inr (.inl (order 0x22 tag p fun _ => rfl))
  | setCoolantParams tag p => exact .inr (.inl (order 0x24 tag p fun _ => rfl))
  | setOverrides tag p => exact .inr (.inl (order 0x26 tag p fun _ => rfl))
  | setPendantText tag p => exact .inr (.inl (order 0x27 tag p fun _ => rfl))
  | setReporting tag p => exact .inr (.inl (order 0x28 tag p fun _ => rfl))
  | clearFaults tag p => exact .inr (.inl (order 0x2F tag p fun _ => rfl))
  | getStatus tag p => exact .inr (.inl (order 0x30 tag p fun _ => rfl))
  | getAxis tag p => exact .inr (.inl (order 0x31 tag p fun _ => rfl))
  | getFaults tag p => exact .inr (.inl (order 0x32 tag p fun _ => rfl))
  | getIdent tag p => exact .inr (.inl (order 0x33 tag p fun _ => rfl))
  | byteReceived x stopBit => exact .inr (.inr ⟨_, .byteReceived x stopBit, fun _ => rfl⟩)
  | gapTimerExpiry => exact .inr (.inr ⟨_, .gapTimer, fun _ => rfl⟩)
  | telegramSent => exact .inr (.inr ⟨_, .telegramSent, fun _ => rfl⟩)
  | positionTimerExpiry => exact .inr (.inr ⟨_, .positionTimer, fun _ => rfl⟩)
  | interpolationPeriod => exact .inr (.inr ⟨_, .interpolation, fun _ => rfl⟩)
  | encoderEdge a aLeads => exact .inr (.inr ⟨_, .encoderEdge a (if aLeads then 1 else -1), fun _ => rfl⟩)
  | referenceMark a => exact .inr (.inr ⟨_, .referenceMark a, fun _ => rfl⟩)
  | driveFaultInput a active => exact .inr (.inr ⟨_, .driveFault a active, fun _ => rfl⟩)
  | overtravelSwitchChange a d isOpen => exact .inr (.inr ⟨_, .overtravel a d isOpen, fun _ => rfl⟩)
  | clampReleasedSwitchChange a closed => exact .inr (.inr ⟨_, .clampSwitch a closed, fun _ => rfl⟩)
  | strokeTimeout f => exact .inr (.inr ⟨_, .strokeTimer f, fun _ => rfl⟩)
  | lingerTimerExpiry a => exact .inr (.inr ⟨_, .lingerTimer a, fun _ => rfl⟩)
  | pressureOkChange ok => exact .inr (.inr ⟨_, .pressureOk ok, fun _ => rfl⟩)
  | hydraulicWaitTimerExpiry => exact .inr (.inr ⟨_, .hydraulicWait, fun _ => rfl⟩)
  | referenceUpdate => exact .inr (.inr ⟨_, .referenceUpdate, fun _ => rfl⟩)
  | spindleEncoderEdge clockwise =>
    exact .inr (.inr ⟨_, .spindleEdge (if clockwise then 1 else -1), fun _ => rfl⟩)
  | speedWindowEnd => exact .inr (.inr ⟨_, .speedWindow, fun _ => rfl⟩)
  | inverterFaultInput active => exact .inr (.inr ⟨_, .inverterFault active, fun _ => rfl⟩)
  | forkSwitchChange k closed => exact .inr (.inr ⟨_, .forkSwitch k closed, fun _ => rfl⟩)
  | creepAlternation => exact .inr (.inr ⟨_, .creepAlternation, fun _ => rfl⟩)
  | pauseTimerExpiry => exact .inr (.inr ⟨_, .pauseTimer, fun _ => rfl⟩)
  | pressureSample code => exact .inr (.inr ⟨_, .pressureSample (samplePressure code), fun _ => rfl⟩)
  | buildTimerExpiry => exact .inr (.inr ⟨_, .buildTimer, fun _ => rfl⟩)
  | purgeTimerExpiry => exact .inr (.inr ⟨_, .purgeTimer, fun _ => rfl⟩)
  | tankLowSwitchChange low => exact .inr (.inr ⟨_, .tankSwitch low, fun _ => rfl⟩)
  | scanRequest => exact .inr (.inr ⟨_, .scanRequest, fun _ => rfl⟩)
  | pendantReply bytes fields => exact .inr (.inr ⟨_, .pendantReply bytes fields, fun _ => rfl⟩)
  | replyWindowClose => exact .inr (.inr ⟨_, .replyWindow, fun _ => rfl⟩)
  | clipTimerExpiry => exact .inr (.inr ⟨_, .clipTimer, fun _ => rfl⟩)
  | flashPhaseToggle => exact .inr (.inr ⟨_, .flashPhase, fun _ => rfl⟩)
  | stopChannelChange open1 open2 => exact .inr (.inr ⟨_, .stopChannels open1 open2, fun _ => rfl⟩)
  | discrepancyTimerExpiry => exact .inr (.inr ⟨_, .discrepancyTimer, fun _ => rfl⟩)

/-- A command other than a power-on runs its occurrence or its order to the end of the event. -/
theorem exec_keeps {P : State → Prop} {c : Instr} {s t : State} (ht : exec c s = .next t)
    (hreset : ∀ i, P (powerOn i s.pending)) (horder : ∀ kind tag p, P (finish s (takeOrder kind tag (ownerOf kind tag p) s)))
    (hinput : ∀ f, Occurrence f → P (finish s (f s))) : P t := by
  rcases exec_form c with ⟨i, rfl⟩ | ⟨kind, tag, p, h⟩ | ⟨f, hf, h⟩
  · cases ht; exact hreset i
  · rw [h] at ht; cases ht; exact horder kind tag p
  · rw [h] at ht; cases ht; exact hinput f hf

/-! ### Every occurrence serves the owners -/

section

variable {s t : State} {a : Axis} {f : State → State}

theorem ValveSound.occurrence (h : ValveSound s) (hg : GearSound s) (hf : Occurrence f) : ValveSound (f s) := by
  cases hf with
  | byteReceived x stopBit =>
    exact byteArrives_keeps (P := fun t => ValveSound t ∧ GearSound t) ownerOf_serves
      (fun _ _ ht => ⟨ht.1.link _, ht.2⟩) (fun _ _ ht => ht.link _) (fun _ ht => ht.1) ⟨h, hg⟩ x stopBit
  | gapTimer => exact h.of_axes (by simp) (by simp) (by simp) (by simp)
  | telegramSent => exact h.link _
  | positionTimer => exact h.of_axes (by simp) (by simp) (by simp) (by simp)
  | interpolation => exact h.interpolate
  | encoderEdge => exact h.setAxis rfl
  | referenceMark => exact h.takeMark
  | driveFault _ active => exact h.driveFaultChange active
  | overtravel _ d isOpen => exact h.overtravelChange d isOpen
  | clampSwitch _ closed => exact h.clampSwitchMoves closed
  | strokeTimer g => exact h.strokeTimesOut g
  | lingerTimer => exact h.lingerRunsOut
  | pressureOk ok => exact h.pressureOkMoves ok
  | hydraulicWait => exact h.hydraulicExpires
  | referenceUpdate => exact h.of_axes (by simp) (by simp) (by simp) (by simp)
  | spindleEdge => exact h.of_axes rfl rfl rfl rfl
  | speedWindow => exact ValveSound.endWindow (h.of_axes rfl rfl rfl rfl)
  | inverterFault active => exact h.inverterChange active
  | forkSwitch w closed => exact h.forkSwitchMoves w closed
  | creepAlternation =>
    refine h.of_axes (by simp) (by simp) (by simp) ?_
    unfold alternate
    split
    · rfl
    · simp [gearInHand]
  | pauseTimer => exact h.pauseExpires hg
  | pressureSample => exact h.of_axes (by simp) (by simp) (by simp) (by simp)
  | buildTimer => exact h.of_axes (by simp) (by simp) (by simp) (by simp)
  | purgeTimer => exact h.of_axes (by simp) (by simp) (by simp) (by simp)
  | tankSwitch => exact h.of_axes (by simp) (by simp) (by simp) (by simp)
  | scanRequest => exact h.of_axes (by simp) (by simp) (by simp) (by simp)
  | pendantReply bytes fields => exact h.replyArrives bytes fields
  | replyWindow => exact h.windowCloses
  | clipTimer => exact h.of_axes rfl rfl rfl rfl
  | flashPhase => exact h.of_axes rfl rfl rfl rfl
  | stopChannels open1 open2 => exact h.channelsMove open1 open2
  | discrepancyTimer => exact h.discrepancyExpires

end

theorem ValveSound.exec {s t : State} {c : Instr} (h : ValveSound s) (hg : GearSound s) (ht : exec c s = .next t) :
    ValveSound t :=
  exec_keeps ht (fun i => powerOn_valveSound i s.pending)
    (fun kind tag p => ValveSound.finish (takeOrder_keeps (P := fun u => ValveSound u ∧ GearSound u)
      (ownerOf_serves kind tag p) (fun _ _ hu => hu.link _) (fun _ hu => hu.1) ⟨h, hg⟩) s)
    fun _ hf => (h.occurrence hg hf).finish s

/-- Settles O53: with the record of the change in agreement with its timers, each command's own lemma closes the step. -/
theorem stepKeepsValve : Obligations.StepKeepsValve := by
  unfold Obligations.StepKeepsValve
  rintro s t ⟨-, -, -, -, -, hvalve, hgear, -⟩ hstep
  unfold step at hstep
  split at hstep
  · cases hstep
    exact hvalve.tick
  · next c rest _ =>
    exact ValveSound.exec (s := { s with pending := rest }) (hvalve.of_axes rfl rfl rfl rfl) hgear hstep

end Sys2Proof.Machine

namespace Sys2Proof.Machine

/-! ## What every event leaves settled (O50) -/

theorem hydraulicSettled_congr {s t : State} (hp : t.valve.pressureOk = s.valve.pressureOk)
    (hr : t.valve.requests.any (fun r => !r.isActive) = s.valve.requests.any fun r => !r.isActive)
    (hw : t.valve.hydraulicWait.isSome = s.valve.hydraulicWait.isSome)
    (he : t.valve.hydraulicExpired = s.valve.hydraulicExpired) : HydraulicSettled t ↔ HydraulicSettled s := by
  have hwaiting : ∀ u : State,
      (∃ r ∈ u.valve.requests, r.isActive = false) ↔ u.valve.requests.any (fun r => !r.isActive) = true := by simp
  have hnone : ∀ u : State, u.valve.hydraulicWait = none ↔ u.valve.hydraulicWait.isSome = false := by simp
  simp only [HydraulicSettled, hp, hwaiting, hr, hnone, hw, he]

theorem tick_settled {s : State} (h : Settled s) : Settled (tick s) := by
  have hactive : ∀ r : Request, ({ r with status := r.status.tick } : Request).isActive = r.isActive := fun r => by
    cases hr : r.status <;> simp [Request.isActive, RequestStatus.tick, hr]
  have hwait : HydraulicSettled (tick s) ↔ HydraulicSettled s :=
    hydraulicSettled_congr rfl (by simp [tick, Function.comp_def, hactive]) (by simp [tick, tickTimer]) rfl
  exact ⟨h.1, hwait.2 h.2⟩

theorem powerOn_settled (i : ResetInputs) (waiting : List Instr) : Settled (powerOn i waiting) := by
  refine ⟨fun h => ?_, ?_⟩
  · simp [powerOn, resetState, Pendant.afterReset] at h
  · simp [HydraulicSettled, powerOn, resetState]

theorem exec_settled {c : Instr} {s t : State} (h : exec c s = .next t) : Settled t :=
  exec_keeps h (fun i => powerOn_settled i s.pending) (fun _ _ _ => finish_settled _ _) fun _ _ => finish_settled _ _

/-- Settles O50: `finish` settles what the event left, and a millisecond takes only time from the hydraulic wait. -/
theorem everyStepSettles : Obligations.EveryStepSettles := by
  refine ⟨fun c s t h => exec_settled h, fun s t hs hstep => ?_⟩
  unfold step at hstep
  split at hstep
  · cases hstep
    exact tick_settled hs
  · exact exec_settled hstep

end Sys2Proof.Machine

namespace Sys2Proof.Machine

/-! ## A part at a stand (O56)

`Halted` is what a trip establishes and every command keeps until the chain is armed. The site is the host's or on its
way there: where a trip finds a withdrawal in progress, `finish` returns the site. -/

/-- Commanded speeds and reference at 0. -/
def Spindle.Zero (p : Spindle) : Prop := p.sProg = 0 ∧ p.sCmd = 0 ∧ p.reference = 0

/-- No local motion, no velocity and no claim. -/
def AxisUnit.AtStand (u : AxisUnit) : Prop := u.motion = .idle ∧ u.velocity = 0 ∧ u.claim = false

/-- A clamp state in which nothing is asked of a clamp that is not RELEASED. -/
def ClampState.Shut (σ : ClampState) : Prop := σ = .engaged ∨ σ = .settling ∨ σ = .fault

/-- The chain is not ARMED and nothing moves. -/
structure Halted (s : State) : Prop where
  unarmed : s.stop.estop ≠ .armed
  planner : s.planner.state = .idle
  axes : ∀ a, (s.axis a).AtStand
  requests : s.valve.requests = []
  clamps : ∀ a, clampTakesPart s a = true → (s.clamp a).state.Shut
  gear : s.gear.step = .idle
  spindle : s.spindle.Zero
  pumps : s.coolant.flood = .off ∧ s.coolant.tsc = .off
  site : s.pendant.site = .host ∨ s.pendant.withdrawing = true

section

variable {s t : State} {a : Axis}

theorem StoppedSafe.halted (h : StoppedSafe s) (hu : s.stop.estop ≠ .armed) : Halted s := by
  obtain ⟨hplanner, haxes, hrequests, hclamps, hgear, hprog, hcmd, href, hflood, htsc, hsite⟩ := h hu
  exact ⟨hu, hplanner, haxes, hrequests, hclamps, hgear, ⟨hprog, hcmd, href⟩, ⟨hflood, htsc⟩, .inl hsite⟩

/-- An operation that leaves everything but the spindle, whose speeds it leaves at 0. -/
theorem Halted.of_spindle (h : Halted s) (hspindle : t.spindle.Zero)
    (hstop : t.stop.estop = s.stop.estop := by simp)
    (hplanner : t.planner.state = s.planner.state := by simp) (haxes : t.axes = s.axes := by simp)
    (hrequests : t.valve.requests = s.valve.requests := by simp) (hclamps : t.clamps = s.clamps := by simp)
    (hgear : t.gear.step = s.gear.step := by simp)
    (hpumps : t.coolant.flood = s.coolant.flood ∧ t.coolant.tsc = s.coolant.tsc := by simp)
    (hsite : t.pendant.site = s.pendant.site ∧ t.pendant.withdrawing = s.pendant.withdrawing := by simp) :
    Halted t where
  unarmed := hstop ▸ h.unarmed
  planner := hplanner ▸ h.planner
  axes a := by
    have hall := h.axes a
    simpa [State.axis, haxes] using hall
  requests := hrequests ▸ h.requests
  clamps a := by
    have hall := h.clamps a
    rw [← clampTakesPart_of_params (t := t) (a := a) (by simp [State.axis, haxes])] at hall
    simpa [State.clamp, hclamps] using hall
  gear := hgear ▸ h.gear
  spindle := hspindle
  pumps := by rw [hpumps.1, hpumps.2]; exact h.pumps
  site := by rw [hsite.1, hsite.2]; exact h.site

theorem Halted.of_eq (h : Halted s) (hspindle : t.spindle = s.spindle := by simp)
    (hstop : t.stop.estop = s.stop.estop := by simp)
    (hplanner : t.planner.state = s.planner.state := by simp) (haxes : t.axes = s.axes := by simp)
    (hrequests : t.valve.requests = s.valve.requests := by simp) (hclamps : t.clamps = s.clamps := by simp)
    (hgear : t.gear.step = s.gear.step := by simp)
    (hpumps : t.coolant.flood = s.coolant.flood ∧ t.coolant.tsc = s.coolant.tsc := by simp)
    (hsite : t.pendant.site = s.pendant.site ∧ t.pendant.withdrawing = s.pendant.withdrawing := by simp) :
    Halted t :=
  h.of_spindle (hspindle ▸ h.spindle) hstop hplanner haxes hrequests hclamps hgear hpumps hsite

theorem Halted.setAxis (h : Halted s) {u : AxisUnit} (hu : u.AtStand) (hp : u.params = (s.axis a).params) :
    Halted (s.setAxis a u) := by
  obtain ⟨hunarmed, hplanner, haxes, hrequests, hclamps, hgear, hspindle, hpumps, hsite⟩ := h
  refine ⟨hunarmed, hplanner, fun c => ?_, hrequests, fun c => ?_, hgear, hspindle, hpumps, hsite⟩
  · by_cases e : c = a
    · subst e; simpa using hu
    · rw [State.setAxis_axis_ne _ _ e]; exact haxes c
  · rw [clampTakesPart_of_params (s := s) ?_]
    · exact hclamps c
    · by_cases e : c = a
      · subst e; simp [hp]
      · rw [State.setAxis_axis_ne _ _ e]

theorem Halted.setClamp (h : Halted s) {c : Clamp} (hc : clampTakesPart s a = true → c.state.Shut) :
    Halted (s.setClamp a c) := by
  obtain ⟨hunarmed, hplanner, haxes, hrequests, hclamps, hgear, hspindle, hpumps, hsite⟩ := h
  refine ⟨hunarmed, hplanner, haxes, hrequests, fun d hd => ?_, hgear, hspindle, hpumps, hsite⟩
  by_cases e : d = a
  · subst e; simpa using hc hd
  · rw [State.setClamp_clamp_ne _ _ e]; exact hclamps d hd

theorem Halted.eachAxis {f : Axis → State → State} (h : Halted s) (hf : ∀ a t, Halted t → Halted (f a t)) :
    Halted (eachAxis f s) :=
  eachAxis_keeps hf h

theorem Halted.doIf {b : Bool} {f : State → State} (h : Halted s) (hf : ∀ t, Halted t → Halted (f t)) :
    Halted (doIf b f s) := by
  unfold Machine.doIf
  split
  · exact hf s h
  · exact h

/-! ### Faults, causes and the spindle -/

@[simp] theorem setCondition_chain (c : FaultCode) (q : Qualifier) (v : Bool) (s : State) :
    (setCondition c q v s).stop.estop = s.stop.estop := by
  simp [setCondition_eq]

theorem Halted.raiseFault {c : FaultCode} {q : Qualifier} (h : Halted s) : Halted (raiseFault c q s) := h.of_eq

theorem Halted.setCondition {c : FaultCode} {q : Qualifier} {v : Bool} (h : Halted s) :
    Halted (setCondition c q v s) := h.of_eq

theorem raiseCause_idle {c : HoldCause} (h : s.planner.state = .idle) : raiseCause c s = s := by
  unfold raiseCause
  rw [h]

theorem raiseIf_idle {b : Bool} {c : HoldCause} (h : s.planner.state = .idle) : raiseIf b c s = s := by
  unfold raiseIf
  split
  · exact raiseCause_idle h
  · rfl

theorem Halted.raiseCause {c : HoldCause} (h : Halted s) : Halted (raiseCause c s) := by
  rw [raiseCause_idle h.planner]
  exact h

/-- With the programmed speed at 0, S_cmd is formed as 0 and the reference stands (R106). -/
theorem formSpeed_zero (h : s.spindle.sProg = 0) (hr : s.spindle.reference = 0) : (formSpeed s).spindle.Zero := by
  refine ⟨by simpa using h, ?_, ?_⟩
  · rw [formSpeed_sCmd]
    exact commandedSpeed_zero (by simpa using h)
  · simp [formSpeed, withSpeed, hr]

theorem Halted.formSpeed (h : Halted s) : Halted (formSpeed s) :=
  h.of_spindle (formSpeed_zero h.spindle.1 h.spindle.2.2)

theorem Halted.setSpindle (h : Halted s) {p : Spindle} (hp : p.Zero) : Halted { s with spindle := p } :=
  h.of_spindle hp

theorem Halted.spindleFaultActions (h : Halted s) : Halted (spindleFaultActions s) := by
  obtain ⟨-, hcmd, href⟩ := h.spindle
  have hprog : Spindle.Zero { s.spindle with sProg := 0, stoppedByOperator := false } := ⟨rfl, hcmd, href⟩
  have hformed := (h.setSpindle hprog).formSpeed
  have hzeroed : Halted (zeroReference (Machine.formSpeed
      { s with spindle := { s.spindle with sProg := 0, stoppedByOperator := false } })) :=
    hformed.setSpindle ⟨hformed.spindle.1, hformed.spindle.2.1, rfl⟩
  refine Halted.raiseCause (hzeroed.of_eq (hplanner := ?_))
  unfold noteFaultHold
  split <;> rfl

/-! ### Coolant: with TSC OFF nothing is judged again (R146, R151) -/

theorem coolantRejudge_off (h : s.coolant.tsc = .off) : coolantRejudge s = s := coolantRejudge_of_ne (by simp [h])

theorem Halted.coolantRejudge (h : Halted s) : Halted (coolantRejudge s) := by
  rw [coolantRejudge_off h.pumps.2]
  exact h

theorem setRequests_unarmed {flood tsc : Bool} (h : s.stop.estop ≠ .armed) : setRequests flood tsc s = s := by
  simp [setRequests, h]

/-! ### Gears (R125) -/

theorem Halted.setGearbox (h : Halted s) (g : Gearbox) : Halted (setGearbox g s) := by
  have hplaced : Halted { s with gear := { s.gear with gearbox := g } } := h.of_eq
  unfold Machine.setGearbox
  split
  · exact Halted.formSpeed (hplaced.setSpindle (p := { s.spindle with reference := 0 })
      ⟨h.spindle.1, h.spindle.2.1, rfl⟩)
  · exact hplaced.formSpeed

theorem Halted.deriveState (h : Halted s) : Halted (deriveState s) := h.setGearbox _

theorem Halted.gearSlip (h : Halted s) (f : Fork) : Halted (gearSlip f s) := by
  have hraised : Halted (Machine.raiseFault .gearSlip (.fork f) s) := h.raiseFault
  have hheld : Halted (holdGearbox (Machine.raiseFault .gearSlip (.fork f) s)) := Halted.setGearbox hraised.of_eq _
  have hstopped : Halted (gearStop (holdGearbox (Machine.raiseFault .gearSlip (.fork f) s))) :=
    Halted.formSpeed (Halted.setSpindle hheld (p := { (holdGearbox _).spindle with sProg := 0 }) ⟨rfl, hheld.spindle.2⟩)
  exact hstopped.raiseCause.coolantRejudge

/-! ### Stops -/

theorem Halted.endMotion (h : Halted s) : Halted (endMotion a s) := h.setAxis ⟨rfl, rfl, (h.axes a).2.2⟩ rfl

theorem Halted.axisStop (h : Halted s) : Halted (axisStop a s) := by
  simp only [Machine.axisStop, (h.axes a).1, LocalMotion.isJog, Bool.false_eq_true, if_false]
  exact h.endMotion

theorem Halted.headLeaves (h : Halted s) (o : EntryOutcome) : Halted (headLeaves o s) := by
  unfold Machine.headLeaves
  split
  · exact h
  · obtain ⟨hunarmed, hplanner, haxes, hrequests, hclamps, hgear, hspindle, hpumps, hsite⟩ := h
    refine ⟨by simpa using hunarmed, by simpa using hplanner, fun d => ?_, by simpa using hrequests, fun d => ?_,
      by simpa using hgear, by simpa using hspindle, by simpa using hpumps, by simpa using hsite⟩
    · obtain ⟨hm, hv, -⟩ := haxes d
      exact ⟨by simpa [releaseClaims, State.axis] using hm, by simpa [releaseClaims, State.axis] using hv,
        by simp [releaseClaims, State.axis]⟩
    · simpa [releaseClaims, State.axis, State.clamp, clampTakesPart] using hclamps d

theorem Halted.completeAbort (h : Halted s) : Halted (completeAbort false s) := by
  have hleft := h.headLeaves .aborted
  have hflushed : Halted (flushQueue (Machine.headLeaves .aborted s)) := hleft.of_eq (hplanner := by simp [flushQueue])
  have hentered : Halted (enterIdle (flushQueue (Machine.headLeaves .aborted s))) :=
    hflushed.of_eq (hplanner := hflushed.planner.symm)
  exact hentered

theorem gearAbort_idle (h : s.gear.step = .idle) : gearAbort s = s := by simp [gearAbort, h]

theorem Halted.immediateStop (h : Halted s) : Halted (immediateStop s) := by
  have hstopped := h.eachAxis (f := Machine.axisStop) fun _ _ => .axisStop
  unfold Machine.immediateStop
  rw [gearAbort_idle hstopped.gear]
  exact hstopped.completeAbort

end

end Sys2Proof.Machine

namespace Sys2Proof.Machine

section

variable {s t : State} {a : Axis} {p q : Spindle}

/-! ### What a trip leaves of the spindle (R119) -/

/-- A spindle as a trip leaves it but for the reference: nothing commanded and nothing judged, with what is measured
of `p` unchanged. -/
structure Spindle.Tripped (p q : Spindle) : Prop where
  prog : q.sProg = 0
  cmd : q.sCmd = 0
  phase : q.phase = .run
  atSpeed : q.atSpeed = false
  stallCount : q.stallCount = 0
  sMeas : q.sMeas = p.sMeas
  stopped : q.stopped = p.stopped

theorem Spindle.Tripped.withTarget (h : p.Tripped q) (s : State) : p.Tripped (withTarget s q) := by
  obtain ⟨hprog, hcmd, hphase, hat, hstall, hmeas, hstopped⟩ := h
  unfold Machine.withTarget
  rw [hphase]
  exact ⟨hprog, hcmd, rfl, hat, hstall, hmeas, hstopped⟩

theorem Spindle.Tripped.settled (h : p.Tripped q) (s : State) : p.Tripped (settled s q) := by
  have hself : Machine.settled s q = q := by simp [Machine.settled, h.phase, h.cmd]
  rwa [hself]

/-- With the programmed speed at 0 the forming of S_cmd leaves a tripped spindle. -/
theorem tripped_withSpeed (hprog : q.sProg = 0) (hphase : q.phase = .run) (hat : q.atSpeed = false)
    (hmeas : q.sMeas = p.sMeas) (hstopped : q.stopped = p.stopped) (s : State) : p.Tripped (withSpeed s q) := by
  refine Spindle.Tripped.settled (Spindle.Tripped.withTarget ?_ s) s
  refine ⟨hprog, commandedSpeed_zero hprog, hphase, by simp [hat], ?_, hmeas, hstopped⟩
  simp [commandedSpeed_zero hprog]

theorem Spindle.Tripped.formSpeed (h : p.Tripped s.spindle) : p.Tripped (formSpeed s).spindle :=
  tripped_withSpeed h.prog h.phase h.atSpeed h.sMeas h.stopped s

theorem Spindle.Tripped.setReference (h : p.Tripped q) (n : Nat) : p.Tripped { q with reference := n } :=
  ⟨h.prog, h.cmd, h.phase, h.atSpeed, h.stallCount, h.sMeas, h.stopped⟩

theorem spindleTrip_tripped (s : State) :
    s.spindle.Tripped (spindleTrip s).spindle ∧ (spindleTrip s).spindle.reference = 0 :=
  have hformed : ∀ u : State, u.spindle.sProg = 0 → u.spindle.phase = .run → u.spindle.atSpeed = false →
      u.spindle.sMeas = s.spindle.sMeas → u.spindle.stopped = s.spindle.stopped →
      s.spindle.Tripped (zeroReference (formSpeed u)).spindle := fun u h1 h2 h3 h4 h5 =>
    (tripped_withSpeed h1 h2 h3 h4 h5 u).setReference 0
  ⟨hformed _ rfl rfl rfl rfl rfl, rfl⟩

@[simp] theorem formSpeed_reference (s : State) : (formSpeed s).spindle.reference = s.spindle.reference := by
  simp [formSpeed, withSpeed]

theorem Spindle.Tripped.setGearbox (h : p.Tripped s.spindle) (hr : s.spindle.reference = 0) (g : Gearbox) :
    p.Tripped (setGearbox g s).spindle ∧ (setGearbox g s).spindle.reference = 0 := by
  unfold Machine.setGearbox
  split
  · exact ⟨Spindle.Tripped.formSpeed (h.setReference 0), by simp [zeroReference]⟩
  · exact ⟨Spindle.Tripped.formSpeed h, by simpa using hr⟩

theorem Spindle.Tripped.holdGearbox (h : p.Tripped s.spindle) (hr : s.spindle.reference = 0) :
    p.Tripped (holdGearbox s).spindle ∧ (holdGearbox s).spindle.reference = 0 :=
  Spindle.Tripped.setGearbox (s := { s with gear := { s.gear with held := true } }) h hr _

theorem Spindle.Tripped.deriveState (h : p.Tripped s.spindle) (hr : s.spindle.reference = 0) :
    p.Tripped (deriveState s).spindle ∧ (deriveState s).spindle.reference = 0 := h.setGearbox hr _

theorem Spindle.Tripped.endCreep (h : p.Tripped s.spindle) (hr : s.spindle.reference = 0) :
    p.Tripped (endCreep s).spindle ∧ (endCreep s).spindle.reference = 0 := by
  unfold Machine.endCreep
  split
  · have hrun : p.Tripped { s.spindle with reference := 0, phase := .run } :=
      ⟨h.prog, h.cmd, rfl, h.atSpeed, h.stallCount, h.sMeas, h.stopped⟩
    exact ⟨(hrun.withTarget _).settled _, by simp [creepEnd]⟩
  · exact ⟨h, hr⟩

/-! ### What a trip leaves of the gears and the coolant (R140, R157) -/

/-- A change that a trip ends leaves SHIFTING as the switches show, and holds the gearbox when a stroke was ACTIVE. -/
theorem gearTrip_gear (wasActive : Bool) (s : State) :
    (gearTrip wasActive s).gear =
      if s.gear.step = .idle then s.gear
      else
        { s.gear with
          step := .idle, target := none, owner := none, stroke := none, pauseTimer := none, deferred := none
          creep := none
          held := s.gear.held || wasActive
          gearbox := if wasActive then .unknown else deriveGearbox s.gear.switches } := by
  unfold gearTrip
  split
  · next h => rw [if_pos h]
  · next h =>
    rw [if_neg h]
    dsimp only
    cases wasActive
    · simp
    · simp [holdGearbox]

theorem gearTrip_tripped (h : p.Tripped s.spindle) (hr : s.spindle.reference = 0) (hoff : s.coolant.tsc = .off)
    (wasActive : Bool) :
    p.Tripped (gearTrip wasActive s).spindle ∧ (gearTrip wasActive s).spindle.reference = 0
      ∧ (gearTrip wasActive s).coolant = s.coolant ∧ (gearTrip wasActive s).planner = s.planner := by
  unfold gearTrip
  split
  · exact ⟨h, hr, rfl, rfl⟩
  · dsimp only
    obtain ⟨hended, hreference⟩ := h.endCreep hr
    rw [coolantChangeEnds_unheard]
    · have hready : ∀ g, p.Tripped ({ endCreep s with gear := g } : State).spindle
          ∧ ({ endCreep s with gear := g } : State).spindle.reference = 0 := fun _ => ⟨hended, hreference⟩
      split
      · obtain ⟨hheld, hzero⟩ := Spindle.Tripped.holdGearbox (hready _).1 (hready _).2
        exact ⟨hheld, hzero, by simp [holdGearbox], by simp [holdGearbox]⟩
      · obtain ⟨hderived, hzero⟩ := Spindle.Tripped.deriveState (hready _).1 (hready _).2
        exact ⟨hderived, hzero, by simp, by simp⟩
    · split <;> simp [hoff, holdGearbox]
    · split <;> simp [hoff, holdGearbox]

theorem Spindle.Tripped.coolantTrip (h : p.Tripped s.spindle) (hr : s.spindle.reference = 0) :
    p.Tripped (coolantTrip s).spindle ∧ (coolantTrip s).spindle.reference = 0 := by
  unfold Machine.coolantTrip leaveTsc formIfCeiling
  split
  · exact ⟨h, hr⟩
  · exact ⟨Spindle.Tripped.formSpeed h, by simpa using hr⟩

end

end Sys2Proof.Machine

namespace Sys2Proof.Machine

section

variable {s t : State} {a : Axis}

/-! ### A trip, block by block (R101, R119, R140, R157, R168) -/

theorem stopIfJogged_idle (h : (s.axis a).motion = .idle) : stopIfJogged a s = s := by
  unfold stopIfJogged giveStop
  rw [h]
  split <;> rfl

/-- With no local motion a withdrawal is complete at once, or was in progress before (R168). -/
theorem withdraw_idle (h : ∀ a, (s.axis a).motion = .idle) :
    (withdraw s).axes = s.axes ∧ (withdraw s).pendant.feedOverride = s.pendant.feedOverride
      ∧ ((withdraw s).pendant.site = .host ∨ (withdraw s).pendant.withdrawing = true) := by
  have hstopped : eachAxis stopIfJogged s = s := by
    unfold eachAxis
    simp only [stopIfJogged_idle (h _)]
  unfold withdraw
  rw [hstopped]
  split
  · unfold siteReturn
    rw [if_pos]
    · exact ⟨rfl, rfl, .inl rfl⟩
    · simp only [Bool.true_and, axesInOrder_all]
      intro d
      have hd := h d
      simp only [State.axis] at hd
      simp [State.axis, hd]
  · next hno =>
    refine ⟨rfl, rfl, ?_⟩
    cases hsite : s.pendant.site with
    | host => exact .inl rfl
    | pendant => exact .inr (by simpa [hsite] using hno)

/-- What a trip leaves of each block. -/
structure TripTaken (s t : State) : Prop where
  axis : ∀ a, ∃ k, t.axis a = (s.axis a).stopped k
  planner : t.planner = idlePlanner []
  valve : t.valve = { s.valve with requests := [] }
  clamp : ∀ a, t.clamp a = (s.clamp a).afterTrip (clampTakesPart s a)
  spindle : s.spindle.Tripped t.spindle
  reference : t.spindle.reference = 0
  gear : t.gear =
    if s.gear.step = .idle then s.gear
    else
      { s.gear with
        step := .idle, target := none, owner := none, stroke := none, pauseTimer := none, deferred := none
        creep := none
        held := s.gear.held || forkActive s
        gearbox := if forkActive s then .unknown else deriveGearbox s.gear.switches }
  coolant : t.coolant =
    { s.coolant with
      floodRequested := false, tscRequested := false, flood := .off, tsc := .off, buildTimer := none, late := false
      purgeTimer := none }
  site : t.pendant.site = .host ∨ t.pendant.withdrawing = true
  feedOverride : t.pendant.feedOverride = s.pendant.feedOverride
  comp : t.comp = s.comp
  stop : t.stop = s.stop

theorem coolantTrip_coolant (s : State) :
    (coolantTrip s).coolant =
      { s.coolant with
        floodRequested := false, tscRequested := false, flood := .off, tsc := .off, buildTimer := none, late := false
        purgeTimer := none } := by
  simp [coolantTrip, leaveTsc]

theorem takeTrip_taken (s : State) : TripTaken s (takeTrip s) := by
  obtain ⟨b, hb⟩ : ∃ b, b = completeAbort false (eachAxis axisStop s) := ⟨_, rfl⟩
  have haborted : ∀ a, ∃ k, b.axis a = (s.axis a).stopped k := fun a => by
    obtain ⟨k, hk⟩ := completeAbort_axis false (eachAxis axisStop s) a
    refine ⟨k, ?_⟩
    rw [hb, hk]
    simp [State.axis, axisStop_all, AxisUnit.stopped]
  have hstill : ∀ a, clampTakesPart b a = clampTakesPart s a :=
    clampTakesPart_of_still (by rw [hb]; simp [eachAxis])
  obtain ⟨u, hu⟩ : ∃ u, u = coolantTrip (spindleTrip (valveTrip b)) := ⟨_, rfl⟩
  have hspindle : s.spindle.Tripped u.spindle ∧ u.spindle.reference = 0 := by
    obtain ⟨htripped, hreference⟩ := spindleTrip_tripped (valveTrip b)
    have hsame : (valveTrip b).spindle = s.spindle := by simp [hb, eachAxis]
    rw [hsame] at htripped
    rw [hu]
    exact htripped.coolantTrip hreference
  have hcoolant : u.coolant.tsc = .off := by rw [hu, coolantTrip_coolant]
  obtain ⟨hgspindle, hgreference, hgcoolant, hgplanner⟩ :=
    gearTrip_tripped hspindle.1 hspindle.2 hcoolant (forkActive s)
  have hidle : ∀ a, ((gearTrip (forkActive s) u).axis a).motion = .idle := fun a => by
    obtain ⟨k, hk⟩ := haborted a
    have hsame : (gearTrip (forkActive s) u).axis a = b.axis a := by simp [State.axis, hu]
    rw [hsame, hk]
    rfl
  obtain ⟨haxes, hfeed, hsite⟩ := withdraw_idle hidle
  obtain ⟨-, hplanner, -, -, -, -, hgear, hcool, -⟩ := withdraw_frame (gearTrip (forkActive s) u)
  have htrip : takeTrip s = withdraw (gearTrip (forkActive s) u) := by rw [takeTrip, hu, hb]
  rw [htrip]
  refine ⟨fun a => ?_, ?_, ?_, fun a => ?_, ?_, ?_, ?_, ?_, hsite, ?_, ?_, ?_⟩
  · obtain ⟨k, hk⟩ := haborted a
    refine ⟨k, ?_⟩
    rw [← hk, State.axis, haxes]
    simp [State.axis, hu]
  · rw [hplanner, hgplanner]
    simp [hu, hb]
  · simp [hu, valveTrip, hb, eachAxis]
  · have hclamp : (valveTrip b).clamp a = (b.clamp a).afterTrip (clampTakesPart b a) := by cases a <;> rfl
    rw [hstill] at hclamp
    have hsame : (b.clamp a) = s.clamp a := by simp [hb, State.clamp, eachAxis]
    rw [hsame] at hclamp
    rw [← hclamp]
    simp [hu, State.clamp]
  · simpa using hgspindle
  · simpa using hgreference
  · have hsame : u.gear = s.gear := by simp [hu, hb, eachAxis]
    rw [hgear, gearTrip_gear, hsame]
  · have hsame : (spindleTrip (valveTrip b)).coolant = s.coolant := by simp [hb, eachAxis]
    rw [hcool, hgcoolant, hu, coolantTrip_coolant, hsame]
  · rw [hfeed]
    simp [hu, hb, eachAxis]
  · simp [hu, hb, eachAxis]
  · simp [hu, hb, eachAxis]

end

end Sys2Proof.Machine

namespace Sys2Proof.Machine

section

variable {s t : State} {a : Axis}

/-- A trip halts the part: no claim is left where the planner's record is sound. -/
theorem trip_halted {c : FaultCode} (h : PlannerSound (trip c s)) : Halted (trip c s) := by
  obtain ⟨u, hu⟩ : ∃ u, u = raiseFault c .absent { s with stop := { s.stop with estop := .tripped } } := ⟨_, rfl⟩
  have htrip : trip c s = takeTrip u := by rw [hu]; rfl
  rw [htrip] at h ⊢
  have hestop : u.stop.estop = .tripped := by simp [hu]
  obtain ⟨haxis, hplanner, hvalve, hclamp, hspindle, hreference, hgear, hcoolant, hsite, -⟩ := takeTrip_taken u
  have hresting : headInProgress (takeTrip u) = false := by simp [headInProgress, hplanner, idlePlanner]
  refine ⟨by simp [hestop], by simp [hplanner, idlePlanner], fun d => ?_, by simp [hvalve], fun d hd => ?_, ?_,
    ⟨hspindle.prog, hspindle.cmd, hreference⟩, by simp [hcoolant], hsite⟩
  · have hclaim := h.no_claim hresting d
    obtain ⟨k, hk⟩ := haxis d
    exact ⟨by simp [hk, AxisUnit.stopped], by simp [hk, AxisUnit.stopped], hclaim⟩
  · have hpart : clampTakesPart u d = true := by
      obtain ⟨k, hk⟩ := haxis d
      rw [← hd]
      exact (clampTakesPart_of_params (by rw [hk]; rfl)).symm
    rw [hclamp, hpart]
    cases hs : (u.clamp d).state <;> simp [Clamp.afterTrip, hs, ClampState.afterTrip, ClampState.Shut]
  · rw [hgear]
    split
    · assumption
    · rfl

/-! ### Axes of a part at a stand (R9 to R20) -/

theorem Halted.seatComp (h : Halted s) : Halted (seatComp a s) := h.of_eq

theorem Halted.loseReference (h : Halted s) : Halted (loseReference a s) := by
  have hlost : Halted (s.setAxis a { s.axis a with referenced := false, commanded := (s.axis a).output }) :=
    h.setAxis (h.axes a) rfl
  unfold Machine.loseReference
  split
  · exact hlost.seatComp
  · exact h

theorem Halted.axisFault (h : Halted s) (c : FaultCode) : Halted (axisFault c a s) :=
  h.raiseFault.immediateStop.loseReference

theorem Halted.driveFaultIfActive (h : Halted s) : Halted (driveFaultIfActive a s) := by
  unfold Machine.driveFaultIfActive
  split
  · exact h.axisFault _
  · exact h

theorem putLatch_atStand {u : AxisUnit} (h : u.AtStand) (d : Sign) (v : Bool) : (u.putLatch d v).AtStand := by
  cases d <;> exact h

theorem putSwitch_atStand {u : AxisUnit} (h : u.AtStand) (d : Sign) (v : Bool) : (u.putSwitch d v).AtStand := by
  cases d <;> exact h

theorem Halted.overtravelOpens (h : Halted s) (d : Sign) : Halted (overtravelOpens a d s) := by
  have hraised : Halted (Machine.raiseFault .overtravel (.axisEnd a d) s) := h.raiseFault
  exact (hraised.setAxis (putLatch_atStand (hraised.axes a) d true) (putLatch_params _ _ _)).immediateStop

theorem Halted.overtravelIfOpen (h : Halted s) (d : Sign) : Halted (overtravelIfOpen a d s) := by
  unfold Machine.overtravelIfOpen
  split
  · exact h.overtravelOpens d
  · exact h

theorem Halted.driveFaultChange (h : Halted s) (active : Bool) : Halted (driveFaultChange a active s) := by
  have hwritten : Halted (s.setAxis a { s.axis a with driveFault := active }) := h.setAxis (h.axes a) rfl
  unfold Machine.driveFaultChange
  dsimp only
  split
  · exact h
  · split
    · exact hwritten.setCondition.axisFault _
    · exact hwritten.setCondition

theorem Halted.overtravelChange (h : Halted s) (d : Sign) (isOpen : Bool) : Halted (overtravelChange a d isOpen s) := by
  have hwritten : Halted (s.setAxis a ((s.axis a).putSwitch d isOpen)) :=
    h.setAxis (putSwitch_atStand (h.axes a) d isOpen) (putSwitch_params _ _ _)
  unfold Machine.overtravelChange
  dsimp only
  split
  · exact h
  · split
    · exact hwritten.setCondition.overtravelOpens d
    · exact hwritten.setCondition

theorem derivedClamp_shut (closed : Bool) : (derivedClamp closed).Shut := by
  cases closed
  · exact .inl rfl
  · exact .inr (.inl rfl)

/-- A clamp that a record fits is read from its switch, and is not RELEASED (R93). -/
theorem Halted.placeRecord (h : Halted s) (p : AxisParams) : Halted (placeRecord a p s) := by
  have hstand := h.axes a
  have hclamps := h.clamps a
  obtain ⟨hunarmed, hplanner, haxes, hrequests, hall, hgear, hspindle, hpumps, hsite⟩ := h
  have haxis : ∀ d, ((s.setAxis a { s.axis a with params := some p }).axis d).AtStand := fun d => by
    by_cases e : d = a
    · subst e; rw [State.setAxis_axis_same]; exact hstand
    · rw [State.setAxis_axis_ne _ _ e]; exact haxes d
  have hother : ∀ d, d ≠ a → clampTakesPart (s.setAxis a { s.axis a with params := some p }) d = clampTakesPart s d :=
    fun d e => clampTakesPart_of_params (by rw [State.setAxis_axis_ne _ _ e])
  unfold Machine.placeRecord
  split
  · refine ⟨hunarmed, hplanner, haxis, hrequests, fun d hd => ?_, hgear, hspindle, hpumps, hsite⟩
    by_cases e : d = a
    · subst e; simpa [fitClamp] using derivedClamp_shut _
    · have hd' : clampTakesPart (s.setAxis a { s.axis a with params := some p }) d = true := hd
      rw [hother d e] at hd'
      have hkept := hall d hd'
      unfold fitClamp
      rwa [State.setClamp_clamp_ne _ _ e]
  · next hc =>
    refine ⟨hunarmed, hplanner, haxis, hrequests, fun d hd => ?_, hgear, hspindle, hpumps, hsite⟩
    by_cases e : d = a
    · subst e
      have hfitted : p.clampFitted = true := by simpa [clampTakesPart] using hd
      exact hclamps (by simpa [hfitted] using hc)
    · rw [hother d e] at hd
      exact hall d hd

theorem Halted.acceptAxis (h : Halted s) (p : AxisParams) : Halted (acceptAxis a p s) := by
  have hplaced := h.placeRecord (a := a) p
  unfold Machine.acceptAxis
  split
  · exact hplaced
  · exact ((hplaced.overtravelIfOpen .plus).overtravelIfOpen .minus).driveFaultIfActive

theorem Halted.followMeasured (h : Halted s) : Halted (followMeasured a s) := h.setAxis (h.axes a) rfl

theorem Halted.reseat (h : Halted s) : Halted (reseat a s) := by
  have hlost : Halted (s.setAxis a { s.axis a with referenced := false }) := h.setAxis (h.axes a) rfl
  unfold Machine.reseat
  split
  · split
    · exact .seatComp (h.setAxis (h.axes a) rfl)
    · exact hlost.followMeasured.seatComp
  · exact h

theorem Halted.not_released (h : Halted s) (hp : clampTakesPart s a = true) : (s.clamp a).state ≠ .released := by
  rcases h.clamps a hp with hs | hs | hs <;> simp [hs]

theorem Halted.parkClamp (h : Halted s) : Halted (parkClamp a s) := by
  unfold Machine.parkClamp
  split
  · next hc =>
    simp only [Bool.and_eq_true, beq_iff_eq] at hc
    exact absurd hc.2 (h.not_released hc.1)
  · exact h

theorem Halted.takePark (h : Halted s) (x : Axis × Bool) : Halted (takePark x s) := by
  have hmode : ∀ m, Halted (s.setAxis x.1 { s.axis x.1 with mode := m }) := fun _ => h.setAxis (h.axes x.1) rfl
  unfold Machine.takePark
  split
  · exact (hmode .parked).followMeasured.seatComp.parkClamp
  · exact (hmode .normal).reseat.driveFaultIfActive
  all_goals exact h

theorem Halted.takeLoop (h : Halted s) (x : Axis × Bool) : Halted (takeLoop x s) := by
  unfold Machine.takeLoop
  split
  · exact .seatComp (h.setAxis (h.axes x.1) rfl)
  · refine Halted.driveFaultIfActive ?_
    dsimp only
    split
    · exact Halted.reseat (h.setAxis (h.axes x.1) rfl)
    · exact Halted.seatComp (Halted.followMeasured (h.setAxis (h.axes x.1) rfl))
  all_goals exact h

theorem Halted.takeMark (h : Halted s) : Halted (takeMark a s) := by
  unfold Machine.takeMark
  split
  · exact h
  · rw [(h.axes a).1, if_neg (by decide)]
    exact h

theorem Halted.moveLocally (h : Halted s) : Halted (moveLocally a s) := by
  have hmotion := (h.axes a).1
  unfold Machine.moveLocally
  split
  · exact h
  · next p _ =>
    have hself : localStep a s.pendant.feedOverride p (s.axis a) = s.axis a := by
      unfold localStep
      rw [hmotion]
    have hset : Halted (s.setAxis a (s.axis a)) := h.setAxis (h.axes a) rfl
    rw [hself]
    unfold noteJog
    split
    · exact hset.of_eq
    · exact hset

theorem Halted.compensateAxis (h : Halted s) (before : Axis → Int) : Halted (compensateAxis before a s) := by
  have hfollowed := h.followMeasured (a := a)
  unfold Machine.compensateAxis
  split
  · exact hfollowed.setAxis (hfollowed.axes a) rfl
  · have hstepped : Halted (s.setAxis a
        { (s.axis a).stepped (driveEnable s a) (takenOutput s a (stepComp s a (before a)).1) with
          atRest := (s.axis a).commanded == before a && (stepComp s a (before a)).2 }) := h.setAxis (h.axes a) rfl
    exact hstepped.of_eq rfl rfl rfl rfl rfl rfl rfl ⟨rfl, rfl⟩ ⟨rfl, rfl⟩

theorem Halted.checkFollowing (h : Halted s) : Halted (checkFollowing a s) := by
  unfold Machine.checkFollowing
  split
  · exact h.axisFault _
  · exact h

theorem Halted.endLocal (h : Halted s) : Halted (endLocal a s) := by
  unfold Machine.endLocal
  rw [(h.axes a).1]
  split <;> exact h

theorem Halted.checkParked (h : Halted s) : Halted (checkParked a s) := by
  unfold Machine.checkParked
  split
  · exact h.loseReference
  · exact h

theorem Halted.periodLinger (h : Halted s) : Halted (periodLinger a s) := by
  unfold Machine.periodLinger
  split
  · next hc =>
    simp only [Bool.and_eq_true, beq_iff_eq] at hc
    exact absurd hc.2 (h.not_released hc.1.1)
  · exact h

theorem Halted.axesPeriod (h : Halted s) (before : Axis → Int) : Halted (axesPeriod before s) :=
  have hcompensated := (h.eachAxis (f := Machine.moveLocally) fun _ _ => .moveLocally).eachAxis
    (f := Machine.compensateAxis before) fun _ _ ht => ht.compensateAxis before
  (hcompensated.eachAxis fun _ _ => .checkFollowing).eachAxis fun _ _ => .endLocal

theorem Halted.periodEnds (h : Halted s) : Halted (periodEnds s) :=
  (((h.eachAxis fun _ _ => .checkParked).eachAxis fun _ _ => .setCondition).eachAxis fun _ _ => .periodLinger).eachAxis
    fun d _ hu => hu.setAxis (hu.axes d) rfl

theorem Halted.plannerWork (h : Halted s) : plannerWork s = (s, false) := by
  unfold Machine.plannerWork
  rw [h.planner]

theorem Halted.plannerFinish (h : Halted s) (completes : Bool) : plannerFinish completes s = s := by
  unfold Machine.plannerFinish
  rw [h.planner]

theorem Halted.interpolate (h : Halted s) : Halted (interpolate s) := by
  have hclocked : Halted { s with clocks := { s.clocks with interpolation := 2 } } := h.of_eq
  have haxes := hclocked.axesPeriod fun a => (s.axis a).commanded
  unfold Machine.interpolate afterWork
  rw [hclocked.plannerWork, haxes.plannerFinish]
  exact haxes.periodEnds

end

end Sys2Proof.Machine

namespace Sys2Proof.Machine

section

variable {s t : State} {a : Axis}

/-! ### The pendant of a part at a stand (R163 to R175) -/

theorem Halted.setPendant (h : Halted s) {p : Pendant} (hs : p.site = s.pendant.site)
    (hw : p.withdrawing = s.pendant.withdrawing) : Halted { s with pendant := p } :=
  h.of_eq (hsite := ⟨hs, hw⟩)

theorem Halted.giveStop (h : Halted s) : giveStop a s = s := by
  unfold Machine.giveStop
  rw [(h.axes a).1]

theorem Halted.withdraw (h : Halted s) : Halted (withdraw s) := by
  obtain ⟨haxes, -, hsite⟩ := withdraw_idle fun a => (h.axes a).1
  obtain ⟨hunarmed, hplanner, hstand, hrequests, hclamps, hgear, hspindle, hpumps, -⟩ := h
  have haxis : ∀ d, (Machine.withdraw s).axis d = s.axis d := fun d => by simp [State.axis, haxes]
  refine ⟨by simpa using hunarmed, by simpa using hplanner, fun d => haxis d ▸ hstand d, by simpa using hrequests,
    fun d hd => ?_, by simpa using hgear, by simpa using hspindle, by simpa using hpumps, hsite⟩
  rw [clampTakesPart_of_params (s := s) (by rw [haxis])] at hd
  simpa [State.clamp] using hclamps d hd

theorem Halted.cycleStart (h : Halted s) : Halted (cycleStart s) := by
  have hrefused : firstRefusal (startRefusals s) = some .estopActive := by
    simp [startRefusals, firstRefusal, h.unarmed]
  unfold Machine.cycleStart
  rw [hrefused]
  exact h

theorem Halted.operatorStop (h : Halted s) : Halted (operatorStop s) := by
  have hstopped : Spindle.Zero { s.spindle with stoppedByOperator := true } := h.spindle
  unfold Machine.operatorStop
  rw [h.planner]
  exact (h.setSpindle hstopped).formSpeed

theorem Halted.floodToggle (h : Halted s) : Halted (floodToggle s) := by
  unfold Machine.floodToggle
  rw [setRequests_unarmed h.unarmed]
  exact h

theorem Halted.takeButtons (h : Halted s) (previous r : ScanReply) : Halted (takeButtons previous r s) :=
  have hpressed : ∀ t, Halted t → Halted
      (Machine.doIf (t.pendant.site == .pendant || t.planner.state == .idle) Machine.floodToggle t) :=
    fun _ ht => ht.doIf fun _ => .floodToggle
  (((((h.doIf fun _ => .raiseCause).doIf fun _ => .operatorStop).doIf hpressed).doIf
    fun _ ht => ht.raiseCause.withdraw).doIf fun _ => .withdraw).doIf fun _ => .cycleStart

theorem Halted.judgeSite (h : Halted s) (r : ScanReply) : Halted (judgeSite r s) := by
  have hno : mayTakeSite r s = false := by simp [mayTakeSite, h.unarmed]
  unfold Machine.judgeSite
  split
  · split
    · exact h.withdraw
    · exact h
  · rw [hno]
    exact h

theorem Halted.selectorChange (h : Halted s) (previous r : ScanReply) : Halted (selectorChange previous r s) := by
  unfold Machine.selectorChange
  split
  · exact h
  · dsimp only
    split
    · exact h.setPendant rfl rfl
    · rw [h.giveStop]
      exact h.setPendant rfl rfl

theorem Halted.unblock (h : Halted s) (r : ScanReply) : Halted (unblock r s) := by
  unfold Machine.unblock
  split
  · exact h
  · exact h.of_eq

/-- No jog is taken: the site is the host's, or on its way there (R168). -/
theorem Halted.jogStage (h : Halted s) (previous r : ScanReply) : Halted (jogStage previous r s) := by
  have hchanged := (h.selectorChange previous r).unblock r
  unfold Machine.jogStage
  dsimp only
  split
  · exact hchanged
  · split
    · next hc =>
      simp only [Bool.and_eq_true, beq_iff_eq, Bool.not_eq_eq_eq_not, Bool.not_true] at hc
      rcases hchanged.site with hs | hs
      · simp [hs] at hc
      · simp [hs] at hc
    · exact hchanged

theorem Halted.setOverrideValues (h : Halted s) (feed spindle : Nat) : Halted (setOverrideValues feed spindle s) := by
  have hset : Halted { s with pendant := { s.pendant with feedOverride := feed, spindleOverride := spindle } } := h.of_eq
  unfold Machine.setOverrideValues
  split
  · exact hset
  · exact hset.formSpeed

theorem Halted.comeOnline (h : Halted s) (r : ScanReply) : Halted (comeOnline r s) := by
  have honline : Halted { s with pendant := { s.pendant with link := .online, goodRun := 0 } } := h.setPendant rfl rfl
  exact (honline.setCondition.setOverrideValues _ _).setPendant rfl rfl

theorem Halted.scanGood (h : Halted s) (r : ScanReply) : Halted (scanGood r s) := by
  have hheard : ∀ n, Halted { s with pendant := { s.pendant with misses := 0, goodRun := n } } := fun _ =>
    h.setPendant rfl rfl
  have honline := ((hheard s.pendant.goodRun).unblock r).comeOnline r
  unfold Machine.scanGood
  split
  · exact honline
  · exact (((((hheard s.pendant.goodRun).setOverrideValues _ _).takeButtons _ r).judgeSite r).jogStage _ r).setPendant
      rfl rfl
  · split
    · exact honline
    · exact ((hheard _).unblock r).setPendant rfl rfl
  · exact h

theorem Halted.becomeLost (h : Halted s) : Halted (becomeLost s) := by
  have hlost : Halted { s with pendant := { s.pendant with link := .lost, goodRun := 0 } } := h.setPendant rfl rfl
  unfold Machine.becomeLost
  dsimp only
  split
  · exact hlost.raiseFault.withdraw.raiseCause
  · exact hlost.raiseFault.withdraw

theorem Halted.scanMiss (h : Halted s) : Halted (scanMiss s) := by
  have hmissed : Halted (missCounted s) := by
    unfold missCounted
    split
    · exact Halted.becomeLost (h.setPendant rfl rfl)
    · exact h.setPendant rfl rfl
  unfold Machine.scanMiss
  split
  · exact hmissed
  · exact hmissed
  · exact h.setPendant rfl rfl
  · exact h

theorem Halted.replyArrives (h : Halted s) (bytes : List Byte) (fields : Option ScanReply) :
    Halted (replyArrives bytes fields s) := by
  have hclosed : Halted { s with pendant := { s.pendant with window := none } } := h.setPendant rfl rfl
  unfold Machine.replyArrives
  split
  · exact h
  · split
    · split
      · exact hclosed.scanGood _
      · exact hclosed.scanMiss
    · exact hclosed.scanMiss

theorem Halted.windowCloses (h : Halted s) : Halted (windowCloses s) := by
  have hclosed : Halted { s with pendant := { s.pendant with window := none } } := h.setPendant rfl rfl
  unfold Machine.windowCloses
  split
  · exact h
  · exact hclosed.scanMiss

/-! ### Spindle, gears and coolant of a part at a stand (R106 to R157) -/

theorem Halted.updateReference (h : Halted s) : Halted (updateReference s) := by
  have hoff : referenceRuns s = false := by simp [referenceRuns, spindleEnable, h.unarmed]
  unfold Machine.updateReference
  rw [hoff]
  exact h

theorem Halted.endWindow (h : Halted s) : Halted (endWindow s) := by
  have hrenewed : Spindle.Zero (renewAtSpeed (renewStopped (renewSpeed s.spindle))) := h.spindle
  have hwindow := h.setSpindle hrenewed
  have hchecked : ∀ t, Halted t → Halted (checkStall t) := fun t ht => by
    have hstall : ∀ n, Halted { t with spindle := { t.spindle with stallCount := n } } := fun n =>
      ht.setSpindle (p := { t.spindle with stallCount := n }) ht.spindle
    unfold checkStall
    split
    · split
      · exact (hstall 30).raiseFault.spindleFaultActions
      · exact hstall _
    · exact hstall _
  have hreversed : ∀ t, Halted t → Halted (reverseIfStopped t) := fun t ht => by
    unfold reverseIfStopped
    split
    · refine ht.setSpindle ?_
      unfold withTarget
      exact ht.spindle
    · exact ht
  have hdone := hreversed _ (hchecked _ hwindow)
  unfold Machine.endWindow planIfStopped
  rw [hdone.gear]
  exact hdone

theorem Halted.inverterChange (h : Halted s) (active : Bool) : Halted (inverterChange active s) := by
  have hwritten : Halted { s with spindle := { s.spindle with inverterFault := active } } :=
    h.setSpindle (p := { s.spindle with inverterFault := active }) h.spindle
  unfold Machine.inverterChange
  dsimp only
  split
  · exact h
  · split
    · exact Halted.spindleFaultActions (Halted.raiseFault hwritten.setCondition)
    · exact hwritten.setCondition

theorem Halted.creepDrive (h : Halted s) (d : Rotation) : Halted (creepDrive d s) := by
  have hoff : spindleEnable s = false := by simp [spindleEnable, h.unarmed]
  exact h.setSpindle ⟨h.spindle.1, h.spindle.2.1, by simp [hoff]⟩

theorem Halted.alternate (h : Halted s) : Halted (alternate s) := by
  have hcreep : ∀ c, Halted { s with gear := { s.gear with creep := c } } := fun _ => h.of_eq
  unfold Machine.alternate
  split
  · exact h
  · exact (hcreep _).creepDrive _

theorem Halted.forkSwitchMoves (h : Halted s) (w : ForkSwitch) (closed : Bool) :
    Halted (forkSwitchMoves w closed s) := by
  have hwritten : Halted { s with gear := { s.gear with switches := ForkSwitches.put s.gear.switches w closed } } :=
    h.of_eq
  have hmeans : ∀ t, Halted t → Halted (forkSwitchMeans w t) := fun t ht => by
    unfold forkSwitchMeans
    rw [ht.gear]
    dsimp only
    split
    · exact ht
    · split
      · exact ht.gearSlip _
      · exact ht.deriveState.coolantRejudge
      · exact ht.deriveState.coolantRejudge
      · exact ht
  unfold Machine.forkSwitchMoves
  split
  · exact h
  · exact hmeans _ hwritten

theorem Halted.pauseExpires (h : Halted s) (hg : GearSound s) : pauseExpires s = s := by
  obtain ⟨-, -, -, -, htimer, -⟩ := hg
  unfold Machine.pauseExpires
  split
  · rfl
  · next hp =>
    have hstep := htimer.1 (by simp [hp])
    rw [h.gear] at hstep
    cases hstep

theorem Halted.useSample (h : Halted s) : useSample s = s := by
  unfold Machine.useSample
  rw [h.pumps.2]

theorem Halted.buildExpires (h : Halted s) (hc : CoolantSound s) : buildExpires s = s := by
  obtain ⟨-, -, htimer, -⟩ := hc
  unfold Machine.buildExpires
  split
  · rfl
  · next hb =>
    have htsc := htimer (by simp [hb])
    rw [h.pumps.2] at htsc
    cases htsc

theorem Halted.setCoolant (h : Halted s) {c : Coolant} (hc : c.flood = .off ∧ c.tsc = .off) :
    Halted { s with coolant := c } :=
  h.of_eq (hpumps := by rw [hc.1, hc.2, h.pumps.1, h.pumps.2]; exact ⟨rfl, rfl⟩)

theorem Halted.purgeExpires (h : Halted s) : Halted (purgeExpires s) := by
  unfold Machine.purgeExpires
  split
  · exact h
  · exact h.setCoolant ⟨h.pumps.1, rfl⟩

theorem Halted.tankChange (h : Halted s) (low : Bool) : Halted (tankChange low s) := by
  have hlow : ∀ b, Halted { s with coolant := { s.coolant with tankLow := b } } := fun _ => h.setCoolant h.pumps
  have hraised : Halted (Machine.raiseFault .coolantLevel .absent { s with coolant := { s.coolant with tankLow := true } }) :=
    (hlow true).raiseFault
  have hflood : Halted (levelStopsFlood
      (Machine.raiseFault .coolantLevel .absent { s with coolant := { s.coolant with tankLow := true } })) :=
    hraised.setCoolant ⟨by simp [h.pumps.1], by simp [h.pumps.2]⟩
  have hstopped : levelStopsTsc (levelStopsFlood (Machine.raiseFault .coolantLevel .absent
      { s with coolant := { s.coolant with tankLow := true } })) = levelStopsFlood
      (Machine.raiseFault .coolantLevel .absent { s with coolant := { s.coolant with tankLow := true } }) := by
    unfold levelStopsTsc
    rw [hflood.pumps.2]
  unfold Machine.tankChange
  split
  · exact h
  · split
    · unfold tankGoesLow
      rw [hstopped, raiseIf_idle hflood.planner]
      exact hflood
    · exact (hlow false).setCondition

end

end Sys2Proof.Machine

namespace Sys2Proof.Machine

/-! ### The chain's state outside its own inputs (R180, R188)

Nothing but a trip, a channel and Clear Faults moves the E-stop state. -/

section

variable (s : State) (a : Axis)

@[simp] theorem awaitSpeed_estop : (awaitSpeed s).stop.estop = s.stop.estop := by
  unfold awaitSpeed
  (repeat' split) <;> simp

@[simp] theorem resumeProgram_estop : (resumeProgram s).stop.estop = s.stop.estop := by
  unfold resumeProgram
  (repeat' split) <;> simp

@[simp] theorem startProgram_estop : (startProgram s).stop.estop = s.stop.estop := by
  unfold startProgram
  (repeat' split) <;> simp

@[simp] theorem cycleStart_estop : (cycleStart s).stop.estop = s.stop.estop := by
  unfold cycleStart
  split <;> simp

@[simp] theorem overtravelOpens_estop (d : Sign) : (overtravelOpens a d s).stop.estop = s.stop.estop := by
  simp [overtravelOpens]

@[simp] theorem overtravelIfOpen_estop (d : Sign) : (overtravelIfOpen a d s).stop.estop = s.stop.estop := by
  unfold overtravelIfOpen
  split <;> simp

@[simp] theorem driveFaultIfActive_estop : (driveFaultIfActive a s).stop.estop = s.stop.estop := by
  unfold driveFaultIfActive
  split <;> simp

@[simp] theorem giveDemand_estop (d : JogDemand) : (giveDemand a d s).stop.estop = s.stop.estop := by
  unfold giveDemand
  (repeat' split) <;> simp

@[simp] theorem buttonDemand_estop (r : ScanReply) : (buttonDemand a r s).stop.estop = s.stop.estop := by
  unfold buttonDemand
  (repeat' split) <;> simp

@[simp] theorem takeWheel_estop (n : Int) : (takeWheel a n s).stop.estop = s.stop.estop := by
  unfold takeWheel giveWheelGoal
  (repeat' split) <;> simp

@[simp] theorem takeJog_estop (q r : ScanReply) : (takeJog q r a s).stop.estop = s.stop.estop := by
  unfold takeJog
  (repeat' split) <;> simp

@[simp] theorem jogStage_estop (q r : ScanReply) : (jogStage q r s).stop.estop = s.stop.estop := by
  unfold jogStage
  dsimp only
  (repeat' split) <;> simp

theorem doIf_estop {f : State → State} (h : ∀ t, (f t).stop.estop = t.stop.estop) (b : Bool) :
    (doIf b f s).stop.estop = s.stop.estop := by
  unfold doIf
  split
  · exact h s
  · rfl

@[simp] theorem takeButtons_estop (q r : ScanReply) : (takeButtons q r s).stop.estop = s.stop.estop := by
  simp [takeButtons, doIf_estop]

@[simp] theorem comeOnline_estop (r : ScanReply) : (comeOnline r s).stop.estop = s.stop.estop := by
  simp [comeOnline, storeReply]

@[simp] theorem scanGood_estop (r : ScanReply) : (scanGood r s).stop.estop = s.stop.estop := by
  unfold scanGood takeReply
  (repeat' split) <;> simp [storeReply]

@[simp] theorem becomeLost_estop : (becomeLost s).stop.estop = s.stop.estop := by
  unfold becomeLost
  dsimp only
  split <;> simp

@[simp] theorem scanMiss_estop : (scanMiss s).stop.estop = s.stop.estop := by
  unfold scanMiss missCounted
  (repeat' split) <;> simp

@[simp] theorem replyArrives_estop (bytes : List Byte) (fields : Option ScanReply) :
    (replyArrives bytes fields s).stop.estop = s.stop.estop := by
  unfold replyArrives
  (repeat' split) <;> simp

@[simp] theorem windowCloses_estop : (windowCloses s).stop.estop = s.stop.estop := by
  unfold windowCloses
  split <;> simp

@[simp] theorem takePark_estop (x : Axis × Bool) : (takePark x s).stop.estop = s.stop.estop := by
  unfold takePark enterParked parkClamp leaveParked
  (repeat' split) <;> simp

@[simp] theorem takeLoop_estop (x : Axis × Bool) : (takeLoop x s).stop.estop = s.stop.estop := by
  unfold takeLoop leaveLoop
  dsimp only
  (repeat' split) <;> simp

@[simp] theorem takeReference_estop : (takeReference a s).stop.estop = s.stop.estop := by
  unfold takeReference referenceNormal
  (repeat' split) <;> simp

@[simp] theorem acceptAxis_estop (p : AxisParams) : (acceptAxis a p s).stop.estop = s.stop.estop := by
  unfold acceptAxis
  split <;> simp

@[simp] theorem driveFaultChange_estop (v : Bool) : (driveFaultChange a v s).stop.estop = s.stop.estop := by
  unfold driveFaultChange
  dsimp only
  (repeat' split) <;> simp

@[simp] theorem overtravelChange_estop (d : Sign) (v : Bool) :
    (overtravelChange a d v s).stop.estop = s.stop.estop := by
  unfold overtravelChange
  dsimp only
  (repeat' split) <;> simp

@[simp] theorem clampSwitchMoves_estop (v : Bool) : (clampSwitchMoves a v s).stop.estop = s.stop.estop := by
  unfold clampSwitchMoves clampSwitchMeans clampSwitchFault
  dsimp only
  (repeat' split) <;> simp

@[simp] theorem strokeTimesOut_estop (f : ValveFunction) : (strokeTimesOut f s).stop.estop = s.stop.estop := by
  unfold strokeTimesOut
  split <;> simp

@[simp] theorem lingerRunsOut_estop : (lingerRunsOut a s).stop.estop = s.stop.estop := by
  unfold lingerRunsOut
  split <;> simp

@[simp] theorem pressureOkMoves_estop (v : Bool) : (pressureOkMoves v s).stop.estop = s.stop.estop := by
  unfold pressureOkMoves
  dsimp only
  (repeat' split) <;> simp

@[simp] theorem hydraulicExpires_estop : (hydraulicExpires s).stop.estop = s.stop.estop := by
  unfold hydraulicExpires
  split <;> simp

@[simp] theorem checkStall_estop : (checkStall s).stop.estop = s.stop.estop := by
  unfold checkStall
  (repeat' split) <;> simp

@[simp] theorem endWindow_estop : (endWindow s).stop.estop = s.stop.estop := by
  unfold endWindow planIfStopped
  split <;> simp

@[simp] theorem inverterFaultActs_estop : (inverterFaultActs s).stop.estop = s.stop.estop := by
  simp [inverterFaultActs]

@[simp] theorem inverterChange_estop (v : Bool) : (inverterChange v s).stop.estop = s.stop.estop := by
  unfold inverterChange
  dsimp only
  (repeat' split) <;> simp

@[simp] theorem gearSlip_estop (f : Fork) : (gearSlip f s).stop.estop = s.stop.estop := by
  simp [gearSlip]

@[simp] theorem forkSwitchMoves_estop (k : ForkSwitch) (v : Bool) :
    (forkSwitchMoves k v s).stop.estop = s.stop.estop := by
  unfold forkSwitchMoves forkSwitchMeans
  (repeat' split) <;> simp

@[simp] theorem pauseExpires_estop : (pauseExpires s).stop.estop = s.stop.estop := by
  unfold pauseExpires
  split
  · rfl
  · rcases withOpportunity_cases pauseEnds s with ⟨-, e⟩ | ⟨-, e⟩ <;> simp [e]

@[simp] theorem pressureFault_estop : (pressureFault s).stop.estop = s.stop.estop := by
  simp [pressureFault]

@[simp] theorem useSample_estop : (useSample s).stop.estop = s.stop.estop := by
  unfold useSample buildSample lossSample
  (repeat' split) <;> simp

@[simp] theorem buildExpires_estop : (buildExpires s).stop.estop = s.stop.estop := by
  unfold buildExpires
  (repeat' split) <;> simp

@[simp] theorem tankChange_estop (v : Bool) : (tankChange v s).stop.estop = s.stop.estop := by
  unfold tankChange tankGoesLow
  (repeat' split) <;> simp

@[simp] theorem removeCleared_estop : (removeCleared s).stop.estop = s.stop.estop := by
  rw [removeCleared_eq]

@[simp] theorem armingActs_estop : (armingActs s).stop.estop = s.stop.estop := by
  unfold armingActs
  dsimp only
  split <;> simp

@[simp] theorem releaseBlocks_estop (removed : List FaultEntry) (armed : Bool) :
    (releaseBlocks removed armed s).stop.estop = s.stop.estop := by
  unfold releaseBlocks
  dsimp only
  split <;> simp [eachAxis]

/-- Clear Faults arms a RELEASED chain, and leaves the state of another (R188). -/
theorem clearAll_estop :
    (clearAll s).stop.estop = if s.stop.estop = .released then .armed else s.stop.estop := by
  unfold clearAll armChain
  simp only [releaseBlocks_estop, removeCleared_estop, beq_iff_eq]
  split
  · rfl
  · simp

end

end Sys2Proof.Machine

namespace Sys2Proof.Machine

section

variable {s t : State} {a : Axis} {f : State → State}

/-! ### The Valve Bank and the stop chain of a part at a stand (R90 to R101, R180 to R189) -/

theorem Halted.grantOpportunity (h : Halted s) : grantOpportunity s = s := grantOpportunity_nil h.requests

theorem Halted.clampSwitchMoves (h : Halted s) (closed : Bool) : Halted (clampSwitchMoves a closed s) := by
  have hwritten : Halted (s.setClamp a { s.clamp a with switchClosed := closed }) := h.setClamp (h.clamps a)
  have hmeans : ∀ t, Halted t → clampTakesPart t a = true → Halted (clampSwitchMeans a closed t) := by
    intro t ht hpart
    have hfault : Halted (clampSwitchFault a t) := by
      have hraised : Halted (Machine.raiseFault .clampSwitch (.axis a) t) := ht.raiseFault
      have hset : Halted (setLinger a none (setClampState a .fault (Machine.raiseFault .clampSwitch (.axis a) t))) := by
        have hstate : Halted (setClampState a .fault (Machine.raiseFault .clampSwitch (.axis a) t)) :=
          hraised.setClamp fun _ => .inr (.inr rfl)
        exact hstate.setClamp (hstate.clamps a)
      exact hset.immediateStop
    unfold clampSwitchMeans
    rcases ht.clamps a hpart with hs | hs | hs <;> rw [hs] <;> cases closed
    · exact ht
    · exact hfault
    · exact ht.setClamp fun _ => .inl rfl
    · exact ht
    · exact ht
    · exact ht
  unfold Machine.clampSwitchMoves
  dsimp only
  split
  · exact h
  · split
    · next hpart => exact hmeans _ hwritten hpart
    · exact hwritten

theorem Halted.strokeTimesOut (h : Halted s) (w : ValveFunction) : strokeTimesOut w s = s := by
  simp [Machine.strokeTimesOut, activeRequest, h.requests]

/-- No linger timer runs, for a clamp that has one is RELEASED and takes part (R97). -/
theorem Halted.lingerRunsOut (h : Halted s) (hv : ValveSound s) : lingerRunsOut a s = s := by
  have hserved := hv.served rfl
  unfold Machine.lingerRunsOut
  split
  · rfl
  · next hl =>
    have hsome : (s.clamp a).linger.isSome = true := by simp [hl]
    exact absurd (hserved.linger a hsome) (h.not_released (hserved.takesPart_of_linger hsome))

theorem Halted.pressureOkMoves (h : Halted s) (ok : Bool) : Halted (pressureOkMoves ok s) := by
  have hwritten : Halted (Machine.setCondition .hydraulicLow .absent (!ok)
      { s with valve := { s.valve with pressureOk := ok } }) := Halted.setCondition h.of_eq
  unfold Machine.pressureOkMoves
  dsimp only
  split
  · exact h
  · split
    · rw [hwritten.grantOpportunity]
      exact hwritten
    · exact hwritten

theorem Halted.hydraulicExpires (h : Halted s) : Halted (hydraulicExpires s) := by
  have hexpired : Halted { s with valve := { s.valve with hydraulicWait := none, hydraulicExpired := true } } := h.of_eq
  unfold Machine.hydraulicExpires
  split
  · exact h
  · exact hexpired.raiseFault

theorem Halted.channelsMove (h : Halted s) (open1 open2 : Bool) (hp : PlannerSound (channelsMove open1 open2 s)) :
    Halted (channelsMove open1 open2 s) := by
  have htaken : Halted (takeChannels open1 open2 s) := by
    have hset : Halted { s with
        stop :=
          { s.stop with
            channel1Open := open1, channel2Open := open2
            discrepancy := discrepancyTimer (channelsDisagree s) (open1 != open2) s.stop.discrepancy } } := h.of_eq
    exact hset.setCondition.setCondition
  unfold Machine.channelsMove at hp ⊢
  split
  · exact h
  · next hmoved =>
    rw [if_neg hmoved] at hp
    unfold judgeChannels at hp ⊢
    split
    · next he => exact absurd he htaken.unarmed
    · next he =>
      rw [he] at hp
      dsimp only at hp
      split
      · next hb => rw [if_pos hb] at hp; exact trip_halted hp
      · exact htaken
    · split
      · exact { htaken with unarmed := by simp }
      · exact htaken

theorem Halted.discrepancyExpires (h : Halted s) (hp : PlannerSound (discrepancyExpires s)) :
    Halted (discrepancyExpires s) := by
  have hstopped : Halted { s with stop := { s.stop with discrepancy := none } } := h.of_eq
  unfold Machine.discrepancyExpires at hp ⊢
  split
  · exact h
  · next hd =>
    rw [hd] at hp
    dsimp only at hp
    unfold discrepancyActs at hp ⊢
    split
    · next he => exact absurd he h.unarmed
    · next he =>
      rw [show s.stop.estop = .released from he] at hp
      exact trip_halted hp
    · exact hstopped.raiseFault

theorem Halted.releaseClamp (h : Halted s) : Halted (releaseClamp a s) := by
  unfold Machine.releaseClamp
  split
  · exact h.setClamp fun _ => derivedClamp_shut _
  · exact h

theorem Halted.dropCauses (h : Halted s) : Halted (dropCauses s) :=
  h.of_eq (hplanner := by simp [Machine.dropCauses])

theorem Halted.releaseGearbox (h : Halted s) : releaseGearbox s = s := by
  simp [Machine.releaseGearbox, h.unarmed]

theorem Halted.coolantRelease (h : Halted s) : coolantRelease s = s := by
  simp [Machine.coolantRelease, h.unarmed]

/-- Clear Faults that arms no chain leaves the part at a stand (R188, R189). -/
theorem Halted.clearAll (h : Halted s) (hu : (clearAll s).stop.estop ≠ .armed) : Halted (clearAll s) := by
  have hreleased : s.stop.estop ≠ .released := fun hr => hu (by rw [clearAll_estop, if_pos hr])
  have hentries : Halted (entriesRemoved s s.stop.estop (removeCleared s).link) := by
    unfold entriesRemoved
    exact h.of_eq
  have hlatches : ∀ d t, Halted t → Halted (Machine.eachAxis (releaseLatch (clearable s) d) t) := fun d t ht =>
    ht.eachAxis fun c u hc => by
      unfold releaseLatch
      split
      · exact hc.setAxis (putLatch_atStand (hc.axes c) d false) (putLatch_params _ _ _)
      · exact hc
  have hclamps := (hlatches .minus _ (hlatches .plus _ hentries)).eachAxis (f := Machine.releaseClamp)
    fun _ _ => .releaseClamp
  rw [clearAll_unarmed hreleased]
  unfold blocksReleased gearboxReleased
  rw [hclamps.dropCauses.releaseGearbox, hclamps.dropCauses.coolantRelease]
  exact hclamps.dropCauses

/-! ### Orders to a part at a stand -/

theorem Halted.loadGears (h : Halted s) (g : GearLoad) : Halted (loadGears g s) := by
  have hloaded : Halted { s with
      gear :=
        { s.gear with
          table := some g.table, autoRange := g.autoRange, creepSpeed := g.creepSpeed, retryLimit := g.retryLimit } } :=
    h.of_eq
  exact hloaded.formSpeed.coolantRejudge

theorem withTarget_zero {p : Spindle} (h : p.Zero) (s : State) : (withTarget s p).Zero := by
  unfold withTarget
  split <;> exact h

theorem Halted.loadSpindle (h : Halted s) (x : Nat × Nat × Nat) : Halted (loadSpindle x s) := by
  have hset : Spindle.Zero { s.spindle with motorMax := x.1, ramp := x.2.1, tolerance := x.2.2 } := h.spindle
  exact h.setSpindle (withTarget_zero hset _)

theorem Halted.loadCoolant (h : Halted s) (c : CoolantParams) : Halted (loadCoolant c s) := by
  have hchanged : ∀ t, Halted t → Halted (unionChanged t) := fun t ht => by
    unfold unionChanged
    split
    · exact ht.formSpeed.coolantRejudge
    · exact ht.coolantRejudge
  exact hchanged _ (h.setCoolant h.pumps)

theorem Halted.abortProgram (h : Halted s) : Halted (abortProgram s) := by
  have habort : ∀ c u, Halted u → Halted (abortReference c u) := fun c u hu => by
    unfold abortReference
    rw [(hu.axes c).1]
    exact hu
  have haborted := h.eachAxis habort
  unfold Machine.abortProgram plannerAbort
  rw [h.planner, gearAbort_idle h.gear]
  simp only [beq_self_eq_true, if_true]
  rw [haborted.planner]
  exact haborted.completeAbort

/-- An order refused with ESTOP_ACTIVE has no effect to judge. -/
theorem Halted.refused {checks : List (Bool × RefuseCode)} (h : Halted s) (hc : ∀ c ∈ checks, c.1 = false)
    (hm : (s.stop.estop != .armed, .estopActive) ∈ checks) : False := by
  have hestop := hc _ hm
  simp only [bne_eq_false_iff_eq] at hestop
  exact h.unarmed hestop

end

end Sys2Proof.Machine

namespace Sys2Proof.Machine

section

variable {s t : State} {a : Axis} {f : State → State}

/-- What an order leaves of a part at a stand: still at a stand, or an armed chain. -/
def StandsUnlessArmed (s : State) : Prop := s.stop.estop ≠ .armed → Halted s

theorem Halted.stands (h : Halted s) : StandsUnlessArmed s := fun _ => h

theorem StandsUnlessArmed.link (h : StandsUnlessArmed s) (l : Link) : StandsUnlessArmed { s with link := l } :=
  fun hu => (h hu).of_eq

theorem ownerOf_stands (kind : Byte) (tag : Tag) (p : List Byte) :
    OwnerTakes Halted StandsUnlessArmed (ownerOf kind tag p) := by
  have queued : ∀ {s : State} {e : Entry}, Halted s → StandsUnlessArmed (appendEntry e s) := fun h =>
    Halted.stands (h.of_eq (hplanner := rfl))
  unfold ownerOf
  split
  case h_1 => exact ownerTakes_field fun _ _ h _ _ => queued h
  case h_2 => exact ownerTakes_field fun _ _ h _ _ => queued h
  case h_3 => exact ownerTakes_field fun _ _ h _ _ => queued h
  case h_4 => exact ownerTakes_field fun _ _ h _ _ => queued h
  case h_5 => exact ownerTakes_empty fun _ h _ => queued h
  case h_6 => exact ownerTakes_empty fun _ h _ => queued h
  case h_7 => exact ownerTakes_empty fun _ h hc => (h.refused hc (by simp [startRefusals])).elim
  case h_8 => exact ownerTakes_empty fun _ h _ => h.raiseCause.stands
  case h_9 => exact ownerTakes_empty fun _ h _ => h.abortProgram.stands
  case h_10 => exact ownerTakes_field fun _ _ h _ hc => (h.refused hc (by simp [spindleSetRefusals])).elim
  case h_11 => exact ownerTakes_field fun _ _ h _ hc => (h.refused hc (by simp [gearSetRefusals])).elim
  case h_12 => exact ownerTakes_field fun _ _ h _ hc => (h.refused hc (by simp [coolantSetRefusals])).elim
  case h_13 => exact ownerTakes_field fun _ _ h _ hc => (h.refused hc (by simp [referenceRefusals])).elim
  case h_14 => exact ownerTakes_field fun _ _ h _ _ => (h.takePark _).stands
  case h_15 => exact ownerTakes_field fun _ _ h _ _ => (h.takeLoop _).stands
  case h_16 => exact ownerTakes_field fun _ _ h _ _ => (h.acceptAxis _).stands
  case h_17 => exact ownerTakes_field fun _ _ h _ _ => Halted.stands h.of_eq
  case h_18 => exact ownerTakes_field fun _ _ h _ _ => (h.loadGears _).stands
  case h_19 => exact ownerTakes_field fun _ _ h _ _ => (h.loadSpindle _).stands
  case h_20 => exact ownerTakes_field fun _ _ h _ _ => (h.loadCoolant _).stands
  case h_21 => exact ownerTakes_field fun _ _ h _ _ => Halted.stands (h.of_eq (hrequests := rfl))
  case h_22 => exact ownerTakes_field fun _ _ h _ _ => (h.setOverrideValues _ _).stands
  case h_23 => exact ownerTakes_field fun _ _ h _ _ => Halted.stands (h.of_eq (hsite := ⟨rfl, rfl⟩))
  case h_24 => exact ownerTakes_field fun _ _ h _ _ => Halted.stands h.of_eq
  case h_25 =>
    intro s u r h hu
    cases (judge_eq_accept hu).2
    exact h.clearAll
  case h_26 => exact ownerTakes_query fun _ h => h.stands
  case h_27 => exact ownerTakes_query fun _ h => h.stands
  case h_28 => exact ownerTakes_query fun _ h => h.stands
  case h_29 =>
    intro s u r h hu
    cases (judge_eq_accept hu).2
    exact h.stands
  case h_30 => intro s u r _ hu; cases hu

/-! ### The armed chain (R188) -/

/-- The chain is ARMED. -/
def Armed (s : State) : Prop := s.stop.estop = .armed

theorem withOpportunity_estop (h : (f s).stop.estop = s.stop.estop) :
    (withOpportunity f s).stop.estop = s.stop.estop := by
  rcases withOpportunity_cases f s with ⟨-, e⟩ | ⟨-, e⟩ <;> simp [e, h]

theorem ownerOf_armed (kind : Byte) (tag : Tag) (p : List Byte) : OwnerTakes Armed Armed (ownerOf kind tag p) := by
  have kept : ∀ {s t : State}, Armed s → t.stop.estop = s.stop.estop → Armed t := fun h ht => ht.trans h
  unfold ownerOf
  split
  case h_1 => exact ownerTakes_field fun _ _ h _ _ => kept h rfl
  case h_2 => exact ownerTakes_field fun _ _ h _ _ => kept h rfl
  case h_3 => exact ownerTakes_field fun _ _ h _ _ => kept h rfl
  case h_4 => exact ownerTakes_field fun _ _ h _ _ => kept h rfl
  case h_5 => exact ownerTakes_empty fun _ h _ => kept h rfl
  case h_6 => exact ownerTakes_empty fun _ h _ => kept h rfl
  case h_7 => exact ownerTakes_empty fun _ h _ => kept h (by simp)
  case h_8 => exact ownerTakes_empty fun _ h _ => kept h (by simp)
  case h_9 => exact ownerTakes_empty fun _ h _ => kept h (by simp)
  case h_10 => exact ownerTakes_field fun _ _ h _ _ => kept h (by simp)
  case h_11 => exact ownerTakes_field fun _ _ h _ _ => kept h (withOpportunity_estop (by simp))
  case h_12 => exact ownerTakes_field fun _ _ h _ _ => kept h (by simp)
  case h_13 => exact ownerTakes_field fun _ _ h _ _ => kept h (by simp)
  case h_14 => exact ownerTakes_field fun _ _ h _ _ => kept h (by simp)
  case h_15 => exact ownerTakes_field fun _ _ h _ _ => kept h (by simp)
  case h_16 => exact ownerTakes_field fun _ _ h _ _ => kept h (by simp)
  case h_17 => exact ownerTakes_field fun _ _ h _ _ => kept h rfl
  case h_18 => exact ownerTakes_field fun _ _ h _ _ => kept h (by simp)
  case h_19 => exact ownerTakes_field fun _ _ h _ _ => kept h (by simp)
  case h_20 => exact ownerTakes_field fun _ _ h _ _ => kept h (by simp)
  case h_21 => exact ownerTakes_field fun _ _ h _ _ => kept h rfl
  case h_22 => exact ownerTakes_field fun _ _ h _ _ => kept h (by simp)
  case h_23 => exact ownerTakes_field fun _ _ h _ _ => kept h rfl
  case h_24 => exact ownerTakes_field fun _ _ h _ _ => kept h (by simp)
  case h_25 =>
    intro s u r h hu
    cases (judge_eq_accept hu).2
    refine kept h ?_
    rw [clearAll_estop, if_neg (by rw [show s.stop.estop = .armed from h]; simp)]
  case h_26 => exact ownerTakes_query fun _ h => h
  case h_27 => exact ownerTakes_query fun _ h => h
  case h_28 => exact ownerTakes_query fun _ h => h
  case h_29 =>
    intro s u r h hu
    cases (judge_eq_accept hu).2
    exact h
  case h_30 => intro s u r _ hu; cases hu

/-- An occurrence leaves an armed chain armed, or trips it. -/
theorem occurrence_armed (h : Armed s) (hrecord : Recorded Config.replyQueueCapacity s) (hf : Occurrence f) :
    StandsUnlessArmed (f s) := by
  have kept : ∀ {t : State}, t.stop.estop = s.stop.estop → StandsUnlessArmed t := fun ht hu =>
    absurd (ht.trans h) hu
  cases hf with
  | byteReceived x stopBit =>
    have harmed : Armed (byteArrives x stopBit s) :=
      byteArrives_keeps ownerOf_armed (fun _ _ hs => hs) (fun _ _ hs => hs) (fun _ hs => hs) h x stopBit
    exact fun hu => absurd harmed hu
  | gapTimer => exact kept (by simp)
  | telegramSent => exact kept rfl
  | positionTimer => exact kept (by simp)
  | interpolation => exact kept (by simp)
  | encoderEdge => exact kept rfl
  | referenceMark => exact kept (by simp)
  | driveFault => exact kept (by simp)
  | overtravel => exact kept (by simp)
  | clampSwitch => exact kept (by simp)
  | strokeTimer => exact kept (by simp)
  | lingerTimer => exact kept (by simp)
  | pressureOk => exact kept (by simp)
  | hydraulicWait => exact kept (by simp)
  | referenceUpdate => exact kept (by simp)
  | spindleEdge => exact kept rfl
  | speedWindow => exact kept (by simp)
  | inverterFault => exact kept (by simp)
  | forkSwitch => exact kept (by simp)
  | creepAlternation => exact kept (by simp)
  | pauseTimer => exact kept (by simp)
  | pressureSample => exact kept (by simp)
  | buildTimer => exact kept (by simp)
  | purgeTimer => exact kept (by simp)
  | tankSwitch => exact kept (by simp)
  | scanRequest => exact kept (by simp)
  | pendantReply => exact kept (by simp)
  | replyWindow => exact kept (by simp)
  | clipTimer => exact kept rfl
  | flashPhase => exact kept rfl
  | stopChannels open1 open2 =>
    have hsound := (hrecord.channelsMove (open1 := open1) (open2 := open2)).plannerSound
    have hs : s.stop.estop = .armed := h
    have htaken : (takeChannels open1 open2 s).stop.estop = .armed := by simp [takeChannels, hs]
    unfold channelsMove judgeChannels at hsound ⊢
    rw [htaken] at hsound ⊢
    split
    · exact kept rfl
    · next hmoved =>
      rw [if_neg hmoved] at hsound
      dsimp only at hsound ⊢
      split
      · next hopen =>
        rw [if_pos hopen] at hsound
        exact (trip_halted hsound).stands
      · exact kept (htaken.trans h.symm)
  | discrepancyTimer =>
    have hsound := hrecord.discrepancyExpires.plannerSound
    have hs : s.stop.estop = .armed := h
    unfold discrepancyExpires discrepancyActs at hsound ⊢
    split
    · exact kept rfl
    · next hd =>
      rw [hd] at hsound
      dsimp only at hsound ⊢
      rw [hs] at hsound ⊢
      exact (trip_halted hsound).stands

/-- An occurrence finds a part at a stand, and leaves it there. -/
theorem Halted.occurrence (h : Halted s) (hrecord : Recorded Config.replyQueueCapacity s) (hsound : Sound s)
    (hf : Occurrence f) : StandsUnlessArmed (f s) := by
  obtain ⟨-, -, -, -, -, hvalve, hgear, hcoolant, -⟩ := hsound
  cases hf with
  | byteReceived x stopBit =>
    exact byteArrives_keeps ownerOf_stands (fun _ _ hs => hs.of_eq) (fun _ l hs => hs.link l) (fun _ hs => hs.stands)
      h x stopBit
  | gapTimer => exact Halted.stands h.of_eq
  | telegramSent => exact Halted.stands h.of_eq
  | positionTimer => exact Halted.stands h.of_eq
  | interpolation => exact h.interpolate.stands
  | encoderEdge c n => exact (h.setAxis (a := c) (u := (s.axis c).counted n) (h.axes c) rfl).stands
  | referenceMark => exact h.takeMark.stands
  | driveFault _ active => exact (h.driveFaultChange active).stands
  | overtravel _ d isOpen => exact (h.overtravelChange d isOpen).stands
  | clampSwitch _ closed => exact (h.clampSwitchMoves closed).stands
  | strokeTimer w => rw [h.strokeTimesOut]; exact h.stands
  | lingerTimer => rw [h.lingerRunsOut hvalve]; exact h.stands
  | pressureOk ok => exact (h.pressureOkMoves ok).stands
  | hydraulicWait => exact h.hydraulicExpires.stands
  | referenceUpdate =>
    have hclocked : Halted { s with clocks := { s.clocks with referenceUpdate := 10 } } := h.of_eq
    exact hclocked.updateReference.stands
  | spindleEdge n =>
    exact (h.setSpindle (p := { s.spindle with windowCount := s.spindle.windowCount + n }) h.spindle).stands
  | speedWindow =>
    have hclocked : Halted { s with clocks := { s.clocks with speedWindow := 100 } } := h.of_eq
    exact hclocked.endWindow.stands
  | inverterFault active => exact (h.inverterChange active).stands
  | forkSwitch w closed => exact (h.forkSwitchMoves w closed).stands
  | creepAlternation => exact h.alternate.stands
  | pauseTimer => rw [h.pauseExpires hgear]; exact h.stands
  | pressureSample x =>
    have hfiltered : Halted
        { s with coolant := filterSample x s.coolant, clocks := { s.clocks with pressureSample := 10 } } :=
      h.of_eq (hpumps := ⟨rfl, rfl⟩)
    dsimp only
    rw [hfiltered.useSample]
    exact hfiltered.stands
  | buildTimer => rw [h.buildExpires hcoolant]; exact h.stands
  | purgeTimer => exact h.purgeExpires.stands
  | tankSwitch low => exact (h.tankChange low).stands
  | scanRequest =>
    have hclocked : Halted { s with clocks := { s.clocks with scan := 10 } } := h.of_eq
    have hsent : ∀ t, Halted t → Halted (sendRequest t) := fun t ht => by
      unfold sendRequest
      split
      · exact ht
      · exact ht.setPendant rfl rfl
    exact (hsent _ hclocked).stands
  | pendantReply bytes fields => exact (h.replyArrives bytes fields).stands
  | replyWindow => exact h.windowCloses.stands
  | clipTimer => exact Halted.stands h.of_eq
  | flashPhase => exact Halted.stands h.of_eq
  | stopChannels open1 open2 => exact (h.channelsMove open1 open2 hrecord.channelsMove.plannerSound).stands
  | discrepancyTimer => exact (h.discrepancyExpires hrecord.discrepancyExpires.plannerSound).stands

/-- The end of an event returns the site of a withdrawal, for every axis is at a stand (R168). -/
theorem StandsUnlessArmed.finish (h : StandsUnlessArmed s) (before : State) : StoppedSafe (finish before s) := by
  intro hu
  obtain ⟨-, hplanner, haxes, hrequests, hclamps, hgear, hspindle, hpumps, hsite⟩ := h (by simpa using hu)
  have hchecked : (hydraulicCheck (siteReturn s)).valve.requests = s.valve.requests := by
    unfold hydraulicCheck
    (repeat' split) <;> simp
  have hhost : (siteReturn s).pendant.site = .host := by
    have hall : (axesInOrder.all fun a => !s.pendant.tenure.get a || (s.axis a).motion == .idle) = true := by
      rw [axesInOrder_all]
      intro d
      simp [(haxes d).1]
    unfold siteReturn
    rcases hsite with hs | hs
    · split
      · rfl
      · exact hs
    · rw [if_pos (by rw [hs, hall]; rfl)]
  have haxis : ∀ a, (Machine.finish before s).axis a = s.axis a := fun a => by simp
  refine ⟨by simpa using hplanner, fun a => by rw [haxis]; exact haxes a, ?_, fun a ha => ?_, by simpa using hgear,
    by simpa using hspindle.1, by simpa using hspindle.2.1, by simpa using hspindle.2.2, by simpa using hpumps.1,
    by simpa using hpumps.2, ?_⟩
  · simpa [Machine.finish, hrequests] using hchecked
  · rw [clampTakesPart_of_params (s := s) (by rw [haxis])] at ha
    simpa [State.clamp, ClampState.Shut] using hclamps a ha
  · simpa [Machine.finish] using hhost

theorem powerOn_stopped (i : ResetInputs) (waiting : List Instr) : StoppedSafe (powerOn i waiting) := by
  intro _
  simp [powerOn, resetState, Planner.afterReset, AxisUnit.afterReset, State.axis, clampTakesPart, gearAtReset,
    Spindle.afterReset, Coolant.afterReset, Pendant.afterReset]

end

theorem StoppedSafe.exec {s t : State} {c : Instr} (h : Sound s) (ht : exec c s = .next t) : StoppedSafe t := by
  have hsound := h
  obtain ⟨hqueues, hfaults, hplanner, -, -, -, -, -, hstopped, -⟩ := h
  have hrecord : Recorded Config.replyQueueCapacity s := (recorded_iff s).mpr ⟨hqueues, hfaults, hplanner⟩
  refine exec_keeps ht (fun i => powerOn_stopped i s.pending) (fun kind tag p => StandsUnlessArmed.finish ?_ s)
    fun f hf => StandsUnlessArmed.finish ?_ s
  · by_cases harmed : s.stop.estop = .armed
    · intro hu
      exact absurd (takeOrder_keeps (ownerOf_armed kind tag p) (fun _ _ hs => hs) (fun _ hs => hs) harmed) hu
    · exact takeOrder_keeps (ownerOf_stands kind tag p) (fun _ l hs => hs.link l) (fun _ hs => hs.stands)
        (hstopped.halted harmed)
  · by_cases harmed : s.stop.estop = .armed
    · exact occurrence_armed harmed hrecord hf
    · exact (hstopped.halted harmed).occurrence hrecord hsound hf

theorem StoppedSafe.tick {s : State} (h : StoppedSafe s) : StoppedSafe (tick s) := by
  intro hu
  obtain ⟨hplanner, haxes, hrequests, hclamps, hrest⟩ := h hu
  refine ⟨hplanner, haxes, by simp [Machine.tick, hrequests], fun a ha => ?_, hrest⟩
  have hstate : ((Machine.tick s).clamp a).state = (s.clamp a).state := by cases a <;> rfl
  rw [hstate]
  exact hclamps a ha

/-- Settles O56: a trip halts the part, and until the chain is armed every command finds it at a stand and leaves it
there. -/
theorem stepKeepsStopped : Obligations.StepKeepsStopped := by
  unfold Obligations.StepKeepsStopped
  intro s t hsound hstep
  unfold step at hstep
  split at hstep
  · obtain ⟨-, -, -, -, -, -, -, -, hstopped, -⟩ := hsound
    cases hstep
    exact hstopped.tick
  · next c rest _ => exact StoppedSafe.exec (s := { s with pending := rest }) hsound hstep

end Sys2Proof.Machine

namespace Sys2Proof.Machine

section

variable {s t u v : State} {a : Axis}

/-! ## The stop chain and the trip (O48) -/

/-- The levels of the channels as they are taken, with the discrepancy timer and the conditions they set (R180, R181). -/
def channelsTaken (open1 open2 : Bool) (s : State) : State :=
  { s with
    stop :=
      { s.stop with
        channel1Open := open1
        channel2Open := open2
        discrepancy :=
          if open1 = open2 then none
          else if s.stop.channel1Open = s.stop.channel2Open then some 50
          else s.stop.discrepancy
        faults :=
          s.stop.faults.map fun f =>
            if f.code = .estop ∧ f.qualifier = .absent then { f with condition := open1 || open2 }
            else if f.code = .estopDiscrepancy ∧ f.qualifier = .absent then { f with condition := open1 != open2 }
            else f } }

theorem discrepancyTimer_eq (open1 open2 : Bool) (s : State) :
    discrepancyTimer (channelsDisagree s) (open1 != open2) s.stop.discrepancy =
      if open1 = open2 then none
      else if s.stop.channel1Open = s.stop.channel2Open then some 50
      else s.stop.discrepancy := by
  unfold discrepancyTimer channelsDisagree
  by_cases h : open1 = open2 <;> by_cases h' : s.stop.channel1Open = s.stop.channel2Open <;> simp [h, h']

theorem takeChannels_eq (open1 open2 : Bool) (s : State) :
    takeChannels open1 open2 s = channelsTaken open1 open2 s := by
  have hcompose : ∀ f : FaultEntry,
      (fun g : FaultEntry =>
        if g.code = .estopDiscrepancy ∧ g.qualifier = .absent then { g with condition := open1 != open2 } else g)
        (if f.code = .estop ∧ f.qualifier = .absent then { f with condition := open1 || open2 } else f) =
      if f.code = .estop ∧ f.qualifier = .absent then { f with condition := open1 || open2 }
      else if f.code = .estopDiscrepancy ∧ f.qualifier = .absent then { f with condition := open1 != open2 }
      else f := fun f => by
    by_cases h : f.code = .estop ∧ f.qualifier = .absent
    · simp [h]
    · rw [if_neg h, if_neg h]
  simp only [takeChannels, setCondition_eq, discrepancyTimer_eq, List.map_map, Function.comp_def, channelsTaken, hcompose]

/-- Channels that move in ARMED or RELEASED trip when both are open, and both closed release a TRIPPED chain (R180). -/
theorem channelsMove_eq {open1 open2 : Bool} (h : open1 ≠ s.stop.channel1Open ∨ open2 ≠ s.stop.channel2Open) :
    channelsMove open1 open2 s =
      if s.stop.estop = .tripped then
        (if open1 = false ∧ open2 = false then
          { channelsTaken open1 open2 s with stop := { (channelsTaken open1 open2 s).stop with estop := .released } }
        else channelsTaken open1 open2 s)
      else if open1 = true ∧ open2 = true then trip .estop (channelsTaken open1 open2 s)
      else channelsTaken open1 open2 s := by
  have hmoved : ¬(s.stop.channel1Open == open1 && s.stop.channel2Open == open2) = true := by
    simp only [Bool.and_eq_true, beq_iff_eq, not_and_or]
    exact h.imp Ne.symm Ne.symm
  have hestop : (channelsTaken open1 open2 s).stop.estop = s.stop.estop := rfl
  have hopen : bothOpen (channelsTaken open1 open2 s) = (open1 && open2) := rfl
  have hlevels : (channelsTaken open1 open2 s).stop.channel1Open = open1
      ∧ (channelsTaken open1 open2 s).stop.channel2Open = open2 := ⟨rfl, rfl⟩
  unfold channelsMove
  rw [if_neg hmoved, takeChannels_eq]
  unfold judgeChannels
  rw [hestop, hopen, hlevels.1, hlevels.2]
  cases s.stop.estop <;> simp

theorem channelsMove_same (s : State) : channelsMove s.stop.channel1Open s.stop.channel2Open s = s := by
  simp [channelsMove]

/-! ### A trip, as the end of its event leaves it -/

theorem finish_tripped_site (h : TripTaken v t) : (finish s t).pendant.site = .host := by
  have hidle : ∀ a, (t.axis a).motion = .idle := fun a => by
    obtain ⟨k, hk⟩ := h.axis a
    rw [hk]
    rfl
  have hall : (axesInOrder.all fun a => !t.pendant.tenure.get a || (t.axis a).motion == .idle) = true := by
    rw [axesInOrder_all]
    intro d
    simp [hidle d]
  have hreturned : (siteReturn t).pendant.site = .host := by
    unfold siteReturn
    rcases h.site with hs | hs
    · split
      · rfl
      · exact hs
    · rw [if_pos (by rw [hs, hall]; rfl)]
  simpa [finish] using hreturned

theorem finish_tripped_valve (h : TripTaken v t) :
    (finish s t).valve = { v.valve with requests := [], hydraulicWait := none, hydraulicExpired := false } := by
  have hvalve : (finish s t).valve = (hydraulicCheck (siteReturn t)).valve := by simp [finish]
  rw [hvalve]
  unfold hydraulicCheck
  simp [h.valve]

/-- The axes of a part that trips: the drives without enable, and every local motion ended in its place (R10). -/
theorem tripped_axis (h : TripTaken v t) (ha : v.axes = s.axes) (hu : u.axes = t.axes) (he : u.stop.estop ≠ .armed)
    (a : Axis) :
    driveEnable u a = false ∧ (u.axis a).motion = .idle ∧ (u.axis a).velocity = 0
      ∧ (u.axis a).commanded = (s.axis a).commanded ∧ (u.axis a).output = (s.axis a).output
      ∧ (u.axis a).measured = (s.axis a).measured ∧ (u.axis a).referenced = (s.axis a).referenced
      ∧ (u.axis a).params = (s.axis a).params ∧ (u.axis a).mode = (s.axis a).mode := by
  obtain ⟨k, hk⟩ := h.axis a
  have hsame : u.axis a = (s.axis a).stopped k := by
    simp only [State.axis, ha, hu] at hk ⊢
    exact hk
  rw [hsame]
  exact ⟨by simp [driveEnable, he], rfl, rfl, rfl, rfl, rfl, rfl, rfl, rfl⟩

/-- The table of R101. -/
theorem tripped_clamp (h : TripTaken v t) (ha : v.axes = s.axes) (hc : v.clamps = s.clamps) (hu : u.clamps = t.clamps)
    (a : Axis) :
    (u.clamp a).switchClosed = (s.clamp a).switchClosed ∧ (u.clamp a).linger = none
      ∧ (u.clamp a).releasePending = false
      ∧ (clampTakesPart s a = false → (u.clamp a).state = (s.clamp a).state)
      ∧ (clampTakesPart s a = true → (u.clamp a).state = (s.clamp a).state.afterTrip) := by
  have hpart : clampTakesPart v a = clampTakesPart s a := clampTakesPart_of_params (by simp [State.axis, ha])
  have hclamp := h.clamp a
  rw [hpart] at hclamp
  have hsame : u.clamp a = (s.clamp a).afterTrip (clampTakesPart s a) := by
    simp only [State.clamp, hc, hu] at hclamp ⊢
    exact hclamp
  rw [hsame]
  exact ⟨rfl, rfl, rfl, fun hp => by simp [Clamp.afterTrip, hp], fun hp => by simp [Clamp.afterTrip, hp]⟩

/-- A change in progress ends; a fork stroke that was ACTIVE holds the gearbox (R140). -/
theorem tripped_gear (h : TripTaken v t) (hg : v.gear = s.gear) (hf : forkActive v = forkActive s) :
    t.gear.step = .idle ∧ t.gear.table = s.gear.table ∧ t.gear.switches = s.gear.switches
      ∧ (s.gear.step = .idle → t.gear = s.gear)
      ∧ (s.gear.step ≠ .idle →
          t.gear.target = none ∧ t.gear.stroke = none ∧ t.gear.pauseTimer = none ∧ t.gear.creep = none
            ∧ (forkActive s = true → t.gear.held = true ∧ t.gear.gearbox = .unknown)
            ∧ (forkActive s = false →
                t.gear.held = s.gear.held ∧ t.gear.gearbox = deriveGearbox s.gear.switches)) := by
  rw [h.gear, hg, hf]
  by_cases hstep : s.gear.step = .idle
  · simp [hstep]
  · rw [if_neg hstep]
    exact ⟨rfl, rfl, rfl, fun e => absurd e hstep, fun _ =>
      ⟨rfl, rfl, rfl, rfl, fun ha => by simp [ha], fun ha => by simp [ha]⟩⟩

end

section

variable {s : State}

/-- What precedes the trip changes the stop chain and the Link Unit's line alone. -/
structure TripBegins (code : FaultCode) (s v : State) : Prop where
  blocks : v = { s with stop := v.stop, link := v.link }
  estop : v.stop.estop = .tripped
  fault : hasFault v code .absent = true
  discrepancy : v.stop.discrepancy = none
  partTime : v.stop.partTime = s.stop.partTime

/-- A trip's first act is the chain TRIPPED and the fault raised (R180, R181). -/
theorem tripBegins_of {code : FaultCode} {u : State} (hu : u = { s with stop := u.stop })
    (hd : u.stop.discrepancy = none) (hp : u.stop.partTime = s.stop.partTime) :
    TripBegins code s (raiseFault code .absent { u with stop := { u.stop with estop := .tripped } }) := by
  refine ⟨?_, by simp, hasFault_raiseFault _ _ _, by simpa using hd, by simpa using hp⟩
  rw [hu]
  simp [State.eq_iff_blocks]

/-- The two ways the chain trips (R180, R181). -/
theorem trip_begins {c : Instr} {code : FaultCode} (hstate : s.stop.estop = .armed ∨ s.stop.estop = .released)
    (hc : (c = .stopChannelChange true true ∧ code = .estop
            ∧ (s.stop.channel1Open = false ∨ s.stop.channel2Open = false))
          ∨ (c = .discrepancyTimerExpiry ∧ code = .estopDiscrepancy ∧ s.stop.discrepancy.isSome = true)) :
    ∃ v, exec c s = .next (finish s (takeTrip v)) ∧ TripBegins code s v := by
  have hnot : s.stop.estop ≠ .tripped := by rcases hstate with h | h <;> simp [h]
  rcases hc with ⟨rfl, rfl, hclosed⟩ | ⟨rfl, rfl, hd⟩
  · have hmoved : true ≠ s.stop.channel1Open ∨ true ≠ s.stop.channel2Open :=
      hclosed.imp (fun h => by simp [h]) (fun h => by simp [h])
    have hchange := channelsMove_eq (s := s) hmoved
    rw [if_neg hnot, if_pos ⟨rfl, rfl⟩] at hchange
    exact ⟨_, congrArg (fun u => Host.Outcome.next (finish s u)) hchange, tripBegins_of rfl rfl rfl⟩
  · obtain ⟨n, hn⟩ := Option.isSome_iff_exists.1 hd
    have hchange : discrepancyExpires s = trip .estopDiscrepancy { s with stop := { s.stop with discrepancy := none } } := by
      rcases hstate with h | h <;> simp [discrepancyExpires, hn, discrepancyActs, h]
    exact ⟨_, congrArg (fun u => Host.Outcome.next (finish s u)) hchange, tripBegins_of rfl rfl rfl⟩

end

/-- Settles O48: the channels as they are taken, and the trip block by block. -/
theorem tripReachesEveryBlock : Obligations.TripReachesEveryBlock := by
  unfold Obligations.TripReachesEveryBlock
  intro s hs
  have hkept : ∀ open1 open2, Settled (channelsTaken open1 open2 s) := fun _ _ => hs.of_eq rfl rfl rfl
  refine ⟨completes_event rfl (channelsMove_same s) hs rfl, fun open1 open2 hmoved hstays => ?_, fun htripped hopen => ?_,
    fun hd => completes_event rfl (by simp [discrepancyExpires, hd]) hs rfl, fun n hd htripped => ?_,
    fun c code hstate hcase => ?_⟩
  · refine completes_event rfl ?_ (hkept open1 open2) rfl
    rw [channelsMove_eq hmoved]
    rcases hstays with hne | ⟨h1, h2, ht⟩ | ⟨h1, h2, ht⟩
    · have hclosed : ¬(open1 = false ∧ open2 = false) := fun ⟨h1, h2⟩ => hne (h1.trans h2.symm)
      have hopen : ¬(open1 = true ∧ open2 = true) := fun ⟨h1, h2⟩ => hne (h1.trans h2.symm)
      rw [if_neg hclosed, if_neg hopen, ite_self]
      rfl
    · rw [if_pos ht, if_neg (by simp [h1])]
      rfl
    · rw [if_neg ht, if_neg (by simp [h1])]
      rfl
  · have hmoved : false ≠ s.stop.channel1Open ∨ false ≠ s.stop.channel2Open :=
      hopen.imp (fun h => by simp [h]) (fun h => by simp [h])
    have hchange := channelsMove_eq (s := s) hmoved
    rw [if_pos htripped, if_pos ⟨rfl, rfl⟩] at hchange
    obtain ⟨t, ht, hform, howes⟩ := event_next (f := channelsMove false false) (s := s)
      (by rw [hchange]; exact hs.of_eq rfl rfl rfl)
    rw [hchange] at hform howes
    refine ⟨t, ht, by rw [hform]; rfl, howes.of_link_eq rfl, by rw [hform], by rw [hform]; rfl, fun f hf => ?_⟩
    rw [hform] at hf
    obtain ⟨g, -, rfl⟩ := List.mem_map.1 hf
    by_cases h1 : g.code = .estop ∧ g.qualifier = .absent
    · simp [h1]
    · by_cases h2 : g.code = .estopDiscrepancy ∧ g.qualifier = .absent
      · simp [h2]
      · simp only [h1, h2, if_false]
        exact fun hcode hq => (hcode.elim (fun e => h1 ⟨e, hq⟩) fun e => h2 ⟨e, hq⟩).elim
  · have hchange : discrepancyExpires s =
        raiseFault .estopDiscrepancy .absent { s with stop := { s.stop with discrepancy := none } } := by
      simp [discrepancyExpires, hd, discrepancyActs, htripped]
    obtain ⟨t, ht, hform, -⟩ := event_next (f := discrepancyExpires) (s := s)
      (by rw [hchange]; exact hs.of_eq (by simp) (by simp) (by simp))
    rw [hchange] at hform
    refine ⟨t, ht, ?_, by rw [hform]; simp, by rw [hform]; simp [htripped], ?_⟩
    · rw [hform]; simp
    · rw [hform]; exact hasFault_raiseFault _ _ _
  · obtain ⟨v, hexec, hbegins⟩ := trip_begins hstate hcase
    have htaken := takeTrip_taken v
    have haxes : v.axes = s.axes := by rw [hbegins.blocks]
    have hclamps : v.clamps = s.clamps := by rw [hbegins.blocks]
    have hvalve : v.valve = s.valve := by rw [hbegins.blocks]
    have hspindle : v.spindle = s.spindle := by rw [hbegins.blocks]
    have hgear : v.gear = s.gear := by rw [hbegins.blocks]
    have hcoolant : v.coolant = s.coolant := by rw [hbegins.blocks]
    have hcomp : v.comp = s.comp := by rw [hbegins.blocks]
    have hpendant : v.pendant = s.pendant := by rw [hbegins.blocks]
    have hestop : (finish s (takeTrip v)).stop.estop = .tripped := by simpa using hbegins.estop
    have hunarmed : (finish s (takeTrip v)).stop.estop ≠ .armed := by rw [hestop]; decide
    have hfork : forkActive v = forkActive s := by rw [hbegins.blocks]; rfl
    obtain ⟨⟨hprog, hcmd, hphase, hat, hstall, hmeas, hstopped⟩, hreference⟩ := And.intro htaken.spindle htaken.reference
    rw [hspindle] at hmeas hstopped
    have hfault : hasFault (finish s (takeTrip v)) code .absent = true := by
      rw [hasFault_of_stop_eq (s := v) (by simp)]
      exact hbegins.fault
    refine ⟨_, hexec, hestop, hfault, by simpa using hbegins.discrepancy, by simpa using hbegins.partTime,
      tripped_axis htaken haxes (by simp) hunarmed, ?_, by simp [htaken.planner, idlePlanner],
      by simp [htaken.planner, idlePlanner], by simp [htaken.planner, idlePlanner], ?_, fun a => ?_,
      by unfold spindleEnable; rw [hestop]; rfl, by simpa using hprog, by simpa using hcmd, by simpa using hreference,
      by simpa using hphase, by simpa using hat, by simpa using hstall, by simpa using hmeas, by simpa using hstopped, ?_⟩
    · simp [hcomp]
    · rw [finish_tripped_valve htaken, hvalve]
    · obtain ⟨hswitch, hlinger, hpending, hkeeps, htable⟩ :=
        tripped_clamp (u := finish s (takeTrip v)) htaken haxes hclamps (by simp) a
      refine ⟨hswitch, hlinger, hpending, hkeeps, fun hp => (htable hp).trans ?_⟩
      cases (s.clamp a).state <;> rfl
    · obtain ⟨hstep, htable, hswitches, hidle, hchange⟩ := tripped_gear htaken hgear hfork
      have hg : (finish s (takeTrip v)).gear = (takeTrip v).gear := by simp
      have hc : (finish s (takeTrip v)).coolant = (takeTrip v).coolant := by simp
      rw [hg, hc]
      refine ⟨hstep, htable, hswitches, hidle, hchange, ?_⟩
      rw [htaken.coolant, hcoolant]
      refine ⟨rfl, rfl, rfl, rfl, rfl, rfl, rfl, finish_tripped_site htaken, ?_⟩
      have hkept : (finish s (takeTrip v)).pendant.feedOverride = (takeTrip v).pendant.feedOverride := by simp [finish]
      rw [hkept, htaken.feedOverride, hpendant]

end Sys2Proof.Machine

namespace Sys2Proof.Machine

/-! ## Grant opportunities on short lists (R88, R89, R90) -/

section

variable {s : State} {k : Stroke} {p : Nat}

/-- With no stroke that is confirmed nothing settles (R90). -/
theorem settleStrokes_open (n : Nat) (hopen : ∀ r ∈ s.valve.requests, r.isActive = true → confirmed s r.stroke = false) :
    settleStrokes n s = s := by
  have hnone : confirmedRequest s = none := by
    rw [confirmedRequest, List.find?_eq_none]
    intro r hr
    simpa using hopen r hr
  cases n with
  | zero => rfl
  | succ n => rw [settleStrokes, hnone]

/-- A grant opportunity whose walk grants nothing, with no stroke that is confirmed, changes nothing. -/
theorem grantOpportunity_still (hwalk : grantWalk s = s)
    (hopen : ∀ r ∈ s.valve.requests, r.isActive = true → confirmed s r.stroke = false) : grantOpportunity s = s := by
  rw [grantOpportunity, hwalk, settleStrokes_open 32 hopen]

theorem settleStrokes_empty (n : Nat) (hreq : s.valve.requests = []) : settleStrokes n s = s :=
  settleStrokes_open n fun r hr => by simp [hreq] at hr

/-- Without pressure or with the chain not ARMED the walk grants nothing (R88). -/
theorem grantWalk_barred (h : ¬(s.valve.pressureOk = true ∧ s.stop.estop = .armed)) : grantWalk s = s := by
  unfold grantWalk
  rw [if_neg (by simpa using h)]

theorem grantWalk_empty (hreq : s.valve.requests = []) : grantWalk s = s := by
  have hself : ({ s with valve := { s.valve with requests := [] } } : State) = s := by rw [← hreq]
  unfold grantWalk
  split
  · simp [hreq, walk, hself]
  · rfl

/-- A waiting request alone on the list has no stroke to settle. -/
theorem settleStrokes_waiting (n : Nat) (hreq : s.valve.requests = [⟨k, p, .waiting⟩]) : settleStrokes n s = s :=
  settleStrokes_open n fun r hr hactive => by
    rw [hreq, List.mem_singleton] at hr
    rw [hr] at hactive
    cases hactive

/-- The one request on the list, ACTIVE with its stroke's time limit (R87). -/
def soleActive (k : Stroke) (p : Nat) (s : State) : State :=
  { s with valve := { s.valve with requests := [⟨k, p, .active (strokeLimit s.valve k)⟩] } }

/-- No stroke is wider than the bank. -/
theorem weight_le_flowUnits (k : Stroke) : k.weight ≤ Config.flowUnits := by
  cases k <;> simp [Stroke.weight, Config.flowUnits]

theorem confirmed_congr {t : State} (hclamps : ∀ a, (t.clamp a).switchClosed = (s.clamp a).switchClosed)
    (hswitches : t.gear.switches = s.gear.switches) : confirmed t k = confirmed s k := by
  cases k with
  | release a => exact hclamps a
  | engage a => exact congrArg Bool.not (hclamps a)
  | fork f => cases f with | _ f => cases f <;> simp [confirmed, hswitches]

theorem setClampState_switch (a c : Axis) (x : ClampState) (s : State) :
    ((setClampState a x s).clamp c).switchClosed = (s.clamp c).switchClosed := by
  by_cases h : c = a
  · subst h; simp [setClampState, State.setClamp, State.clamp]
  · simp [setClampState, State.setClamp, State.clamp, PerAxis.get_set_ne _ _ h]

/-- What a grant does moves no confirm switch. -/
theorem confirmed_strokeGranted (j : Stroke) : confirmed (strokeGranted j s) k = confirmed s k := by
  refine confirmed_congr (fun a => ?_) ?_
  · cases j with
    | release c => exact setClampState_switch c a _ s
    | engage c => exact setClampState_switch c a _ s
    | fork f => simp [strokeGranted, State.clamp]
  · cases j with
    | release c => rfl
    | engage c => rfl
    | fork f =>
      simp only [strokeGranted, forkGranted]
      split <;> simp

/-- A request alone on the list is granted under pressure (R88, R89). -/
theorem grantWalk_sole (hreq : s.valve.requests = [⟨k, p, .waiting⟩]) (hpressure : s.valve.pressureOk = true)
    (harmed : s.stop.estop = .armed) : grantWalk s = strokeGranted k (soleActive k p s) := by
  have hfits : k.weight ≤ Config.flowUnits := weight_le_flowUnits k
  simp [grantWalk, hpressure, harmed, hreq, walk, Request.isActive, barrier, flowInUse, hfits, soleActive]

/-- The stroke granted waits for its switch (R90). -/
theorem settleStrokes_granted (n : Nat) (hopen : confirmed s k = false) :
    settleStrokes n (strokeGranted k (soleActive k p s)) = strokeGranted k (soleActive k p s) := by
  have hstill : confirmed (strokeGranted k (soleActive k p s)) k = false := (confirmed_strokeGranted k).trans hopen
  refine settleStrokes_open n fun r hr _ => ?_
  have hsole : r = ⟨k, p, .active (strokeLimit s.valve k)⟩ := by simpa [soleActive] using hr
  rw [hsole]
  exact hstill

theorem grantOpportunity_sole (hreq : s.valve.requests = [⟨k, p, .waiting⟩]) (hpressure : s.valve.pressureOk = true)
    (harmed : s.stop.estop = .armed) (hopen : confirmed s k = false) :
    grantOpportunity s = strokeGranted k (soleActive k p s) := by
  rw [grantOpportunity, grantWalk_sole hreq hpressure harmed, settleStrokes_granted _ hopen]

/-- An engage that joins an idle bank under pressure is granted (R89, R97). -/
theorem engage_served {a : Axis} (n : Nat) (hreq : s.valve.requests = []) (hpressure : s.valve.pressureOk = true)
    (harmed : s.stop.estop = .armed) (hclosed : (s.clamp a).switchClosed = true) :
    settleStrokes n (grantWalk (lingerExpires a s)) =
      { s.setClamp a { s.clamp a with state := .engaging, linger := none } with
        valve := { s.valve with requests := [⟨.engage a, 0, .active s.valve.clampLimit⟩] } } := by
  have hlist : (lingerExpires a s).valve.requests = [⟨.engage a, 0, .waiting⟩] := by
    simp [lingerExpires, joinRequest, setClampState, setLinger, State.setClamp, hreq]
  have hopen : confirmed (lingerExpires a s) (.engage a) = false := by
    simpa [confirmed, lingerExpires, joinRequest, setClampState, setLinger, State.setClamp, State.clamp] using hclosed
  rw [grantWalk_sole hlist hpressure harmed, settleStrokes_granted n hopen]
  simp [strokeGranted, soleActive, lingerExpires, joinRequest, setClampState, setLinger, State.setClamp, State.clamp,
    strokeLimit]

/-- An engage that joins an idle bank where nothing is granted waits (R88, R97). -/
theorem engage_waits {a : Axis} (n : Nat) (hreq : s.valve.requests = [])
    (h : ¬(s.valve.pressureOk = true ∧ s.stop.estop = .armed)) :
    settleStrokes n (grantWalk (lingerExpires a s)) =
      { s.setClamp a { s.clamp a with state := .engageWait, linger := none } with
        valve := { s.valve with requests := [⟨.engage a, 0, .waiting⟩] } } := by
  have hlist : (lingerExpires a s).valve.requests = [⟨.engage a, 0, .waiting⟩] := by
    simp [lingerExpires, joinRequest, setClampState, setLinger, State.setClamp, hreq]
  rw [grantWalk_barred (s := lingerExpires a s) h, settleStrokes_waiting n hlist]
  simp [lingerExpires, joinRequest, setClampState, setLinger, State.setClamp, State.clamp, hreq]

end

/-! ## The linger timer, PRESSURE_OK and the hydraulic wait (O44) -/

section

variable {s : State}

/-- With no request on the list a settled hydraulic wait is at rest (R92). -/
theorem HydraulicSettled.rest (h : HydraulicSettled s) (hreq : s.valve.requests = []) :
    s.valve.hydraulicWait = none ∧ s.valve.hydraulicExpired = false := by
  simpa [HydraulicSettled, hreq] using h

/-- A list with no waiting request leaves the hydraulic wait at rest. -/
theorem HydraulicSettled.of_served (hactive : ∀ r ∈ s.valve.requests, r.isActive = true)
    (hwait : s.valve.hydraulicWait = none) (hexpired : s.valve.hydraulicExpired = false) : HydraulicSettled s := by
  unfold HydraulicSettled
  rw [if_neg]
  · exact ⟨hwait, hexpired⟩
  · rintro ⟨-, r, hr, hr'⟩
    rw [hactive r hr] at hr'
    cases hr'

/-- Under pressure the hydraulic wait is at rest. -/
theorem HydraulicSettled.of_pressure (hpressure : s.valve.pressureOk = true)
    (hwait : s.valve.hydraulicWait = none) (hexpired : s.valve.hydraulicExpired = false) : HydraulicSettled s := by
  simp [HydraulicSettled, hpressure, hwait, hexpired]

theorem HydraulicSettled.rest_of_pressure (h : HydraulicSettled s) (hpressure : s.valve.pressureOk = true) :
    s.valve.hydraulicWait = none ∧ s.valve.hydraulicExpired = false := by
  simpa [HydraulicSettled, hpressure] using h

/-- The end of an event settles the hydraulic wait of its effect (R92). -/
theorem event_checked {f : State → State} {u : State} (hsite : SiteSettled (f s)) (hcheck : hydraulicCheck (f s) = u) :
    event f s = event (fun _ => u) s ∧ Settled u := by
  have hsettled : Settled u := by
    rw [← hcheck]
    exact ⟨hsite.of_eq (by simp) (by simp), hydraulicCheck_settled _⟩
  refine ⟨?_, hsettled⟩
  simp only [event, finish]
  rw [siteReturn_eq_self hsite, siteReturn_eq_self hsettled.1, hcheck, hydraulicCheck_eq_self hsettled.2]

/-- A command that leaves the Link Unit alone completes with its effect, the hydraulic wait settled. -/
theorem completes_checked {c : Instr} {f : State → State} {u : State} (hc : exec c s = event f s)
    (hsite : SiteSettled (f s)) (hcheck : hydraulicCheck (f s) = u) (hl : u.link = s.link) : Completes c s u [] [] := by
  obtain ⟨hsame, hsettled⟩ := event_checked hsite hcheck
  exact completes_event (hc.trans hsame) rfl hsettled hl

/-- The wait starts where pressure is missing and a request waits, and else is at rest (R92). -/
theorem hydraulicCheck_rested (hwait : s.valve.hydraulicWait = none) (hexpired : s.valve.hydraulicExpired = false) :
    hydraulicCheck s =
      { s with
        valve :=
          { s.valve with
            hydraulicWait :=
              if s.valve.pressureOk = false ∧ s.valve.requests.any (fun r => !r.isActive) = true then some 10000
              else none } } := by
  unfold hydraulicCheck
  by_cases h : s.valve.pressureOk = false ∧ s.valve.requests.any (fun r => !r.isActive) = true
  · rw [if_pos (by simp only [h.1, h.2]; rfl), if_pos (by simp [hwait, hexpired]), if_pos h]
  · rw [if_neg (by simpa using h), if_neg h, ← hexpired]

/-- The level of PRESSURE_OK as it is taken, with the condition of HYDRAULIC_LOW (R186). -/
def pressureTaken (ok : Bool) (s : State) : State :=
  { s with
    valve := { s.valve with pressureOk := ok }
    stop :=
      { s.stop with
        faults :=
          s.stop.faults.map fun f =>
            if f.code = .hydraulicLow ∧ f.qualifier = .absent then { f with condition := !ok } else f } }

theorem pressureLost_eq (h : s.valve.pressureOk = true) : pressureOkMoves false s = pressureTaken false s := by
  simp [pressureOkMoves, h, setCondition_eq, pressureTaken]

theorem pressureBack_eq (h : s.valve.pressureOk = false) :
    pressureOkMoves true s = grantOpportunity (pressureTaken true s) := by
  simp [pressureOkMoves, h, setCondition_eq, pressureTaken]

/-- Settles O44: the linger timer, the level of PRESSURE_OK both ways, and the hydraulic wait's expiry. -/
theorem lingerAndPressure : Obligations.LingerAndPressure := by
  unfold Obligations.LingerAndPressure
  intro s hs
  refine ⟨fun a hoff => ?_, fun a n hlinger hreq harmed hpressure hclosed => ?_, fun a n hlinger hreq hlow => ?_,
    ?_, fun hpressure => ?_, fun hlow hreq => ?_, fun a k hlow harmed hreq hopen => ?_, fun hoff => ?_, fun n hwait => ?_⟩
  · exact completes_event rfl (by simp [lingerRunsOut, hoff]) hs rfl
  · obtain ⟨hwait, hexpired⟩ := hs.2.rest hreq
    refine completes_event (f := lingerRunsOut a) rfl ?_ ⟨hs.1.of_eq rfl rfl, .of_pressure hpressure hwait hexpired⟩ rfl
    simp only [lingerRunsOut, hlinger]
    exact engage_served 32 hreq hpressure harmed hclosed
  · obtain ⟨hwait, hexpired⟩ := hs.2.rest hreq
    have hwaits : lingerRunsOut a s =
        { s.setClamp a { s.clamp a with state := .engageWait, linger := none } with
          valve := { s.valve with requests := [⟨.engage a, 0, .waiting⟩] } } := by
      simp only [lingerRunsOut, hlinger]
      exact engage_waits 32 hreq fun h => by simp [hlow] at h
    refine completes_checked (f := lingerRunsOut a) rfl (hs.1.of_eq (by rw [hwaits]; rfl) (by rw [hwaits]; rfl)) ?_ rfl
    rw [hwaits]
    refine (hydraulicCheck_rested (by exact hwait) (by exact hexpired)).trans ?_
    simp [hlow, Request.isActive]
  · exact completes_event rfl (by simp [pressureOkMoves]) hs rfl
  · obtain ⟨hwait, hexpired⟩ := hs.2.rest_of_pressure hpressure
    refine completes_checked (f := pressureOkMoves false) rfl ?_ ?_ rfl
    · rw [pressureLost_eq hpressure]
      exact hs.1.of_eq rfl rfl
    · rw [pressureLost_eq hpressure]
      refine (hydraulicCheck_rested (by exact hwait) (by exact hexpired)).trans ?_
      simp [pressureTaken]
  · obtain ⟨hwait, hexpired⟩ := hs.2.rest hreq
    refine completes_event (f := pressureOkMoves true) rfl ?_ ⟨hs.1.of_eq rfl rfl, .of_pressure rfl rfl rfl⟩ rfl
    rw [pressureBack_eq hlow, grantOpportunity_nil (s := pressureTaken true s) hreq]
    simp [pressureTaken, hwait, hexpired]
  · have hgranted : pressureOkMoves true s =
        strokeGranted (.release a) (soleActive (.release a) k (pressureTaken true s)) := by
      rw [pressureBack_eq hlow]
      exact grantOpportunity_sole hreq rfl harmed hopen
    obtain ⟨hsame, hsettled⟩ := event_checked (s := s) (f := pressureOkMoves true)
      (hs.1.of_eq (by rw [hgranted]; rfl) (by rw [hgranted]; rfl)) rfl
    have hcheck : hydraulicCheck (pressureOkMoves true s) =
        { pressureOkMoves true s with
          valve := { (pressureOkMoves true s).valve with hydraulicWait := none, hydraulicExpired := false } } := by
      unfold hydraulicCheck
      rw [if_neg (by simp [hgranted, soleActive, pressureTaken])]
    obtain ⟨t, ht, hform, howes⟩ := event_next (f := fun _ => hydraulicCheck (pressureOkMoves true s)) (s := s) hsettled
    rw [hcheck, hgranted] at hform howes
    refine ⟨t, hsame.trans ht, ?_, howes.of_link_eq rfl, ?_, ?_⟩ <;> rw [hform]
    · rfl
    · rfl
    · rfl
  · exact completes_event rfl (by simp [hydraulicExpires, hoff]) hs rfl
  · have hexpires : hydraulicExpires s = raiseFault .hydraulicLow .absent
        { s with valve := { s.valve with hydraulicWait := none, hydraulicExpired := true } } := by
      simp [hydraulicExpires, hwait]
    have hstarved : s.valve.pressureOk = false ∧ ∃ r ∈ s.valve.requests, r.isActive = false := by
      by_contra hnot
      have hrest := hs.2
      rw [HydraulicSettled, if_neg hnot, hwait] at hrest
      cases hrest.1
    have hstill : Settled (hydraulicExpires s) := by
      rw [hexpires]
      refine ⟨hs.1.of_eq (by simp) (by simp), ?_⟩
      simp [HydraulicSettled, hstarved]
    obtain ⟨t, ht, hform, -⟩ := event_next (f := hydraulicExpires) (s := s) hstill
    rw [hexpires] at hform
    refine ⟨t, ht, ?_, ?_, ?_⟩ <;> rw [hform]
    · simp
    · exact hasFault_raiseFault _ _ _
    · simp

end

end Sys2Proof.Machine

namespace Sys2Proof.Machine

section

variable {s : State} {a : Axis} {v : Bool} {k : Stroke} {p m : Nat}

/-! ## A clamp's released switch (O42) -/

/-- A stroke alone on the list ends once its switch shows the target, and the walk after it follows (R90). -/
theorem settleStrokes_sole (n : Nat) (hreq : s.valve.requests = [⟨k, p, .active m⟩]) (hshown : confirmed s k = true) :
    settleStrokes (n + 1) s = settleStrokes n (grantWalk (strokeEnds k true s)) := by
  have hsome : confirmedRequest s = some ⟨k, p, .active m⟩ := by
    simp [confirmedRequest, hreq, Request.isActive, hshown]
  rw [settleStrokes, hsome]

/-- A release that joins an idle bank under pressure is granted (R89, R96). -/
theorem release_served (n : Nat) (hreq : s.valve.requests = []) (hpressure : s.valve.pressureOk = true)
    (harmed : s.stop.estop = .armed) (hopen : (s.clamp a).switchClosed = false) :
    settleStrokes n (grantWalk (joinRequest (.release a) (setClampState a .releaseWait s))) =
      { s.setClamp a { s.clamp a with state := .releasing } with
        valve := { s.valve with requests := [⟨.release a, 0, .active s.valve.clampLimit⟩] } } := by
  have hlist : (joinRequest (.release a) (setClampState a .releaseWait s)).valve.requests =
      [⟨.release a, 0, .waiting⟩] := by
    simp [joinRequest, setClampState, State.setClamp, hreq]
  have hunshown : confirmed (joinRequest (.release a) (setClampState a .releaseWait s)) (.release a) = false := by
    simpa [confirmed, joinRequest, setClampState, State.setClamp, State.clamp] using hopen
  rw [grantWalk_sole hlist hpressure harmed, settleStrokes_granted n hunshown]
  simp [strokeGranted, soleActive, joinRequest, setClampState, State.setClamp, State.clamp, strokeLimit]

/-- A release that joins an idle bank where nothing is granted waits (R88, R96). -/
theorem release_waits (n : Nat) (hreq : s.valve.requests = []) (h : ¬(s.valve.pressureOk = true ∧ s.stop.estop = .armed)) :
    settleStrokes n (grantWalk (joinRequest (.release a) (setClampState a .releaseWait s))) =
      { s.setClamp a { s.clamp a with state := .releaseWait } with
        valve := { s.valve with requests := [⟨.release a, 0, .waiting⟩] } } := by
  have hlist : (joinRequest (.release a) (setClampState a .releaseWait s)).valve.requests =
      [⟨.release a, 0, .waiting⟩] := by
    simp [joinRequest, setClampState, State.setClamp, hreq]
  rw [grantWalk_barred (s := joinRequest (.release a) (setClampState a .releaseWait s)) h, settleStrokes_waiting n hlist]
  simp [joinRequest, setClampState, State.setClamp, State.clamp, hreq]

/-- The level of a clamp's released switch as it is taken. -/
def releasedWritten (a : Axis) (v : Bool) (s : State) : State := s.setClamp a { s.clamp a with switchClosed := v }

theorem releasedWritten_clamp : (releasedWritten a v s).clamp a = { s.clamp a with switchClosed := v } := by
  simp [releasedWritten, State.setClamp, State.clamp]

theorem clampSwitchMoves_of_ne (h : (s.clamp a).switchClosed ≠ v) :
    clampSwitchMoves a v s =
      if clampTakesPart s a then clampSwitchMeans a v (releasedWritten a v s) else releasedWritten a v s := by
  have hpart : clampTakesPart (releasedWritten a v s) a = clampTakesPart s a := rfl
  rw [← hpart]
  unfold clampSwitchMoves
  rw [if_neg (by simpa using h)]
  rfl

/-- Where the level is not watched it is taken and nothing else (R93, R99). -/
theorem clampSwitchMoves_unwatched (h : (s.clamp a).switchClosed ≠ v)
    (hstate : clampTakesPart s a = false ∨ (s.clamp a).state = .fault ∨ (s.clamp a).state = .releaseWait
      ∨ (s.clamp a).state = .engageWait ∨ (v = true ∧ ((s.clamp a).state = .released ∨ (s.clamp a).state = .settling))
      ∨ (v = false ∧ (s.clamp a).state = .engaged)) : clampSwitchMoves a v s = releasedWritten a v s := by
  have hsame : ((releasedWritten a v s).clamp a).state = (s.clamp a).state := by rw [releasedWritten_clamp]
  rw [clampSwitchMoves_of_ne h]
  split
  · next hpart =>
    unfold clampSwitchMeans
    rw [hsame]
    rcases hstate with hno | hs | hs | hs | ⟨rfl, hs | hs⟩ | ⟨rfl, hs⟩
    · rw [hno] at hpart
      cases hpart
    all_goals rw [hs]
  · rfl

/-- In RELEASING and ENGAGING the level may end the stroke in hand (R90, R96). -/
theorem clampSwitchMoves_stroke (h : (s.clamp a).switchClosed ≠ v) (hpart : clampTakesPart s a = true)
    (hstate : (s.clamp a).state = .releasing ∨ (s.clamp a).state = .engaging) :
    clampSwitchMoves a v s = settleStrokes 32 (releasedWritten a v s) := by
  have hsame : ((releasedWritten a v s).clamp a).state = (s.clamp a).state := by rw [releasedWritten_clamp]
  rw [clampSwitchMoves_of_ne h, if_pos hpart]
  unfold clampSwitchMeans
  rw [hsame]
  rcases hstate with hs | hs <;> rw [hs]

/-- A RELEASE that its switch ends, alone on the list (R90, R96). -/
theorem releaseShown (hpart : clampTakesPart s a = true) (hopen : (s.clamp a).switchClosed = false)
    (hstate : (s.clamp a).state = .releasing) (hreq : s.valve.requests = [⟨.release a, p, .active m⟩]) :
    clampSwitchMoves a true s =
      settleStrokes 31 (grantWalk (releaseSucceeded a (noRequests (releasedWritten a true s)))) := by
  have hshown : confirmed (releasedWritten a true s) (.release a) = true := by simp [confirmed, releasedWritten_clamp]
  have hremoved := (strokeTimesOut_single (s := releasedWritten a true s) (k := .release a) hreq).2
  rw [clampSwitchMoves_stroke (by simp [hopen]) hpart (.inl hstate),
    settleStrokes_sole (s := releasedWritten a true s) 31 hreq hshown]
  exact congrArg (fun t => settleStrokes 31 (grantWalk (releaseSucceeded a t))) hremoved

/-- An ENGAGE that its switch ends, alone on the list (R90, R98). -/
theorem engageShown (hpart : clampTakesPart s a = true) (hclosed : (s.clamp a).switchClosed = true)
    (hstate : (s.clamp a).state = .engaging) (hreq : s.valve.requests = [⟨.engage a, p, .active m⟩]) :
    clampSwitchMoves a false s =
      settleStrokes 31 (grantWalk (engageSucceeded a (noRequests (releasedWritten a false s)))) := by
  have hshown : confirmed (releasedWritten a false s) (.engage a) = true := by simp [confirmed, releasedWritten_clamp]
  have hremoved := (strokeTimesOut_single (s := releasedWritten a false s) (k := .engage a) hreq).2
  rw [clampSwitchMoves_stroke (by simp [hclosed]) hpart (.inr hstate),
    settleStrokes_sole (s := releasedWritten a false s) 31 hreq hshown]
  exact congrArg (fun t => settleStrokes 31 (grantWalk (engageSucceeded a t))) hremoved

/-- An effect that leaves the list empty is all that a switch's stroke does. -/
theorem walk_emptied (n : Nat) {u : State} (hreq : u.valve.requests = []) : settleStrokes n (grantWalk u) = u := by
  rw [grantWalk_empty hreq, settleStrokes_empty n hreq]

/-- A change of its own of an ENGAGED or RELEASED clamp's switch is a fault (R93). -/
theorem clampSwitchMoves_fault (hpart : clampTakesPart s a = true) (h : (s.clamp a).switchClosed ≠ v)
    (hstate : (v = true ∧ (s.clamp a).state = .engaged) ∨ (v = false ∧ (s.clamp a).state = .released)) :
    clampSwitchMoves a v s = clampSwitchFault a (releasedWritten a v s) := by
  have hsame : ((releasedWritten a v s).clamp a).state = (s.clamp a).state := by rw [releasedWritten_clamp]
  rw [clampSwitchMoves_of_ne h, if_pos hpart]
  unfold clampSwitchMeans
  rw [hsame]
  rcases hstate with ⟨rfl, hs⟩ | ⟨rfl, hs⟩ <;> rw [hs]

/-- Opening in SETTLING it shows ENGAGED (R99). -/
theorem clampSwitchMoves_settled (hpart : clampTakesPart s a = true) (hclosed : (s.clamp a).switchClosed = true)
    (hstate : (s.clamp a).state = .settling) :
    clampSwitchMoves a false s = s.setClamp a { s.clamp a with state := .engaged, switchClosed := false } := by
  have hsame : ((releasedWritten a false s).clamp a).state = .settling := by rw [releasedWritten_clamp, hstate]
  have hmeans : clampSwitchMoves a false s = setClampState a .engaged (releasedWritten a false s) := by
    rw [clampSwitchMoves_of_ne (by simp [hclosed]), if_pos hpart]
    unfold clampSwitchMeans
    rw [hsame]
  rw [hmeans]
  simp [releasedWritten, setClampState, State.setClamp, State.clamp]

/-- A clamp with CLAMP_SWITCH raised, before the immediate stop (R93). -/
def clampSwitchRaised (a : Axis) (s : State) : State :=
  (raiseFault .clampSwitch (.axis a) s).setClamp a { s.clamp a with state := .fault, linger := none }

theorem clampSwitchFault_eq (a : Axis) (s : State) : clampSwitchFault a s = immediateStop (clampSwitchRaised a s) := by
  simp [clampSwitchFault, clampSwitchRaised, setLinger, setClampState, State.setClamp, State.clamp]

theorem clampSwitchRaised_written (a : Axis) (v : Bool) (s : State) :
    (clampSwitchRaised a (releasedWritten a v s)).axes = s.axes
      ∧ (clampSwitchRaised a (releasedWritten a v s)).comp = s.comp
      ∧ (clampSwitchRaised a (releasedWritten a v s)).gear = s.gear
      ∧ (clampSwitchRaised a (releasedWritten a v s)).spindle = s.spindle
      ∧ (clampSwitchRaised a (releasedWritten a v s)).coolant = s.coolant
      ∧ (clampSwitchRaised a (releasedWritten a v s)).valve = s.valve
      ∧ (clampSwitchRaised a (releasedWritten a v s)).clamps =
          s.clamps.set a { s.clamp a with state := .fault, linger := none, switchClosed := v } := by
  simp [clampSwitchRaised, releasedWritten, State.setClamp, State.clamp]

/-! ### What a RELEASE that succeeds begins (R14, R19, R96, R97) -/

theorem releaseSucceeded_jog (h : (s.axis a).motion = .jog .clampWait) :
    releaseSucceeded a s = (setClampState a .released s).setAxis a { s.axis a with motion := .jog .moving } := by
  have hmoves : startMoving a (setClampState a .released s) =
      (setClampState a .released s).setAxis a { s.axis a with motion := .jog .moving } := by
    have hmotion : ((setClampState a .released s).axis a).motion = .jog .clampWait := h
    simp only [startMoving, hmotion]
    rfl
  simp only [releaseSucceeded, hmoves]
  rw [if_neg (by simp [AxisUnit.lingerIdle, AxisUnit.moving])]

theorem releaseSucceeded_reference {q : AxisParams} (h : (s.axis a).motion = .reference .clampWait)
    (hparams : (s.axis a).params = some q) :
    releaseSucceeded a s =
      (setClampState a .released s).setAxis a
        { s.axis a with
          motion := .reference .moving, velocity := 0, p := (s.axis a).commanded * 1000
          searchGoal := (s.axis a).commanded + signed q.refDirection q.refSearchDistance } := by
  have hmoves : startMoving a (setClampState a .released s) =
      (setClampState a .released s).setAxis a
        { s.axis a with
          motion := .reference .moving, velocity := 0, p := (s.axis a).commanded * 1000
          searchGoal := (s.axis a).commanded + signed q.refDirection q.refSearchDistance } := by
    have hmotion : ((setClampState a .released s).axis a).motion = .reference .clampWait := h
    have hp : ((setClampState a .released s).axis a).params = some q := hparams
    simp only [startMoving, hmotion, hp]
    rw [← hparams]
    rfl
  simp only [releaseSucceeded, hmoves]
  rw [if_neg (by simp [AxisUnit.lingerIdle, AxisUnit.moving])]

/-- An axis with no motion of its own begins none, and its linger timer starts where it is at rest and not claimed. -/
theorem releaseSucceeded_idle (h : (s.axis a).motion = .idle) :
    releaseSucceeded a s =
      if (s.axis a).atRest && !(s.axis a).claim then startLinger a (setClampState a .released s)
      else setClampState a .released s := by
  have hmotion : ((setClampState a .released s).axis a).motion = .idle := h
  have hstays : startMoving a (setClampState a .released s) = setClampState a .released s := by
    simp only [startMoving, hmotion]
  have hidle : ((setClampState a .released s).axis a).lingerIdle = ((s.axis a).atRest && !(s.axis a).claim) := by
    show (s.axis a).lingerIdle = _
    simp [AxisUnit.lingerIdle, AxisUnit.moving, h]
  simp only [releaseSucceeded, hstays, hidle]

/-- An ENGAGE that succeeds with no release pending leaves the clamp ENGAGED (R98). -/
theorem engageSucceeded_alone (h : (s.clamp a).releasePending = false) :
    engageSucceeded a s = setClampState a .engaged s := by
  simp [engageSucceeded, h]

/-- With a release pending the RELEASE is asked for an axis that moves outside LOOP (R98). -/
theorem engageSucceeded_pending (h : (s.clamp a).releasePending = true) :
    engageSucceeded a s =
      if (s.axis a).moving && (s.axis a).mode != .loop then
        joinRequest (.release a) (setClampState a .releaseWait (setReleasePending a false s))
      else setClampState a .engaged (setReleasePending a false s) := by
  simp [engageSucceeded, h]

/-- The state once a stroke of the clamp alone on the list has ended: the list empty, the level taken. -/
def strokeEnded (a : Axis) (v : Bool) (c : ClampState) (s : State) : State :=
  { s.setClamp a { s.clamp a with state := c, switchClosed := v } with valve := { s.valve with requests := [] } }

theorem setClampState_strokeEnded (c : ClampState) :
    setClampState a c (noRequests (releasedWritten a v s)) = strokeEnded a v c s := by
  simp [setClampState, noRequests, releasedWritten, strokeEnded, State.setClamp, State.clamp]

/-- The end of the stroke leaves nothing that waits (R92). -/
theorem Settled.strokeEnded (hs : Settled s) (hreq : s.valve.requests = [⟨k, p, .active m⟩]) (c : ClampState) :
    Settled (strokeEnded a v c s) :=
  (hs.noRequests hreq).of_eq rfl rfl rfl

/-- The end of the stroke that a switch's level shows, alone on the list, is as the stroke's success leaves it. -/
theorem noRequests_clamp : (noRequests (releasedWritten a v s)).clamp a = { s.clamp a with switchClosed := v } :=
  releasedWritten_clamp

/-- A change of its own of the switch: the fault, the clamp in FAULT and the immediate stop (R93). -/
theorem clampSwitch_faults (hs : Settled s) (hpart : clampTakesPart s a = true) (hne : (s.clamp a).switchClosed ≠ v)
    (hstate : (v = true ∧ (s.clamp a).state = .engaged) ∨ (v = false ∧ (s.clamp a).state = .released)) :
    ∃ t, exec (.clampReleasedSwitchChange a v) s = .next t
      ∧ hasFault t .clampSwitch (.axis a) = true
      ∧ t.clamps = s.clamps.set a { s.clamp a with state := .fault, linger := none, switchClosed := v }
      ∧ (∀ c, (t.axis c).motion = .idle ∧ (t.axis c).velocity = 0
          ∧ (t.axis c).commanded = (s.axis c).commanded ∧ (t.axis c).output = (s.axis c).output
          ∧ (t.axis c).measured = (s.axis c).measured ∧ (t.axis c).referenced = (s.axis c).referenced)
      ∧ t.planner.state = .idle ∧ t.planner.queue = [] ∧ t.planner.causes = .empty ∧ t.comp = s.comp
      ∧ (s.gear.step = .idle → t.gear = s.gear ∧ t.spindle = s.spindle ∧ t.coolant = s.coolant
          ∧ t.valve = s.valve) := by
  have hfault : clampSwitchMoves a v s = immediateStop (clampSwitchRaised a (releasedWritten a v s)) :=
    (clampSwitchMoves_fault hpart hne hstate).trans (clampSwitchFault_eq a _)
  obtain ⟨haxes, hcomp, hgear, hspindle, hcoolant, hvalve, hclamps⟩ := clampSwitchRaised_written a v s
  refine ⟨_, event_finish hfault, ?_, by simp [hclamps], fun c => ?_, by simp [idlePlanner], by simp [idlePlanner],
    by simp [idlePlanner], by simp [hcomp], fun hidle => ?_⟩
  · rw [hasFault_of_stop_eq (s := raiseFault .clampSwitch (.axis a) (releasedWritten a v s)) (by simp [clampSwitchRaised])]
    exact hasFault_raiseFault _ _ _
  · obtain ⟨k, hk⟩ := immediateStop_axis (clampSwitchRaised a (releasedWritten a v s)) c
    have hsame : (clampSwitchRaised a (releasedWritten a v s)).axis c = s.axis c := by
      rw [State.axis, haxes]
      rfl
    rw [finish_axis, hk, hsame]
    exact ⟨rfl, rfl, rfl, rfl, rfl, rfl⟩
  · obtain ⟨hg, hsp, hco, hv⟩ := immediateStop_blocks (s := clampSwitchRaised a (releasedWritten a v s)) (hgear ▸ hidle)
    refine ⟨by simp [hg, hgear], by simp [hsp, hspindle], by simp [hco, hcoolant], ?_⟩
    rw [finish_valve (hs.2.of_eq (hv.trans hvalve)), hv, hvalve]

/-- A RELEASE that ends beside an axis with no motion of its own (R96, R97). -/
theorem releaseShown_idle (hpart : clampTakesPart s a = true) (hopen : (s.clamp a).switchClosed = false)
    (hstate : (s.clamp a).state = .releasing) (hreq : s.valve.requests = [⟨.release a, p, .active m⟩])
    (hmotion : (s.axis a).motion = .idle) :
    clampSwitchMoves a true s =
      settleStrokes 31 (grantWalk
        (if (s.axis a).atRest && !(s.axis a).claim then startLinger a (strokeEnded a true .released s)
        else strokeEnded a true .released s)) := by
  rw [releaseShown hpart hopen hstate hreq,
    releaseSucceeded_idle (s := noRequests (releasedWritten a true s)) hmotion, setClampState_strokeEnded]
  rfl

/-- An ENGAGE that ends with a release pending (R98). -/
theorem engageShown_pending (hpart : clampTakesPart s a = true) (hclosed : (s.clamp a).switchClosed = true)
    (hstate : (s.clamp a).state = .engaging) (hreq : s.valve.requests = [⟨.engage a, p, .active m⟩])
    (hpending : (s.clamp a).releasePending = true) :
    clampSwitchMoves a false s =
      settleStrokes 31 (grantWalk
        (if (s.axis a).moving && (s.axis a).mode != .loop then
          joinRequest (.release a) (setClampState a .releaseWait
            (setReleasePending a false (noRequests (releasedWritten a false s))))
        else setClampState a .engaged (setReleasePending a false (noRequests (releasedWritten a false s))))) := by
  rw [engageShown hpart hclosed hstate hreq, engageSucceeded_pending (by rw [noRequests_clamp]; exact hpending)]
  rfl

end

section

variable {s : State} {a : Axis}

/-- The goal of a reference run's search lies in its direction (R14). -/
theorem add_signed (x n : Int) (d : Sign) : x + signed d n = if d = .plus then x + n else x - n := by
  cases d
  · rfl
  · simp [signed, sub_eq_add_neg]

/-- The linger timer of an axis at rest that no program claims (R96, R97). -/
theorem startLinger_strokeEnded {p : AxisParams} {c : ClampState} {v : Bool} (hp : (s.axis a).params = some p) :
    startLinger a (strokeEnded a v c s) =
      if p.clampLinger = 0 then lingerExpires a (strokeEnded a v c s)
      else
        { s.setClamp a { s.clamp a with state := c, switchClosed := v, linger := some p.clampLinger } with
          valve := { s.valve with requests := [] } } := by
  have hparams : ((strokeEnded a v c s).axis a).params = some p := hp
  unfold startLinger
  rw [hparams]
  by_cases h : p.clampLinger = 0
  · simp [h]
  · simp [h, strokeEnded, setLinger, State.setClamp, State.clamp]

@[simp] theorem finish_requests (s t : State) : (finish s t).valve.requests = t.valve.requests := by
  have hchecked : (finish s t).valve = (hydraulicCheck (siteReturn t)).valve := by simp [finish]
  rw [hchecked, hydraulicCheck_requests]
  simp

/-- A clamp_linger of 0 ms engages at once where the bank grants (R88, R96, R97). -/
theorem lingerless_ends {f : State → State}
    (hf : f s = settleStrokes 31 (grantWalk (lingerExpires a (strokeEnded a true .released s)))) :
    ∃ t, event f s = .next t ∧ t.axes = s.axes
      ∧ (if s.valve.pressureOk = true ∧ s.stop.estop = .armed then
          t.clamps = s.clamps.set a { s.clamp a with state := .engaging, linger := none, switchClosed := true }
            ∧ t.valve.requests = [⟨.engage a, 0, .active s.valve.clampLimit⟩]
        else
          t.clamps = s.clamps.set a { s.clamp a with state := .engageWait, linger := none, switchClosed := true }
            ∧ t.valve.requests = [⟨.engage a, 0, .waiting⟩]) := by
  by_cases hgrant : s.valve.pressureOk = true ∧ s.stop.estop = .armed
  · rw [engage_served (s := strokeEnded a true .released s) 31 rfl hgrant.1 hgrant.2
      (by simp [strokeEnded, State.setClamp, State.clamp])] at hf
    refine ⟨_, event_finish hf, ?_, ?_⟩
    · simp [strokeEnded]
    · rw [if_pos hgrant]
      simp [strokeEnded, State.setClamp, State.clamp]
  · rw [engage_waits (s := strokeEnded a true .released s) 31 rfl hgrant] at hf
    refine ⟨_, event_finish hf, ?_, ?_⟩
    · simp [strokeEnded]
    · rw [if_neg hgrant]
      simp [strokeEnded, State.setClamp, State.clamp]

/-- The RELEASE that was pending is asked and granted where the bank grants (R88, R98). -/
theorem pendingRelease_ends {f : State → State}
    (hf : f s = settleStrokes 31 (grantWalk (joinRequest (.release a) (setClampState a .releaseWait
      (setReleasePending a false (noRequests (releasedWritten a false s))))))) :
    ∃ t, event f s = .next t ∧ t.axes = s.axes
      ∧ (if s.valve.pressureOk = true ∧ s.stop.estop = .armed then
          t.clamps = s.clamps.set a { s.clamp a with state := .releasing, releasePending := false, switchClosed := false }
            ∧ t.valve.requests = [⟨.release a, 0, .active s.valve.clampLimit⟩]
        else
          t.clamps = s.clamps.set a { s.clamp a with state := .releaseWait, releasePending := false, switchClosed := false }
            ∧ t.valve.requests = [⟨.release a, 0, .waiting⟩]) := by
  by_cases hgrant : s.valve.pressureOk = true ∧ s.stop.estop = .armed
  · rw [release_served (s := setReleasePending a false (noRequests (releasedWritten a false s))) 31 rfl hgrant.1 hgrant.2
      (by simp [setReleasePending, noRequests, releasedWritten, State.setClamp, State.clamp])] at hf
    refine ⟨_, event_finish hf, ?_, ?_⟩
    · simp [setReleasePending, noRequests, releasedWritten]
    · rw [if_pos hgrant]
      simp [setReleasePending, noRequests, releasedWritten, State.setClamp, State.clamp]
  · rw [release_waits (s := setReleasePending a false (noRequests (releasedWritten a false s))) 31 rfl hgrant] at hf
    refine ⟨_, event_finish hf, ?_, ?_⟩
    · simp [setReleasePending, noRequests, releasedWritten]
    · rw [if_neg hgrant]
      simp [setReleasePending, noRequests, releasedWritten, State.setClamp, State.clamp]

/-- Settles O42: the switch where it is not watched, where its change is a fault, and where it ends a stroke, with what
the end of the stroke begins. -/
theorem clampSwitchWatched : Obligations.ClampSwitchWatched := by
  unfold Obligations.ClampSwitchWatched
  intro s a hs
  refine ⟨completes_event (f := clampSwitchMoves a _) rfl (by simp [clampSwitchMoves]) hs rfl, fun v hne hstate => ?_,
    fun v hpart hne hstate => clampSwitch_faults hs hpart hne hstate, fun hpart hclosed hstate => ?_,
    fun k n hpart hopen hstate hclaim hmotion hreq => ?_, fun k n hpart hclosed hstate hpending hreq => ?_,
    fun k n hpart hstroke => ?_, fun k n p c hp hpart hopen hstate hreq hc => ?_,
    fun k n hpart hclosed hstate hpending hreq => ?_⟩
  · exact completes_event rfl (clampSwitchMoves_unwatched hne hstate) (hs.of_eq rfl rfl rfl) rfl
  · exact completes_event rfl (clampSwitchMoves_settled hpart hclosed hstate) (hs.of_eq rfl rfl rfl) rfl
  · refine completes_event (f := clampSwitchMoves a true) rfl ?_ (hs.strokeEnded hreq .released) rfl
    rw [releaseShown_idle hpart hopen hstate hreq hmotion, hclaim, Bool.not_true, Bool.and_false,
      if_neg Bool.false_ne_true]
    exact walk_emptied 31 rfl
  · refine completes_event (f := clampSwitchMoves a false) rfl ?_ (hs.strokeEnded hreq .engaged) rfl
    rw [engageShown hpart hclosed hstate hreq, engageSucceeded_alone (by rw [noRequests_clamp]; exact hpending),
      setClampState_strokeEnded]
    exact walk_emptied 31 rfl
  · have hstate : (s.clamp a).state = .releasing ∨ (s.clamp a).state = .engaging :=
      hstroke.imp (fun h => h.2.1) (fun h => h.2.1)
    refine completes_event (f := clampSwitchMoves a _) rfl ?_ (hs.of_eq rfl rfl rfl) rfl
    rw [clampSwitchMoves_stroke (by simp) hpart hstate]
    refine settleStrokes_open 32 fun r hr _ => ?_
    have hlist : r ∈ s.valve.requests := hr
    rcases hstroke with ⟨hlevel, -, hreq⟩ | ⟨hlevel, -, hreq⟩
    · rw [hreq, List.mem_singleton] at hlist
      simp [hlist, confirmed, releasedWritten_clamp, hlevel]
    · rw [hreq, List.mem_singleton] at hlist
      simp [hlist, confirmed, releasedWritten_clamp, hlevel]
  · subst hc
    have hends := releaseShown hpart hopen hstate hreq
    refine ⟨fun hjog => ?_, fun href => ?_, fun hidle hclaim => ?_⟩
    · refine completes_event (f := clampSwitchMoves a true) rfl ?_
        ((hs.strokeEnded (a := a) (v := true) hreq .released).setAxis fun _ => by simp) rfl
      rw [hends, releaseSucceeded_jog (s := noRequests (releasedWritten a true s)) hjog, setClampState_strokeEnded]
      exact walk_emptied 31 rfl
    · refine completes_event (f := clampSwitchMoves a true) rfl ?_
        ((hs.strokeEnded (a := a) (v := true) hreq .released).setAxis fun _ => by simp) rfl
      rw [hends, releaseSucceeded_reference (s := noRequests (releasedWritten a true s)) href hp,
        setClampState_strokeEnded, walk_emptied 31 rfl]
      simp only [add_signed]
      rfl
    · have hidled := releaseShown_idle hpart hopen hstate hreq hidle
      refine ⟨fun hmoves => ?_, fun hrest hlinger => ?_, fun hrest hlinger => ?_⟩
      · refine completes_event (f := clampSwitchMoves a true) rfl ?_ (hs.strokeEnded hreq .released) rfl
        rw [hidled, hmoves, Bool.false_and, if_neg Bool.false_ne_true]
        exact walk_emptied 31 rfl
      · refine completes_event (f := clampSwitchMoves a true) rfl ?_
          ((hs.noRequests hreq).of_eq rfl rfl rfl) rfl
        rw [hidled, hrest, hclaim, Bool.not_false, Bool.and_true, if_pos rfl, startLinger_strokeEnded hp, if_neg hlinger]
        exact walk_emptied 31 rfl
      · refine lingerless_ends (f := clampSwitchMoves a true) ?_
        rw [hidled, hrest, hclaim, Bool.not_false, Bool.and_true, if_pos rfl, startLinger_strokeEnded hp, if_pos hlinger]
  · have hends := engageShown_pending hpart hclosed hstate hreq hpending
    refine ⟨fun hrests => ?_, fun hmoves hmode => pendingRelease_ends (f := clampSwitchMoves a false) ?_⟩
    · refine completes_event (f := clampSwitchMoves a false) rfl ?_ ((hs.noRequests hreq).of_eq rfl rfl rfl) rfl
      have hstays : ((s.axis a).moving && (s.axis a).mode != .loop) = false := by
        rcases hrests with ⟨hclaim, hmotion⟩ | hloop
        · simp [AxisUnit.moving, hclaim, hmotion]
        · simp [hloop]
      rw [hends, hstays, if_neg Bool.false_ne_true]
      refine (walk_emptied 31 rfl).trans ?_
      simp [setClampState, setReleasePending, noRequests, releasedWritten, State.setClamp, State.clamp]
    · have hmoving : ((s.axis a).moving && (s.axis a).mode != .loop) = true := by
        rcases hmoves with hclaim | hmotion
        · simp [AxisUnit.moving, hclaim, hmode]
        · simp [AxisUnit.moving, hmotion, hmode]
      rw [hends, if_pos hmoving]

end

end Sys2Proof.Machine

namespace Sys2Proof.Machine

section

variable {s t u : State} {g : GearTarget} {k : ForkStroke}

/-! ## The spindle as a gear change begins (R111, R124, R131) -/

@[simp] theorem withTarget_motorMax (s : State) (p : Spindle) : (withTarget s p).motorMax = p.motorMax := by
  unfold withTarget
  split <;> rfl

@[simp] theorem settled_motorMax (s : State) (p : Spindle) : (settled s p).motorMax = p.motorMax := by
  unfold settled
  (repeat' split) <;> simp

/-- A gearbox that shifts gives no row, and no commanded speed (R106). -/
theorem commandedSpeed_shifting (h : s.gear.gearbox = .shifting) (p : Spindle) : (commandedSpeed s p).1 = 0 := by
  unfold commandedSpeed
  rw [currentRow_shifting h]

/-- The spindle of a change in progress: the command kept and not applied, nothing else begun. -/
structure ChangeHeld (s t : State) : Prop where
  sProg : t.spindle.sProg = s.spindle.sProg
  sCmd : t.spindle.sCmd = 0
  stopped : t.spindle.stopped = s.spindle.stopped
  motorMax : t.spindle.motorMax = s.spindle.motorMax
  phase : s.spindle.phase ≠ .creep → t.spindle.phase ≠ .creep

/-- A formed speed of a gearbox that shifts. -/
theorem ChangeHeld.formSpeed (hprog : t.spindle.sProg = s.spindle.sProg)
    (hstopped : t.spindle.stopped = s.spindle.stopped) (hmotor : t.spindle.motorMax = s.spindle.motorMax)
    (hphase : t.spindle.phase = s.spindle.phase) (hgear : t.gear.gearbox = .shifting) :
    ChangeHeld s (formSpeed t) where
  sProg := by simpa using hprog
  sCmd := by rw [formSpeed_sCmd, commandedSpeed_shifting (by simpa using hgear)]
  stopped := by simpa using hstopped
  motorMax := by simpa [Machine.formSpeed, withSpeed] using hmotor
  phase h := settled_phase (by simpa [hphase] using h)

theorem changeHeld_setGearbox (s : State) : ChangeHeld s (setGearbox .shifting s) := by
  unfold setGearbox
  split
  · exact .formSpeed rfl rfl rfl rfl rfl
  · exact .formSpeed rfl rfl rfl rfl rfl

@[simp] theorem setGearbox_shifting_reference (s : State) :
    (setGearbox .shifting s).spindle.reference = if s.gear.gearbox.inRange then 0 else s.spindle.reference := by
  unfold setGearbox
  cases hrange : s.gear.gearbox.inRange <;> simp [Gearbox.inRange, zeroReference]

/-- TSC gives way to a change where its pump runs (R143). -/
theorem coolantChangeBegins_cases (s : State) :
    (coolantChangeBegins s = s ∧ tscPump s = false)
      ∨ (coolantChangeBegins s = leaveTsc .suspended s ∧ tscPump s = true) := by
  unfold coolantChangeBegins tscPump
  cases s.coolant.tsc <;> simp

theorem coolantChangeBegins_tsc (s : State) :
    (coolantChangeBegins s).coolant.tsc = if tscPump s then .suspended else s.coolant.tsc := by
  rcases coolantChangeBegins_cases s with ⟨hc, hp⟩ | ⟨hc, hp⟩ <;> simp [hc, hp]

@[simp] theorem coolantChangeBegins_reference (s : State) :
    (coolantChangeBegins s).spindle.reference = s.spindle.reference := by
  rcases coolantChangeBegins_cases s with ⟨hc, -⟩ | ⟨hc, -⟩
  · rw [hc]
  · rw [hc, leaveTsc, formIfCeiling]
    split <;> simp

theorem ChangeHeld.coolantChangeBegins (h : ChangeHeld s t) (hgear : t.gear.gearbox = .shifting) :
    ChangeHeld s (coolantChangeBegins t) := by
  rcases coolantChangeBegins_cases t with ⟨hc, -⟩ | ⟨hc, -⟩
  · rwa [hc]
  · rw [hc, leaveTsc, formIfCeiling]
    split
    · exact ⟨h.sProg, h.sCmd, h.stopped, h.motorMax, h.phase⟩
    · refine ⟨by simpa using h.sProg, ?_, by simpa using h.stopped, ?_, fun hp => settled_phase ?_⟩
      · rw [formSpeed_sCmd, commandedSpeed_shifting (by simpa using hgear)]
      · simpa [Machine.formSpeed, withSpeed] using h.motorMax
      · simpa using h.phase hp

/-- The record of a change that has just begun (R130, R131). -/
def changeRecorded (g : GearTarget) (s : State) : State :=
  { s with
    gear :=
      { s.gear with target := some g, owner := some .order, attempts := 0, step := .stopping, stroke := none } }

/-- A gear change as it begins, before it plans (R131, R143). -/
def changeBegun (g : GearTarget) (s : State) : State :=
  coolantChangeBegins (setGearbox .shifting (changeRecorded g s))

@[simp] theorem changeBegun_frame (g : GearTarget) (s : State) :
    (changeBegun g s).link = s.link ∧ (changeBegun g s).planner = s.planner ∧ (changeBegun g s).axes = s.axes
      ∧ (changeBegun g s).comp = s.comp ∧ (changeBegun g s).clamps = s.clamps ∧ (changeBegun g s).valve = s.valve
      ∧ (changeBegun g s).pendant = s.pendant ∧ (changeBegun g s).stop = s.stop
      ∧ (changeBegun g s).clocks = s.clocks ∧ (changeBegun g s).pending = s.pending := by
  simp [changeBegun, changeRecorded]

theorem changeBegun_blocks (g : GearTarget) (s : State) :
    changeBegun g s =
        { s with
          gear := (changeBegun g s).gear, spindle := (changeBegun g s).spindle, coolant := (changeBegun g s).coolant }
      ∧ (changeBegun g s).gear =
          { s.gear with
            gearbox := .shifting, step := .stopping, target := some g, owner := some .order, attempts := 0
            stroke := none } := by
  simp [changeBegun, changeRecorded, State.eq_iff_blocks]

theorem changeBegun_spindle (g : GearTarget) (s : State) :
    ChangeHeld s (changeBegun g s)
      ∧ (changeBegun g s).spindle.reference = if s.gear.gearbox.inRange then 0 else s.spindle.reference := by
  obtain ⟨hprog, hcmd, hstopped, hmotor, hphase⟩ := changeHeld_setGearbox (changeRecorded g s)
  exact ⟨ChangeHeld.coolantChangeBegins ⟨hprog, hcmd, hstopped, hmotor, hphase⟩ (by simp), by simp [changeBegun, changeRecorded]⟩

theorem changeBegun_tsc (g : GearTarget) (s : State) :
    (changeBegun g s).coolant.tsc = if tscPump s then .suspended else s.coolant.tsc := by
  rw [changeBegun, coolantChangeBegins_tsc]
  simp [changeRecorded, tscPump]

/-- A change that begins waits for STOPPED, and plans at once where it is set (R131). -/
theorem beginChange_eq (g : GearTarget) (s : State) :
    beginChange g .order s = if s.spindle.stopped then planFirst (changeBegun g s) else changeBegun g s := by
  have hstopped : (changeBegun g s).spindle.stopped = s.spindle.stopped := (changeBegun_spindle g s).1.stopped
  rw [← hstopped]
  rfl

end

end Sys2Proof.Machine

namespace Sys2Proof.Machine

section

variable {s t u : State} {tag : Tag} {g : GearTarget} {k : ForkStroke}

/-! ## Gear Set (O33) -/

theorem gearTargetOf_byte (g : GearTarget) : gearTargetOf (byteAt [GearTarget.byte g] 0) = some g := by
  cases g with
  | neutral => rfl
  | range r => cases r <;> rfl

/-- A Gear Set order is admitted but for what BUSY refuses (R131). -/
structure GearAdmitted (s : State) : Prop where
  table : s.gear.table.isSome = true
  armed : s.stop.estop = .armed
  host : s.pendant.site = .host

/-- Nothing that refuses a Gear Set order BUSY (R131). -/
def GearFree (s : State) : Prop :=
  s.planner.state = .idle ∧ headIsPerRev s = false ∧ s.gear.held = false ∧ s.gear.step ≠ .ending

theorem GearAdmitted.refuses (h : GearAdmitted s)
    (hbusy : s.planner.state ≠ .idle ∨ headIsPerRev s = true ∨ s.gear.held = true ∨ s.gear.step = .ending) :
    gearSetOrder [GearTarget.byte g] s = .refuse .busy := by
  have hfields : s.gear.table.isNone = false := by
    rw [← Option.not_isSome, h.table]
    rfl
  have hlast : (s.planner.state != .idle || headIsPerRev s || s.gear.held || s.gear.step == .ending) = true := by
    rcases hbusy with hb | hb | hb | hb <;> simp [hb]
  have hlength : firstRefusal [(([GearTarget.byte g] : List Byte).length != 1, RefuseCode.badLength)] = none := rfl
  unfold gearSetOrder judgeField
  rw [hlength, gearTargetOf_byte]
  simp only [judge, gearSetRefusals, firstRefusal, hfields, h.armed, h.host, hlast, Bool.and_false]
  rfl

theorem GearAdmitted.accepts (h : GearAdmitted s) (hfree : GearFree s)
    (hu : withOpportunity (gearTargetTaken g) s = u) :
    gearSetOrder [GearTarget.byte g] s = .accept u (.gear u.gear.gearbox u.gear.step) := by
  obtain ⟨hplanner, hhead, hheld, hstep⟩ := hfree
  have hfields : s.gear.table.isNone = false := by
    rw [← Option.not_isSome, h.table]
    rfl
  refine (judgeField_accept (by simp) (gearTargetOf_byte g) ?_).trans (by rw [accepted, hu])
  simp [gearSetRefusals, hfields, h.armed, h.host, hplanner, hhead, hheld, hstep]

/-- An admitted order completes with its effect and its ACCEPT. -/
theorem GearAdmitted.completes (h : GearAdmitted s) (hroom : ReplyRoom s) (hfree : GearFree s)
    (hu : withOpportunity (gearTargetTaken g) s = u) (hsettled : Settled u) (hl : u.link = s.link) :
    Completes (.gearSet tag [GearTarget.byte g]) s u [.accept tag (.gear u.gear.gearbox u.gear.step)] [] :=
  completes_order (fun _ => rfl) hroom (h.accepts hfree hu) hsettled hl

/-- An effect that leaves the request list as it stands calls for no grant opportunity. -/
theorem gearTarget_quiet (hu : gearTargetTaken g s = u) (hreq : u.valve.requests = s.valve.requests) :
    withOpportunity (gearTargetTaken g) s = u :=
  (withOpportunity_of_eq (by rw [hu, hreq])).trans hu

/-- An effect that changes the request list is followed by a grant opportunity (R88). -/
theorem gearTarget_grants (hu : gearTargetTaken g s = u) (hreq : u.valve.requests ≠ s.valve.requests) :
    withOpportunity (gearTargetTaken g) s = grantOpportunity u := by
  rcases withOpportunity_cases (gearTargetTaken g) s with ⟨e, -⟩ | ⟨-, e⟩
  · rw [hu] at e
    exact absurd e hreq
  · rw [e, hu]

/-! ### The target taken, by the step of the change -/

theorem gearTargetTaken_held (hstep : s.gear.step = .stopping ∨ s.gear.step = .stroke ∨ s.gear.step = .pause)
    (htarget : s.gear.target = some g) : gearTargetTaken g s = s := by
  unfold gearTargetTaken gearRetarget
  rcases hstep with h | h | h <;> simp [h, htarget]

/-- The record of a change with another target. -/
def retargeted (g : GearTarget) (s : State) : State :=
  { s with gear := { s.gear with target := some g, owner := some .order, attempts := 0 } }

theorem gearTargetTaken_waiting (hstep : s.gear.step = .stopping ∨ s.gear.step = .stroke)
    (htarget : s.gear.target ≠ some g) : gearTargetTaken g s = retargeted g s := by
  unfold gearTargetTaken gearRetarget retarget
  rcases hstep with h | h <;> simp [h, htarget, retargeted]

/-- A new target in PAUSE is planned at once (R137). -/
theorem gearTargetTaken_pause (hstep : s.gear.step = .pause) (htarget : s.gear.target ≠ some g) :
    gearTargetTaken g s =
      planFirst { retargeted g s with gear := { (retargeted g s).gear with pauseTimer := none } } := by
  unfold gearTargetTaken gearRetarget retarget
  simp [hstep, htarget, retargeted]

theorem gearTargetTaken_idle (hstep : s.gear.step = .idle) :
    gearTargetTaken g s = if s.gear.gearbox = g.state then s else beginChange g .order s := by
  unfold gearTargetTaken
  simp [hstep]

theorem planFirst_some (htarget : s.gear.target = some g) (hplan : planStroke s.gear.switches g = some k) :
    planFirst s = requestStroke k s := by
  have hnext : nextStroke s = some k := by simp [nextStroke, htarget, hplan]
  unfold planFirst
  rw [hnext]

theorem planFirst_none (htarget : s.gear.target = some g) (hplan : planStroke s.gear.switches g = none) :
    planFirst s = settleChange s := by
  have hnext : nextStroke s = none := by simp [nextStroke, htarget, hplan]
  unfold planFirst
  rw [hnext]

/-! ### A fork's stroke, requested -/

/-- The spindle as a granted stroke leaves it: a creep, where the stroke engages (R112, R133). -/
def strokeSpindle (k : ForkStroke) (s : State) : Spindle :=
  if strokeEngages s.gear.switches k then
    { s.spindle with
      phase := .creep, atSpeed := false, stallCount := 0, directionOut := .cw
      reference := if spindleEnable s then creepCode s else 0, dacTarget := creepCode s }
  else s.spindle

/-- A change whose stroke is granted as it joins an idle bank. -/
def strokeBegun (k : ForkStroke) (s : State) : State :=
  { s with
    gear :=
      { s.gear with
        step := .stroke, stroke := some k, engaging := strokeEngages s.gear.switches k
        creep := if strokeEngages s.gear.switches k then some ⟨.cw, 250⟩ else s.gear.creep }
    valve := { s.valve with requests := [⟨.fork k, 0, .active s.valve.forkLimit⟩] }
    spindle := strokeSpindle k s }

theorem forkGranted_sole (k : ForkStroke) (s : State) :
    forkGranted (soleActive (.fork k) 0 (requestStroke k s)) = strokeBegun k s := by
  cases h : strokeEngages s.gear.switches k with
  | true =>
    unfold strokeBegun strokeSpindle forkGranted
    rw [h, if_pos (by simp [soleActive, requestStroke, joinRequest, h])]
    simp [soleActive, requestStroke, joinRequest, h, creepStart, creepDrive, strokeLimit, creepCode, spindleEnable,
      hasSpindleFault, hasCode]
  | false => simp [forkGranted, soleActive, requestStroke, joinRequest, h, strokeLimit, strokeBegun, strokeSpindle]

/-- A granted stroke waits for nothing (R92). -/
theorem strokeBegun_settled (hsite : SiteSettled s) (hvalve : HydraulicSettled s) (hreq : s.valve.requests = []) :
    Settled (strokeBegun k s) := by
  obtain ⟨hwait, hexpired⟩ := hvalve.rest hreq
  refine ⟨hsite.of_eq rfl rfl, .of_served (fun r hr => ?_) hwait hexpired⟩
  rw [List.mem_singleton.1 hr]
  rfl

theorem strokeSpindle_sProg (k : ForkStroke) (s : State) :
    (strokeSpindle k s).sProg = s.spindle.sProg ∧ (strokeSpindle k s).sCmd = s.spindle.sCmd := by
  unfold strokeSpindle
  split <;> exact ⟨rfl, rfl⟩

theorem strokeSpindle_creeps (h : strokeEngages s.gear.switches k = true) :
    (strokeSpindle k s).phase = .creep ∧ (strokeSpindle k s).directionOut = .cw
      ∧ (strokeSpindle k s).reference = if spindleEnable s then creepCode s else 0 := by
  unfold strokeSpindle
  rw [if_pos h]
  exact ⟨rfl, rfl, rfl⟩

theorem strokeSpindle_rests (h : strokeEngages s.gear.switches k = false) : strokeSpindle k s = s.spindle := by
  simp [strokeSpindle, h]

/-- A fork's stroke that joins an idle bank is granted at once (R87, R89, R133). -/
theorem requestStroke_granted (hreq : s.valve.requests = []) (hpressure : s.valve.pressureOk = true)
    (harmed : s.stop.estop = .armed) (hopen : confirmed s (.fork k) = false) :
    grantOpportunity (requestStroke k s) = strokeBegun k s := by
  have hlist : (requestStroke k s).valve.requests = [⟨.fork k, 0, .waiting⟩] := by
    simp [requestStroke, joinRequest, hreq]
  have hunshown : confirmed (requestStroke k s) (.fork k) = false := by
    rw [confirmed_congr (s := s) (fun a => by simp [State.clamp]) (by simp [requestStroke, joinRequest])]
    exact hopen
  rw [grantOpportunity_sole hlist (by simpa [requestStroke, joinRequest] using hpressure) (by simpa using harmed) hunshown]
  exact forkGranted_sole k s

/-- The walk passes over what is ACTIVE (R89). -/
theorem walk_active (v : ValveBank) (l : List Request) (hactive : ∀ r ∈ l, r.isActive = true) (ahead rest : List Request)
    (free : Nat) (granted : List Stroke) : walk v ahead free (l ++ rest) granted = walk v (ahead ++ l) free rest granted := by
  induction l generalizing ahead with
  | nil => simp
  | cons r l ih =>
    have hr : r.isActive = true := hactive r (by simp)
    have hl : ∀ r ∈ l, r.isActive = true := fun r hr => hactive r (by simp [hr])
    rw [List.cons_append, walk, if_pos hr, ih hl]
    simp

theorem barrier_active {l : List Request} (limit : Nat) (hactive : ∀ r ∈ l, r.isActive = true) : barrier limit l = false := by
  have hnone : (l.find? fun r => !r.isActive) = none := by
    rw [List.find?_eq_none]
    intro r hr
    simp [hactive r hr]
  rw [barrier, hnone]

/-- Behind ACTIVE strokes that leave less than its units a request waits (R87, R89). -/
theorem grantWalk_narrow {j : Stroke} {p : Nat} {l : List Request} (hreq : s.valve.requests = l ++ [⟨j, p, .waiting⟩])
    (hactive : ∀ r ∈ l, r.isActive = true) (hwide : Config.flowUnits < flowInUse l + j.weight) : grantWalk s = s := by
  have hflow : flowInUse (l ++ [⟨j, p, .waiting⟩]) = flowInUse l := by simp [flowInUse, Request.isActive]
  have hnarrow : ¬j.weight ≤ Config.flowUnits - flowInUse l := by
    have hpositive : 0 < j.weight := by cases j <;> simp [Stroke.weight]
    omega
  have hwalk : walk s.valve [] (Config.flowUnits - flowInUse s.valve.requests) s.valve.requests [] =
      (s.valve.requests, []) := by
    rw [hreq, hflow, walk_active s.valve l hactive]
    simp [walk, Request.isActive, barrier_active s.valve.bypassLimit hactive, hnarrow]
  unfold grantWalk
  rw [hwalk]
  split <;> rfl

theorem requestStroke_waits (hwide : 2 ≤ flowInUse s.valve.requests)
    (hactive : ∀ r ∈ s.valve.requests, r.isActive = true ∧ confirmed s r.stroke = false) :
    grantOpportunity (requestStroke k s) = requestStroke k s := by
  have hlist : (requestStroke k s).valve.requests = s.valve.requests ++ [⟨.fork k, 0, .waiting⟩] := by
    simp [requestStroke, joinRequest]
  refine grantOpportunity_still (grantWalk_narrow hlist (fun r hr => (hactive r hr).1) ?_) fun r hr hserved => ?_
  · simp only [Stroke.weight, Config.flowUnits]
    omega
  · rw [confirmed_congr (s := s) (fun a => by simp [State.clamp]) (by simp [requestStroke, joinRequest])]
    rw [hlist, List.mem_append, List.mem_singleton] at hr
    rcases hr with hr | rfl
    · exact (hactive r hr).2
    · cases hserved

end

end Sys2Proof.Machine

namespace Sys2Proof.Machine

section

variable {s : State} {tag : Tag} {g : GearTarget} {k : ForkStroke}

/-! ## The outcomes of an accepted Gear Set (O33) -/

/-- With the spindle turning a change begins and waits for STOPPED (R131). -/
theorem gearSet_waits (hs : Settled s) (hroom : ReplyRoom s) (h : GearAdmitted s) (hfree : GearFree s)
    (hstep : s.gear.step = .idle) (hgear : s.gear.gearbox ≠ g.state) (hturns : s.spindle.stopped = false) :
    ∃ t, exec (.gearSet tag [GearTarget.byte g]) s = .next t
      ∧ t = { s with gear := t.gear, spindle := t.spindle, coolant := t.coolant, link := t.link }
      ∧ Owes s t [.accept tag (.gear .shifting .stopping)] []
      ∧ t.gear =
          { s.gear with
            gearbox := .shifting, step := .stopping, target := some g, owner := some .order, attempts := 0
            stroke := none }
      ∧ t.spindle.sProg = s.spindle.sProg ∧ t.spindle.sCmd = 0
      ∧ t.spindle.reference = (if s.gear.gearbox.inRange then 0 else s.spindle.reference)
      ∧ t.coolant.tsc = (if tscPump s then .suspended else s.coolant.tsc) := by
  obtain ⟨hblocks, hrecord⟩ := changeBegun_blocks g s
  obtain ⟨hheld, href⟩ := changeBegun_spindle g s
  have htaken : gearTargetTaken g s = changeBegun g s := by
    rw [gearTargetTaken_idle hstep, if_neg hgear, beginChange_eq, hturns]
    rfl
  obtain ⟨t, ht, hform, howes⟩ := h.completes (tag := tag) hroom hfree
    (gearTarget_quiet htaken (by rw [hblocks])) (hs.of_eq (by rw [hblocks]) (by rw [hblocks]) (by rw [hblocks]))
    (by rw [hblocks])
  rw [hrecord] at howes
  refine ⟨t, ht, ?_, howes, ?_, ?_, ?_, ?_, ?_⟩ <;> rw [hform]
  · rw [hblocks]
  · exact hrecord
  · exact hheld.sProg
  · exact hheld.sCmd
  · exact href
  · exact changeBegun_tsc g s

/-- With STOPPED set the change plans its first stroke at once (R131). -/
theorem gearTargetTaken_plans (hstep : s.gear.step = .idle) (hgear : s.gear.gearbox ≠ g.state)
    (hstopped : s.spindle.stopped = true) (hplan : planStroke s.gear.switches g = some k) :
    gearTargetTaken g s = requestStroke k (changeBegun g s) := by
  obtain ⟨-, hrecord⟩ := changeBegun_blocks g s
  rw [gearTargetTaken_idle hstep, if_neg hgear, beginChange_eq, hstopped, if_pos rfl]
  exact planFirst_some (by rw [hrecord]) (by rw [hrecord]; exact hplan)

theorem confirmed_changeBegun (g : GearTarget) (s : State) (j : Stroke) : confirmed (changeBegun g s) j = confirmed s j := by
  obtain ⟨hblocks, hrecord⟩ := changeBegun_blocks g s
  exact confirmed_congr (fun a => by rw [hblocks]; rfl) (by rw [hrecord])

theorem requestStroke_joins (k : ForkStroke) (s : State) : (requestStroke k s).valve.requests ≠ s.valve.requests := by
  simp [requestStroke, joinRequest]

/-- The first stroke granted at once (R89, R112, R133). -/
theorem gearSet_strokes (hs : Settled s) (hroom : ReplyRoom s) (h : GearAdmitted s) (hfree : GearFree s)
    (hreq : s.valve.requests = []) (hstep : s.gear.step = .idle) (hgear : s.gear.gearbox ≠ g.state)
    (hstopped : s.spindle.stopped = true) (hpressure : s.valve.pressureOk = true)
    (hplan : planStroke s.gear.switches g = some k) (hopen : confirmed s (.fork k) = false) :
    ∃ t, exec (.gearSet tag [GearTarget.byte g]) s = .next t
      ∧ t =
          { s with
            gear := t.gear, spindle := t.spindle, coolant := t.coolant, valve := t.valve, link := t.link }
      ∧ Owes s t [.accept tag (.gear .shifting .stroke)] []
      ∧ t.gear =
          { s.gear with
            gearbox := .shifting, step := .stroke, target := some g, owner := some .order, attempts := 0
            stroke := some k, engaging := strokeEngages s.gear.switches k
            creep := if strokeEngages s.gear.switches k then some ⟨.cw, 250⟩ else s.gear.creep }
      ∧ t.valve = { s.valve with requests := [⟨.fork k, 0, .active s.valve.forkLimit⟩] }
      ∧ t.spindle.sProg = s.spindle.sProg ∧ t.spindle.sCmd = 0
      ∧ (strokeEngages s.gear.switches k = true →
          t.spindle.phase = .creep ∧ t.spindle.directionOut = .cw
            ∧ t.spindle.reference =
                if spindleEnable s then roundUp (s.gear.creepSpeed * 4095) s.spindle.motorMax else 0)
      ∧ (strokeEngages s.gear.switches k = false →
          t.spindle.reference = (if s.gear.gearbox.inRange then 0 else s.spindle.reference)) := by
  obtain ⟨hblocks, hrecord⟩ := changeBegun_blocks g s
  obtain ⟨hheld, href⟩ := changeBegun_spindle g s
  have hvalve : (changeBegun g s).valve = s.valve := by rw [hblocks]
  have hstop : (changeBegun g s).stop = s.stop := by rw [hblocks]
  have htaken := gearTargetTaken_plans hstep hgear hstopped hplan
  have hgranted : withOpportunity (gearTargetTaken g) s = strokeBegun k (changeBegun g s) := by
    rw [gearTarget_grants htaken (hvalve ▸ requestStroke_joins k (changeBegun g s))]
    exact requestStroke_granted (hvalve ▸ hreq) (hvalve ▸ hpressure) (hstop ▸ h.armed)
      (by rw [confirmed_changeBegun]; exact hopen)
  have hsettled : Settled (strokeBegun k (changeBegun g s)) :=
    strokeBegun_settled (hs.1.of_eq (by rw [hblocks]) (by rw [hblocks])) (hs.2.of_eq hvalve) (hvalve ▸ hreq)
  have hswitches : (changeBegun g s).gear.switches = s.gear.switches := by rw [hrecord]
  obtain ⟨hprog, hcmd⟩ := strokeSpindle_sProg k (changeBegun g s)
  obtain ⟨t, ht, hform, howes⟩ := h.completes (tag := tag) hroom hfree hgranted hsettled (by rw [strokeBegun, hblocks])
  refine ⟨t, ht, ?_, ?_, ?_, ?_, ?_, ?_, fun hengages => ?_, fun hfrees => ?_⟩
  · rw [hform, strokeBegun, hblocks]
  · simpa only [strokeBegun, hrecord] using howes
  · rw [hform, strokeBegun, hrecord]
  · rw [hform, strokeBegun, hvalve]
  · rw [hform]
    exact hprog.trans hheld.sProg
  · rw [hform]
    exact hcmd.trans hheld.sCmd
  · obtain ⟨hphase, hdirection, hcreeps⟩ := strokeSpindle_creeps (k := k) (s := changeBegun g s) (hswitches ▸ hengages)
    rw [hform]
    refine ⟨hphase, hdirection, hcreeps.trans ?_⟩
    have hcode : creepCode (changeBegun g s) = roundUp (s.gear.creepSpeed * 4095) s.spindle.motorMax := by
      rw [creepCode, motorCode, hrecord, hheld.motorMax]
    have henable : spindleEnable (changeBegun g s) = spindleEnable s := by
      simp only [spindleEnable, hasSpindleFault, hasCode, hstop]
    rw [hcode, henable]
  · rw [hform]
    exact (congrArg Spindle.reference (strokeSpindle_rests (s := changeBegun g s) (hswitches ▸ hfrees))).trans href

/-! ### A new target in PAUSE (R137) -/

/-- The record that a new target in PAUSE plans from. -/
def pauseRetargeted (g : GearTarget) (s : State) : State :=
  { s with gear := { s.gear with target := some g, owner := some .order, attempts := 0, pauseTimer := none } }

theorem gearTargetTaken_replans (hstep : s.gear.step = .pause) (htarget : s.gear.target ≠ some g) :
    gearTargetTaken g s = planFirst (pauseRetargeted g s) := gearTargetTaken_pause hstep htarget

/-- In PAUSE a new target is planned and its stroke granted at once (R112, R137). -/
theorem gearSet_replans (hs : Settled s) (hroom : ReplyRoom s) (h : GearAdmitted s) (hfree : GearFree s)
    (hstep : s.gear.step = .pause) (htarget : s.gear.target ≠ some g) (hplan : planStroke s.gear.switches g = some k)
    (hreq : s.valve.requests = []) (hpressure : s.valve.pressureOk = true) (hopen : confirmed s (.fork k) = false) :
    ∃ t, exec (.gearSet tag [GearTarget.byte g]) s = .next t
      ∧ t = { s with gear := t.gear, spindle := t.spindle, valve := t.valve, link := t.link }
      ∧ Owes s t [.accept tag (.gear s.gear.gearbox .stroke)] []
      ∧ t.gear =
          { s.gear with
            step := .stroke, target := some g, owner := some .order, attempts := 0, pauseTimer := none
            stroke := some k, engaging := strokeEngages s.gear.switches k
            creep := if strokeEngages s.gear.switches k then some ⟨.cw, 250⟩ else s.gear.creep }
      ∧ t.valve = { s.valve with requests := [⟨.fork k, 0, .active s.valve.forkLimit⟩] }
      ∧ t.spindle.sProg = s.spindle.sProg
      ∧ (strokeEngages s.gear.switches k = true → t.spindle.phase = .creep)
      ∧ (strokeEngages s.gear.switches k = false → t.spindle = s.spindle) := by
  have htaken : gearTargetTaken g s = requestStroke k (pauseRetargeted g s) :=
    (gearTargetTaken_replans hstep htarget).trans (planFirst_some rfl hplan)
  have hgranted : withOpportunity (gearTargetTaken g) s = strokeBegun k (pauseRetargeted g s) :=
    (gearTarget_grants htaken (requestStroke_joins k (pauseRetargeted g s))).trans
      (requestStroke_granted (s := pauseRetargeted g s) hreq hpressure h.armed hopen)
  have hsettled : Settled (strokeBegun k (pauseRetargeted g s)) :=
    strokeBegun_settled (hs.1.of_eq rfl rfl) (hs.2.of_eq rfl) hreq
  obtain ⟨t, ht, hform, howes⟩ := h.completes (tag := tag) hroom hfree hgranted hsettled rfl
  refine ⟨t, ht, ?_, howes, ?_, ?_, ?_, fun hengages => ?_, fun hrests => ?_⟩ <;> rw [hform]
  · rfl
  · rfl
  · rfl
  · exact (strokeSpindle_sProg k (pauseRetargeted g s)).1
  · exact (strokeSpindle_creeps (s := pauseRetargeted g s) hengages).1
  · exact strokeSpindle_rests (s := pauseRetargeted g s) hrests

/-- A change at its end, before TSC is placed anew (R124). -/
def changeSettled (s : State) : State :=
  deriveState
    { s with gear := { s.gear with step := .idle, target := none, owner := none, stroke := none, attempts := 0 } }

theorem settleChange_eq (s : State) :
    settleChange s =
      if (coolantChangeEnds (changeSettled s)).gear.gearbox == .neutral
          && perRevStarting (coolantChangeEnds (changeSettled s)) then
        raiseCause .gear (coolantChangeEnds (changeSettled s))
      else coolantChangeEnds (changeSettled s) := rfl

/-- A change settled with no PER_REV head and no TSC to place anew (R124, R137). -/
theorem settleChange_quiet (hhead : headIsPerRev s = false) (h1 : s.coolant.tsc ≠ .suspended)
    (h2 : s.coolant.tsc ≠ .blocked) : settleChange s = changeSettled s := by
  have hplaced : coolantChangeEnds (changeSettled s) = changeSettled s :=
    coolantChangeEnds_unheard (by simpa [changeSettled] using h1) (by simpa [changeSettled] using h2)
  have hquiet : perRevStarting (changeSettled s) = false := by
    have hsame : headIsPerRev (changeSettled s) = headIsPerRev s := by simp [changeSettled, headIsPerRev, headBody]
    rw [perRevStarting, hsame, hhead]
    rfl
  rw [settleChange_eq, hplaced, hquiet, Bool.and_false, if_neg Bool.false_ne_true]

/-- In PAUSE a new target that is met ends the change (R124, R137). -/
theorem gearSet_settles (hs : Settled s) (hroom : ReplyRoom s) (h : GearAdmitted s) (hfree : GearFree s)
    (hstep : s.gear.step = .pause) (htarget : s.gear.target ≠ some g) (hplan : planStroke s.gear.switches g = none)
    (h1 : s.coolant.tsc ≠ .suspended) (h2 : s.coolant.tsc ≠ .blocked) :
    ∃ t, exec (.gearSet tag [GearTarget.byte g]) s = .next t
      ∧ t = { s with gear := t.gear, spindle := t.spindle, link := t.link }
      ∧ t.gear =
          { s.gear with
            step := .idle, target := none, owner := none, stroke := none, attempts := 0, pauseTimer := none
            gearbox := deriveGearbox s.gear.switches }
      ∧ t.spindle.sCmd = (commandedSpeed t t.spindle).1
      ∧ Owes s t [.accept tag (.gear t.gear.gearbox .idle)] [] := by
  have hhead : headIsPerRev s = false := hfree.2.1
  have htaken : gearTargetTaken g s = changeSettled (pauseRetargeted g s) :=
    ((gearTargetTaken_replans hstep htarget).trans (planFirst_none rfl hplan)).trans
      (settleChange_quiet (s := pauseRetargeted g s) hhead h1 h2)
  have hrecord : (changeSettled (pauseRetargeted g s)).gear =
      { s.gear with
        step := .idle, target := none, owner := none, stroke := none, attempts := 0, pauseTimer := none
        gearbox := deriveGearbox s.gear.switches } := by
    simp [changeSettled, pauseRetargeted]
  have hcmd : (changeSettled (pauseRetargeted g s)).spindle.sCmd =
      (commandedSpeed (changeSettled (pauseRetargeted g s)) (changeSettled (pauseRetargeted g s)).spindle).1 :=
    formSpeed_sCmd _
  obtain ⟨t, ht, hform, howes⟩ := h.completes (tag := tag) hroom hfree
    (gearTarget_quiet htaken (by simp [changeSettled, pauseRetargeted]))
    (hs.of_eq (by simp [changeSettled, pauseRetargeted]) (by simp [changeSettled, pauseRetargeted])
      (by simp [changeSettled, pauseRetargeted])) (by simp [changeSettled, pauseRetargeted])
  have hstep : (changeSettled (pauseRetargeted g s)).gear.step = .idle := by rw [hrecord]
  rw [hstep] at howes
  have hgear : t.gear = (changeSettled (pauseRetargeted g s)).gear := by rw [hform]
  refine ⟨t, ht, ?_, hgear.trans hrecord, ?_, by rw [hgear]; exact howes⟩ <;> rw [hform]
  · simp [changeSettled, pauseRetargeted]
  · exact hcmd

/-- Behind ACTIVE strokes that leave less than its units the first stroke waits, with no creep (R87, R89). -/
theorem gearSet_queues (hs : Settled s) (hroom : ReplyRoom s) (h : GearAdmitted s) (hfree : GearFree s)
    (hstep : s.gear.step = .idle) (hgear : s.gear.gearbox ≠ g.state)
    (hstopped : s.spindle.stopped = true) (hpressure : s.valve.pressureOk = true)
    (hplan : planStroke s.gear.switches g = some k) (hwide : 2 ≤ flowInUse s.valve.requests)
    (hactive : ∀ r ∈ s.valve.requests, r.isActive = true ∧ confirmed s r.stroke = false) :
    ∃ t, exec (.gearSet tag [GearTarget.byte g]) s = .next t
      ∧ t =
          { s with
            gear := t.gear, spindle := t.spindle, coolant := t.coolant, valve := t.valve, link := t.link }
      ∧ Owes s t [.accept tag (.gear .shifting .stroke)] []
      ∧ t.gear =
          { s.gear with
            gearbox := .shifting, step := .stroke, target := some g, owner := some .order, attempts := 0
            stroke := some k, engaging := strokeEngages s.gear.switches k }
      ∧ t.valve = { s.valve with requests := s.valve.requests ++ [⟨.fork k, 0, .waiting⟩] }
      ∧ t.spindle.sProg = s.spindle.sProg ∧ t.spindle.sCmd = 0
      ∧ (s.spindle.phase ≠ .creep → t.spindle.phase ≠ .creep) := by
  obtain ⟨-, hrecord⟩ := changeBegun_blocks g s
  obtain ⟨hheld, -⟩ := changeBegun_spindle g s
  obtain ⟨hwait, hexpired⟩ := hs.2.rest_of_pressure hpressure
  have hvalve : (changeBegun g s).valve = s.valve := by simp
  have hwaits : withOpportunity (gearTargetTaken g) s = requestStroke k (changeBegun g s) := by
    rw [gearTarget_grants (gearTargetTaken_plans hstep hgear hstopped hplan) (hvalve ▸ requestStroke_joins k (changeBegun g s))]
    exact requestStroke_waits (hvalve ▸ hwide) fun r hr => by
      rw [confirmed_changeBegun]
      exact hactive r (hvalve ▸ hr)
  have hlist : (requestStroke k (changeBegun g s)).valve =
      { s.valve with requests := s.valve.requests ++ [⟨.fork k, 0, .waiting⟩] } := by
    simp [requestStroke, joinRequest]
  have hsettled : Settled (requestStroke k (changeBegun g s)) := by
    refine ⟨hs.1.of_eq ?_ ?_, .of_pressure ?_ ?_ ?_⟩
    · simp
    · simp
    · rw [hlist]; exact hpressure
    · rw [hlist]; exact hwait
    · rw [hlist]; exact hexpired
  obtain ⟨t, ht, hform, howes⟩ := h.completes (tag := tag) hroom hfree hwaits hsettled (by simp)
  have hstroke : (requestStroke k (changeBegun g s)).gear =
      { s.gear with
        gearbox := .shifting, step := .stroke, target := some g, owner := some .order, attempts := 0
        stroke := some k, engaging := strokeEngages s.gear.switches k } := by
    simp [requestStroke, joinRequest, hrecord]
  rw [hstroke] at howes
  refine ⟨t, ht, ?_, howes, ?_, ?_, ?_, ?_, fun hcreep => ?_⟩ <;> rw [hform]
  · simp
  · exact hstroke
  · exact hlist
  · simpa using hheld.sProg
  · simpa using hheld.sCmd
  · simpa using hheld.phase hcreep

/-- Settles O33: the refusal, and what an accepted Gear Set does at each step of a change. -/
theorem gearSetBeginsChange : Obligations.GearSetBeginsChange := by
  unfold Obligations.GearSetBeginsChange
  intro s tag g hs hroom htable harmed hhost
  have h : GearAdmitted s := ⟨htable, harmed, hhost⟩
  refine ⟨fun hbusy => completes_refuse (fun _ => rfl) hroom (h.refuses hbusy) hs,
    fun hplanner hhead hheld hreq => ?_, fun hplanner hhead hheld => ?_⟩
  · have hfree : ∀ step, s.gear.step = step → step ≠ .ending → GearFree s :=
      fun step hstep hne => ⟨hplanner, hhead, hheld, hstep ▸ hne⟩
    refine ⟨fun hstep hgear => ?_, fun hstep htarget => ?_, fun hstep hgear hturns => ?_,
      fun k hstep hgear hstopped hpressure hplan hopen => ?_⟩
    · have hmet : gearTargetTaken g s = s := by rw [gearTargetTaken_idle hstep, if_pos hgear]
      have hdone := h.completes (tag := tag) hroom (hfree _ hstep (by simp)) (gearTarget_quiet hmet rfl) hs rfl
      rwa [hstep] at hdone
    · have hdone := h.completes (tag := tag) hroom (hfree _ hstep (by simp))
        (gearTarget_quiet (gearTargetTaken_waiting (.inl hstep) htarget) rfl) (hs.of_eq rfl rfl rfl) rfl
      have hstays : (retargeted g s).gear.step = .stopping := hstep
      rwa [hstays] at hdone
    · exact gearSet_waits hs hroom h (hfree _ hstep (by simp)) hstep hgear hturns
    · exact gearSet_strokes hs hroom h (hfree _ hstep (by simp)) hreq hstep hgear hstopped hpressure hplan hopen
  · have hfree : ∀ step, s.gear.step = step → step ≠ .ending → GearFree s :=
      fun step hstep hne => ⟨hplanner, hhead, hheld, hstep ▸ hne⟩
    refine ⟨fun hstep htarget => ?_, fun hstep htarget => ?_, fun k hstep htarget hplan hreq hpressure hopen => ?_,
      fun hstep htarget hplan h1 h2 => ?_, fun k hstep hgear hstopped hpressure hplan hwide hactive => ?_⟩
    · have hnot : s.gear.step ≠ .ending := by rcases hstep with e | e | e <;> simp [e]
      exact h.completes hroom (hfree _ rfl hnot) (gearTarget_quiet (gearTargetTaken_held hstep htarget) rfl) hs rfl
    · have hdone := h.completes (tag := tag) hroom (hfree _ hstep (by simp))
        (gearTarget_quiet (gearTargetTaken_waiting (.inr hstep) htarget) rfl) (hs.of_eq rfl rfl rfl) rfl
      have hstays : (retargeted g s).gear.step = .stroke := hstep
      rwa [hstays] at hdone
    · exact gearSet_replans hs hroom h (hfree _ hstep (by simp)) hstep htarget hplan hreq hpressure hopen
    · exact gearSet_settles hs hroom h (hfree _ hstep (by simp)) hstep htarget hplan h1 h2
    · exact gearSet_queues hs hroom h (hfree _ hstep (by simp)) hstep hgear hstopped hpressure hplan hwide hactive

end

end Sys2Proof.Machine

namespace Sys2Proof.Machine

/-! ## The payloads of the setting orders (R86, R105, R121, R143) -/

section

theorem le16_append (pre rest : List Byte) (i : Nat) : le16 (pre ++ rest) (pre.length + i) = le16 rest i := by
  simp only [le16, Nat.add_assoc, byteAt_append]

theorem byteAt_leBytes (n : Nat) (h : n ≤ 255) (rest : List Byte) : byteAt (leBytes 1 n ++ rest) 0 = n := by
  simp [byteAt, leBytes]
  omega

theorem valveParams_bytes {bypass clampMs forkMs : Nat} (hb : bypass ≤ 7) (hc1 : 200 ≤ clampMs) (hc2 : clampMs ≤ 10000)
    (hf1 : 200 ≤ forkMs) (hf2 : forkMs ≤ 10000) :
    valveParams (leBytes 1 bypass ++ leBytes 2 clampMs ++ leBytes 2 forkMs) = some (bypass, clampMs, forkMs) := by
  have hclamp : le16 (leBytes 1 bypass ++ (leBytes 2 clampMs ++ leBytes 2 forkMs)) 1 = clampMs :=
    (le16_append (leBytes 1 bypass) _ 0).trans (le16_leBytes clampMs (by omega) _)
  have hfork : le16 (leBytes 1 bypass ++ leBytes 2 clampMs ++ leBytes 2 forkMs) 3 = forkMs := by
    have hlast := le16_leBytes forkMs (by omega) []
    rw [List.append_nil] at hlast
    exact (le16_append (leBytes 1 bypass ++ leBytes 2 clampMs) _ 0).trans hlast
  rw [valveParams, hfork, List.append_assoc, byteAt_leBytes bypass (by omega), hclamp, within_eq (Nat.zero_le _) hb,
    within_eq hc1 hc2, within_eq hf1 hf2]
  rfl

theorem spindleParams_bytes {motor ramp tol : Nat} (hm1 : 500 ≤ motor) (hm2 : motor ≤ 6000) (hr1 : 1 ≤ ramp)
    (hr2 : ramp ≤ 200) (ht1 : 1 ≤ tol) (ht2 : tol ≤ 20) :
    spindleParams (leBytes 2 motor ++ leBytes 1 ramp ++ leBytes 1 tol) = some (motor, ramp, tol) := by
  have hramp : byteAt (leBytes 2 motor ++ (leBytes 1 ramp ++ leBytes 1 tol)) 2 = ramp :=
    (byteAt_append (leBytes 2 motor) _ 0).trans (byteAt_leBytes ramp (by omega) _)
  have htol : byteAt (leBytes 2 motor ++ leBytes 1 ramp ++ leBytes 1 tol) 3 = tol :=
    (byteAt_append (leBytes 2 motor ++ leBytes 1 ramp) _ 0).trans (byteAt_leBytes_one (by omega))
  rw [spindleParams, htol, List.append_assoc, le16_leBytes motor (by omega), hramp, within_eq hm1 hm2,
    within_eq hr1 hr2, within_eq ht1 ht2]
  rfl

theorem gearRow_append (pre rest : List Byte) (i : Nat) : gearRow (pre ++ rest) (pre.length + i) = gearRow rest i := by
  simp only [gearRow, Nat.add_assoc, le16_append, byteAt_append]

theorem gearRow_rowBytes {r : RangeRow} (h : rowFits r) (rest : List Byte) : gearRow (rowBytes r ++ rest) 0 = some r := by
  obtain ⟨hmin, hlt, hmax, hnum1, hnum2, hden1, hden2⟩ := h
  have h0 : le16 (rowBytes r ++ rest) 0 = r.min := by
    simp only [rowBytes, List.append_assoc]
    exact le16_leBytes r.min (by omega) _
  have h2 : le16 (rowBytes r ++ rest) 2 = r.max := by
    simp only [rowBytes, List.append_assoc]
    exact (le16_append (leBytes 2 r.min) _ 0).trans (le16_leBytes r.max (by omega) _)
  have h4 : byteAt (rowBytes r ++ rest) 4 = r.num := by
    have hsplit : rowBytes r ++ rest =
        (leBytes 2 r.min ++ leBytes 2 r.max) ++ (leBytes 1 r.num ++ (leBytes 1 r.den ++ rest)) := by
      simp only [rowBytes, List.append_assoc]
    rw [hsplit]
    exact (byteAt_append (leBytes 2 r.min ++ leBytes 2 r.max) _ 0).trans (byteAt_leBytes r.num hnum2 _)
  have h5 : byteAt (rowBytes r ++ rest) 5 = r.den := by
    have hsplit : rowBytes r ++ rest =
        (leBytes 2 r.min ++ leBytes 2 r.max ++ leBytes 1 r.num) ++ (leBytes 1 r.den ++ rest) := by
      simp only [rowBytes, List.append_assoc]
    rw [hsplit]
    exact (byteAt_append (leBytes 2 r.min ++ leBytes 2 r.max ++ leBytes 1 r.num) _ 0).trans (byteAt_leBytes r.den hden2 _)
  rw [gearRow, Nat.zero_add, Nat.zero_add, Nat.zero_add, h0, h2, h4, h5]
  exact if_pos ⟨hmin, hlt, hmax, hnum1, hden1⟩

/-- A row that begins at the given place of a payload. -/
theorem gearRow_at {p pre rest : List Byte} {n : Nat} {r : RangeRow} (h : rowFits r)
    (hp : p = pre ++ (rowBytes r ++ rest)) (hn : pre.length = n) : gearRow p n = some r := by
  subst hp hn
  exact (gearRow_append pre _ 0).trans (gearRow_rowBytes h rest)

/-- A byte that stands at the given place of a payload. -/
theorem byteAt_at {p pre rest : List Byte} {n : Nat} (hp : p = pre ++ rest) (hn : pre.length = n) :
    byteAt p n = byteAt rest 0 := by
  subst hp hn
  exact byteAt_append pre rest 0

/-- The payload of a Set Gears order (R121, log 8). -/
def gearBytes (g : GearTable) (auto : Bool) (creep retry : Nat) : List Byte :=
  rowBytes g.i ++ rowBytes g.ii ++ rowBytes g.iii ++ rowBytes g.iv ++ [flagByte auto] ++ leBytes 1 creep
    ++ leBytes 1 retry

theorem gearLoad_bytes {g : GearTable} {auto : Bool} {creep retry : Nat} (hrows : ∀ r, rowFits (g.row r))
    (hc1 : 10 ≤ creep) (hc2 : creep ≤ 120) (hr : retry ≤ 8) :
    gearLoad (gearBytes g auto creep retry) = some ⟨g, auto, creep, retry⟩ := by
  have hi : gearRow (gearBytes g auto creep retry) 0 = some g.i := by
    simp only [gearBytes, List.append_assoc]
    exact gearRow_rowBytes (hrows .i) _
  have hii : gearRow (gearBytes g auto creep retry) 6 = some g.ii :=
    gearRow_at (pre := rowBytes g.i) (hrows .ii) (by simp only [gearBytes, List.append_assoc]; rfl) rfl
  have hiii : gearRow (gearBytes g auto creep retry) 12 = some g.iii :=
    gearRow_at (pre := rowBytes g.i ++ rowBytes g.ii) (hrows .iii) (by simp only [gearBytes, List.append_assoc]; rfl) rfl
  have hiv : gearRow (gearBytes g auto creep retry) 18 = some g.iv :=
    gearRow_at (pre := rowBytes g.i ++ rowBytes g.ii ++ rowBytes g.iii) (hrows .iv)
      (by simp only [gearBytes, List.append_assoc]; rfl) rfl
  have hauto : byteAt (gearBytes g auto creep retry) 24 = (flagByte auto).toNat :=
    byteAt_at (pre := rowBytes g.i ++ rowBytes g.ii ++ rowBytes g.iii ++ rowBytes g.iv)
      (rest := flagByte auto :: (leBytes 1 creep ++ leBytes 1 retry))
      (by simp only [gearBytes, List.append_assoc, List.cons_append, List.nil_append]) rfl
  have hcreep : byteAt (gearBytes g auto creep retry) 25 = creep :=
    (byteAt_at (pre := rowBytes g.i ++ rowBytes g.ii ++ rowBytes g.iii ++ rowBytes g.iv ++ [flagByte auto])
      (rest := leBytes 1 creep ++ leBytes 1 retry) (by simp only [gearBytes, List.append_assoc]) rfl).trans
      (byteAt_leBytes creep (by omega) _)
  have hretry : byteAt (gearBytes g auto creep retry) 26 = retry :=
    (byteAt_at (pre := rowBytes g.i ++ rowBytes g.ii ++ rowBytes g.iii ++ rowBytes g.iv ++ [flagByte auto]
      ++ leBytes 1 creep) (rest := leBytes 1 retry) rfl rfl).trans (byteAt_leBytes_one (by omega))
  rw [gearLoad, hi, hii, hiii, hiv, hauto, hcreep, hretry, flagOf_flagByte, within_eq hc1 hc2, within_eq (Nat.zero_le _) hr]
  rfl

@[simp] theorem buildActionOf_byte (act : BuildAction) : buildActionOf act.byte.toNat = some act := by
  cases act <;> rfl

/-- The payload of a Set Coolant Params order (R143, log 8). -/
def coolantBytes (tscMin build : Nat) (act : BuildAction) (purge limit : Nat) : List Byte :=
  leBytes 2 tscMin ++ leBytes 2 build ++ [BuildAction.byte act] ++ leBytes 2 purge ++ leBytes 2 limit

theorem le16_at {p pre rest : List Byte} {n : Nat} (hp : p = pre ++ rest) (hn : pre.length = n) :
    le16 p n = le16 rest 0 := by
  subst hp hn
  exact le16_append pre rest 0

theorem coolantParams_bytes {tscMin build purge limit : Nat} {act : BuildAction} (hm1 : 50 ≤ tscMin)
    (hm2 : tscMin ≤ 1000) (hb1 : 500 ≤ build) (hb2 : build ≤ 20000) (hp : purge ≤ 10000) (hl1 : 100 ≤ limit)
    (hl2 : limit ≤ 3000) :
    coolantParams (coolantBytes tscMin build act purge limit) = some ⟨tscMin, build, act, purge, limit⟩ := by
  have hmin : le16 (coolantBytes tscMin build act purge limit) 0 = tscMin := by
    simp only [coolantBytes, List.append_assoc]
    exact le16_leBytes tscMin (by omega) _
  have hbuild : le16 (coolantBytes tscMin build act purge limit) 2 = build :=
    (le16_at (pre := leBytes 2 tscMin)
      (rest := leBytes 2 build ++ ([BuildAction.byte act] ++ (leBytes 2 purge ++ leBytes 2 limit)))
      (by simp only [coolantBytes, List.append_assoc]) rfl).trans (le16_leBytes build (by omega) _)
  have hact : byteAt (coolantBytes tscMin build act purge limit) 4 = act.byte.toNat :=
    byteAt_at (pre := leBytes 2 tscMin ++ leBytes 2 build) (rest := act.byte :: (leBytes 2 purge ++ leBytes 2 limit))
      (by simp only [coolantBytes, List.append_assoc, List.cons_append, List.nil_append]) rfl
  have hpurge : le16 (coolantBytes tscMin build act purge limit) 5 = purge :=
    (le16_at (pre := leBytes 2 tscMin ++ leBytes 2 build ++ [BuildAction.byte act])
      (rest := leBytes 2 purge ++ leBytes 2 limit) (by simp only [coolantBytes, List.append_assoc]) rfl).trans
      (le16_leBytes purge (by omega) _)
  have hlimit : le16 (coolantBytes tscMin build act purge limit) 7 = limit := by
    have hlast := le16_leBytes limit (by omega) []
    rw [List.append_nil] at hlast
    exact (le16_at (pre := leBytes 2 tscMin ++ leBytes 2 build ++ [BuildAction.byte act] ++ leBytes 2 purge)
      (rest := leBytes 2 limit) rfl rfl).trans hlast
  rw [coolantParams, hmin, hbuild, hact, hpurge, hlimit, buildActionOf_byte, within_eq hm1 hm2, within_eq hb1 hb2,
    within_eq (Nat.zero_le _) hp, within_eq hl1 hl2]
  rfl

end

section

variable {s : State} {tag : Tag}

/-! ## What the setting orders replace (O29) -/

/-- The row that S_cmd is formed from gives dac_target (R108). -/
theorem loadSpindle_spindle (motor ramp tol : Nat) (s : State) :
    loadSpindle (motor, ramp, tol) s = { s with spindle := (loadSpindle (motor, ramp, tol) s).spindle }
      ∧ (loadSpindle (motor, ramp, tol) s).spindle =
          { s.spindle with
            motorMax := motor, ramp := ramp, tolerance := tol
            dacTarget := (loadSpindle (motor, ramp, tol) s).spindle.dacTarget
            speedClamped := (loadSpindle (motor, ramp, tol) s).spindle.speedClamped }
      ∧ (s.spindle.phase = .creep →
          (loadSpindle (motor, ramp, tol) s).spindle.dacTarget = roundUp (s.gear.creepSpeed * 4095) motor)
      ∧ (s.spindle.phase = .reversing ∨ (s.spindle.phase = .run ∧ s.spindle.sCmd = 0) →
          (loadSpindle (motor, ramp, tol) s).spindle.dacTarget = 0)
      ∧ (∀ row, s.spindle.phase = .run → currentRow s = some row → s.spindle.sCmd ≠ 0 →
          (loadSpindle (motor, ramp, tol) s).spindle.dacTarget =
            min (roundUp (roundUp (s.spindle.sCmd * row.num) row.den * 4095) motor) 4095) := by
  have hload : ∀ p, withTarget { s with spindle := p } p =
      { p with dacTarget := (withTarget { s with spindle := p } p).dacTarget
               speedClamped := (withTarget { s with spindle := p } p).speedClamped } := fun p => by
    unfold withTarget
    split <;> rfl
  refine ⟨rfl, hload _, fun hphase => ?_, fun hstill => ?_, fun row hphase hrow hcmd => ?_⟩
  · simp [loadSpindle, formTarget, withTarget, hphase, motorCode]
  · rcases hstill with hphase | ⟨hphase, hcmd⟩
    · simp [loadSpindle, formTarget, withTarget, hphase]
    · have hzero : ∀ t : State, ∀ p : Spindle, p.sCmd = 0 → uncappedTarget t p = 0 := fun t p hp => by
        unfold uncappedTarget
        split <;> simp [hp]
      simp [loadSpindle, formTarget, withTarget, hphase, hzero, hcmd]
  · have hsame : ∀ p, currentRow { s with spindle := p } = some row := fun p => hrow
    simp [loadSpindle, formTarget, withTarget, hphase, uncappedTarget, hsame, hcmd, motorCode]

/-- The gear table as it is replaced (R121). -/
theorem loadGears_open {g : GearTable} {auto : Bool} {creep retry : Nat} (h : s.coolant.tsc ≠ .blocked) :
    loadGears ⟨g, auto, creep, retry⟩ s =
      formSpeed
        { s with gear := { s.gear with table := some g, autoRange := auto, creepSpeed := creep, retryLimit := retry } } :=
  coolantRejudge_of_ne (by simpa using h)

/-- The record that a Set Coolant Params order leaves of the Coolant Unit (R143, R152). -/
def coolantSet (c : CoolantParams) (s : State) : State :=
  { s with
    coolant :=
      { s.coolant with
        tscMin := c.tscMin, buildLimit := c.buildLimit, buildAction := c.buildAction, purgeTime := c.purgeTime
        unionLimit := c.unionLimit, buildRun := 0, lossCount := 0 } }

/-- Under a ceiling S_cmd is formed anew (R106, R152). -/
theorem loadCoolant_open {c : CoolantParams} (h : s.coolant.tsc ≠ .blocked) :
    loadCoolant c s = if tscPump s then formSpeed (coolantSet c s) else coolantSet c s := by
  have hform : loadCoolant c s = coolantRejudge (if tscPump s then formSpeed (coolantSet c s) else coolantSet c s) := rfl
  rw [hform, coolantRejudge_of_ne]
  split <;> simpa [coolantSet] using h

theorem enterBuilding_coolantSet_settled {c : CoolantParams} (hs : Settled s) :
    Settled (enterBuilding (coolantSet c s)) := by
  refine hs.of_eq ?_ ?_ ?_ <;> simp [enterBuilding, coolantSet]

/-- A BLOCKED TSC is judged again, and builds where the limit admits the range (R146, R152). -/
theorem loadCoolant_blocked {c : CoolantParams} {row : RangeRow} (h : s.coolant.tsc = .blocked)
    (hrow : currentRow s = some row) (hadmits : row.min ≤ c.unionLimit) :
    loadCoolant c s = enterBuilding (coolantSet c s) := by
  have hpump : tscPump s = false := by simp [tscPump, h]
  have hform : loadCoolant c s = coolantRejudge (coolantSet c s) := by
    show coolantRejudge (if tscPump s then formSpeed (coolantSet c s) else coolantSet c s) = _
    rw [hpump]
    rfl
  have hshift : (coolantSet c s).gear.gearbox ≠ .shifting := fun e => by
    rw [currentRow_shifting (s := s) e] at hrow
    cases hrow
  have hslow : rangeTooFast (coolantSet c s) = false := by
    refine Bool.eq_false_iff.mpr fun hfast => ?_
    obtain ⟨r, hr, hlt⟩ := (rangeTooFast_iff _).mp hfast
    have hsame : row = r := Option.some.inj (hrow.symm.trans hr)
    subst hsame
    exact absurd hadmits (Nat.not_le.2 hlt)
  have hblocked : (coolantSet c s).coolant.tsc = .blocked := h
  rw [hform]
  simp [coolantRejudge, hblocked, startJudgement, hshift, hslow]

/-! ### The orders judged -/

/-- An order whose fields are in range and whose state refuses it (R196). -/
theorem judgeField_refuse {α : Type} {before : List (Bool × RefuseCode)} {f : Option α} {x : α}
    {after : α → List (Bool × RefuseCode)} {taken : α → Verdict} {c : RefuseCode} (h1 : ∀ c ∈ before, c.1 = false)
    (h2 : f = some x) (h3 : firstRefusal (after x) = some c) : judgeField before f after taken = .refuse c := by
  unfold judgeField
  rw [firstRefusal_none h1, h2]
  simp [judge, h3]

theorem setSpindleParamsOrder_accepts {motor ramp tol : Nat} (hm1 : 500 ≤ motor) (hm2 : motor ≤ 6000) (hr1 : 1 ≤ ramp)
    (hr2 : ramp ≤ 200) (ht1 : 1 ≤ tol) (ht2 : tol ≤ 20) (hfree : motor = s.spindle.motorMax ∨ s.spindle.reference = 0) :
    setSpindleParamsOrder (leBytes 2 motor ++ leBytes 1 ramp ++ leBytes 1 tol) s =
      .accept (loadSpindle (motor, ramp, tol) s) .empty := by
  refine (judgeField_accept (by simp [leBytes]) (spindleParams_bytes hm1 hm2 hr1 hr2 ht1 ht2) ?_).trans rfl
  rcases hfree with e | e <;> simp [e]

theorem setSpindleParamsOrder_refuses {motor ramp tol : Nat} (hm1 : 500 ≤ motor) (hm2 : motor ≤ 6000) (hr1 : 1 ≤ ramp)
    (hr2 : ramp ≤ 200) (ht1 : 1 ≤ tol) (ht2 : tol ≤ 20) (hmotor : motor ≠ s.spindle.motorMax)
    (href : s.spindle.reference ≠ 0) :
    setSpindleParamsOrder (leBytes 2 motor ++ leBytes 1 ramp ++ leBytes 1 tol) s = .refuse .busy :=
  judgeField_refuse (by simp [leBytes]) (spindleParams_bytes hm1 hm2 hr1 hr2 ht1 ht2)
    (by simp [firstRefusal, hmotor, href])

theorem gearBytes_length (g : GearTable) (auto : Bool) (creep retry : Nat) :
    (gearBytes g auto creep retry).length = 27 := rfl

theorem setGearsOrder_accepts {g : GearTable} {auto : Bool} {creep retry : Nat} (hrows : ∀ r, rowFits (g.row r))
    (hc1 : 10 ≤ creep) (hc2 : creep ≤ 120) (hr : retry ≤ 8) (hstep : s.gear.step = .idle) :
    setGearsOrder (gearBytes g auto creep retry) s = .accept (loadGears ⟨g, auto, creep, retry⟩ s) .empty :=
  (judgeField_accept (by simp [gearBytes_length]) (gearLoad_bytes hrows hc1 hc2 hr) (by simp [hstep])).trans rfl

theorem setGearsOrder_refuses {g : GearTable} {auto : Bool} {creep retry : Nat} (hrows : ∀ r, rowFits (g.row r))
    (hc1 : 10 ≤ creep) (hc2 : creep ≤ 120) (hr : retry ≤ 8) (hstep : s.gear.step ≠ .idle) :
    setGearsOrder (gearBytes g auto creep retry) s = .refuse .busy :=
  judgeField_refuse (by simp [gearBytes_length]) (gearLoad_bytes hrows hc1 hc2 hr) (by simp [firstRefusal, hstep])

theorem setCoolantParamsOrder_accepts {tscMin build purge limit : Nat} {act : BuildAction} (hm1 : 50 ≤ tscMin)
    (hm2 : tscMin ≤ 1000) (hb1 : 500 ≤ build) (hb2 : build ≤ 20000) (hp : purge ≤ 10000) (hl1 : 100 ≤ limit)
    (hl2 : limit ≤ 3000) :
    setCoolantParamsOrder (coolantBytes tscMin build act purge limit) s =
      .accept (loadCoolant ⟨tscMin, build, act, purge, limit⟩ s) .empty :=
  (judgeField_accept (by simp [coolantBytes, leBytes]) (coolantParams_bytes hm1 hm2 hb1 hb2 hp hl1 hl2) (by simp)).trans rfl

/-- Settles O29: the four setting orders, each with its payload read back and its effect. -/
theorem settingOrdersReplace : Obligations.SettingOrdersReplace := by
  unfold Obligations.SettingOrdersReplace
  intro s tag hs hroom
  refine ⟨fun bypass clampMs forkMs hb hc1 hc2 hf1 hf2 => ?_, fun motor ramp tol hm1 hm2 hr1 hr2 ht1 ht2 => ?_,
    fun g auto creep retry bytes hrows hc1 hc2 hr hbytes => ?_,
    fun tscMin build purge limit act bytes hm1 hm2 hb1 hb2 hp hl1 hl2 hbytes => ?_⟩
  · exact completes_order (kind := 0x25) (fun _ => rfl) hroom
      (judgeField_accept (by simp [leBytes]) (valveParams_bytes hb hc1 hc2 hf1 hf2) (by simp))
      ⟨hs.1.of_eq rfl rfl, hs.2⟩ rfl
  · obtain ⟨hblocks, hspindle, hcreep, hzero, hrow⟩ := loadSpindle_spindle motor ramp tol s
    refine ⟨fun hfree => ?_, fun hmotor href => completes_refuse (fun _ => rfl) hroom
      (setSpindleParamsOrder_refuses hm1 hm2 hr1 hr2 ht1 ht2 hmotor href) hs⟩
    obtain ⟨t, ht, hform, howes⟩ := completes_order (c := .setSpindleParams tag _) (fun _ => rfl) hroom
      (setSpindleParamsOrder_accepts hm1 hm2 hr1 hr2 ht1 ht2 hfree)
      (hs.of_eq (by rw [hblocks]) (by rw [hblocks]) (by rw [hblocks])) (by rw [hblocks])
    have hsame : t.spindle = (loadSpindle (motor, ramp, tol) s).spindle := by rw [hform]
    rw [← hsame] at hspindle hcreep hzero hrow
    exact ⟨t, ht, by rw [hform, hblocks], howes, hspindle, hcreep, hzero, hrow⟩
  · subst hbytes
    refine ⟨fun hstep hopen => ?_, fun hstep => completes_refuse (fun _ => rfl) hroom
      (setGearsOrder_refuses hrows hc1 hc2 hr hstep) hs⟩
    have haccepts := setGearsOrder_accepts (s := s) (auto := auto) hrows hc1 hc2 hr hstep
    rw [loadGears_open hopen] at haccepts
    obtain ⟨t, ht, hform, howes⟩ := completes_order (c := .setGears tag (gearBytes g auto creep retry)) (fun _ => rfl)
      hroom haccepts (hs.of_eq (by simp) (by simp) (by simp)) (by simp)
    refine ⟨t, ht, ?_, howes, ?_, ?_, ?_⟩ <;> rw [hform]
    · simp
    · simp
    · simp
    · exact formSpeed_sCmd _
  · subst hbytes
    have haccepts := setCoolantParamsOrder_accepts (s := s) (act := act) hm1 hm2 hb1 hb2 hp hl1 hl2
    refine ⟨fun hopen => ?_, fun row hblocked hrow hadmits => ?_⟩
    · rw [loadCoolant_open hopen] at haccepts
      have hkept : (if tscPump s then formSpeed (coolantSet ⟨tscMin, build, act, purge, limit⟩ s)
          else coolantSet ⟨tscMin, build, act, purge, limit⟩ s) =
          { coolantSet ⟨tscMin, build, act, purge, limit⟩ s with
            spindle := if tscPump s then (formSpeed (coolantSet ⟨tscMin, build, act, purge, limit⟩ s)).spindle
              else s.spindle } := by
        cases tscPump s
        · rfl
        · simp [State.eq_iff_blocks]
      rw [hkept] at haccepts
      obtain ⟨t, ht, hform, howes⟩ := completes_order
        (c := .setCoolantParams tag (coolantBytes tscMin build act purge limit)) (fun _ => rfl) hroom haccepts
        (hs.of_eq rfl rfl rfl) rfl
      refine ⟨t, ht, ?_, howes, fun hoff => ?_, fun hon => ?_⟩ <;> rw [hform]
      · rfl
      · simp [hoff]
      · simp only [hon, if_true]
        exact (formSpeed_sCmd _).trans (congrArg Prod.fst (commandedSpeed_congr rfl rfl rfl rfl rfl rfl))
    · rw [loadCoolant_blocked hblocked hrow hadmits] at haccepts
      obtain ⟨t, ht, hform, howes⟩ := completes_order
        (c := .setCoolantParams tag (coolantBytes tscMin build act purge limit)) (fun _ => rfl)
        hroom haccepts (enterBuilding_coolantSet_settled hs) (by simp [enterBuilding, coolantSet])
      refine ⟨t, ht, howes, ?_, ?_, ?_, ?_, ?_, ?_⟩ <;> rw [hform]
      · simp [enterBuilding, coolantSet]
      · simp [enterBuilding]
      · simp [enterBuilding, coolantSet]
      · simp [enterBuilding]
      · simp [enterBuilding, coolantSet, unionCeiling]
      · exact formSpeed_sCmd _

end

end Sys2Proof.Machine
